-- ==== Sys2Proof/Word.lean ====
section
/-! DEFINITION. The word types of the AD-2416: bytes, addresses, identities, blocks, and the two
kinds of numbered units whose range the part fixes (24 bays, 4 farm ports). -/

namespace Sys2Proof

/-- One byte of a frame. -/
abbrev Byte := BitVec 8

/-- A 48-bit Ethernet address (R143). -/
abbrev Addr := BitVec 48

/-- The 20-character serial of a disk (R4, R82), first character most significant. -/
abbrev Serial := BitVec 160

/-- A block of 4,096 bytes, first byte most significant (0.7 of 00_scope.md). -/
abbrev Block := BitVec 32768

/-- A bay number, 0 to 23. -/
abbrev Bay := Fin 24

/-- A farm port number, 0 to 3. -/
abbrev Port := Fin 4

end Sys2Proof
end

