-- ==== Sys2Proof/Syntax.lean ====
section
/-! DEFINITION. The commands of the block: one constructor of `Instr` for each row of
spec/opcode_table.json, in the table's order. A command is an event that a block takes (0.6 of
00_scope.md). Where the event is a message between two blocks, the command names the channel and the
message is the oldest one waiting there. -/

namespace Sys2Proof

/-- How a farm port sorts an arriving frame by its Ethernet type (R157). -/
inductive EtherType where
  | alt                          -- type B7A6h
  | pause (time : BitVec 16)     -- the Ethernet pause type, with the pause time it states (R163)
  | other                        -- any other type, frames tagged before their type field included
  deriving DecidableEq, Repr

/-- A frame as it arrives on a farm port: addresses, type, the bytes after the 14-byte Ethernet
header, and whether its frame check is good (R155, R157). -/
structure InFrame where
  dst     : Addr
  src     : Addr
  type    : EtherType
  payload : List Byte
  good    : Bool
  deriving DecidableEq, Repr

/-- Completion of a drive command that carries no data back (R91 to R100). -/
inductive CmdOutcome where
  | good
  | media (k : Nat)   -- media error at block k of the command (R67)
  | failed            -- neither success, media error nor link loss (R95)
  | linkLost          -- the link was lost during the command (R97)
  deriving DecidableEq, Repr

/-- Completion of IDENTIFY (R86). -/
inductive IdentifyOutcome where
  | good (serial : Serial) (capacity : Nat)
  | media
  | failed
  | linkLost
  deriving DecidableEq, Repr

/-- Completion of FETCH (R91): the blocks read, whole or up to the media error. -/
inductive FetchOutcome where
  | good (blocks : List Block)
  | media (blocks : List Block)   -- blocks 0 to k - 1; the media error is at block k, their number
  | failed
  | linkLost
  deriving DecidableEq, Repr

/-- A unit that takes the counter question of READ_COUNTERS (R176). -/
inductive CounterUnit where
  | port (p : Port)
  | bay (b : Bay)
  deriving DecidableEq, Repr

/-- A block that hands notices to the management agent (R177). -/
inductive NoticeSource where
  | loanManager
  | nodeBlock
  | driveUnit (b : Bay)
  | service (b : Bay)
  deriving DecidableEq, Repr

/-- The two blocks with a share in a soft reset (R178). -/
inductive ResetShare where
  | loanManager
  | requestUnit
  deriving DecidableEq, Repr

/-- A block that takes a timer limit from SET_PARAMS (R174): the request unit its delivery limit, a
drive unit its piece limit, spin-up limit, gather window or idle time. -/
inductive LimitTarget where
  | requestUnit
  | driveUnit (b : Bay)
  deriving DecidableEq, Repr

/-- The commands, one for each row of the opcode table. -/
inductive Instr where
  | powerOn (present buttons : BitVec 24) (links : BitVec 4)
  | linkDown (p : Port)
  | linkUp (p : Port)
  | ingressFrame (p : Port) (f : InFrame)
  | pauseRepeatExpiry (p : Port)
  | receivedPause (p : Port) (time : BitVec 16) (good : Bool)
  | receivedPauseEnd (p : Port)
  | transmissionEnd (p : Port)
  | thresholdsTaken (p : Port)
  | classifyFrame
  | borrow
  | renew
  | returnLoan
  | read
  | write
  | check
  | abort
  | loanClaim
  | claimAnswer
  | pieceAppend (b : Bay)
  | pieceWithdrawal (b : Bay)
  | pieceStartedReport (b : Bay)
  | pieceStagedReport (b : Bay)
  | pieceDoneReport (b : Bay)
  | pieceFailedReport (b : Bay)
  | pieceWithdrawnReport (b : Bay)
  | withdrawalAnswer (b : Bay)
  | egressRoom (p : Port)
  | deliveryTimerExpiry (piece : Nat)
  | loanQuiet
  | waitTimerExpiry (record : Nat)
  | termExpiry (entry : Nat)
  | graceExpiry (entry : Nat)
  | healthReport (b : Bay)
  | extentDone (b : Bay)
  | extentFailed (b : Bay)
  | pendingClearReport (b : Bay)
  | clearExtent (b : Bay)
  | gatherTimerExpiry (b : Bay)
  | stagingEmptied (b : Bay)
  | identifyCompletion (b : Bay) (number : Nat) (o : IdentifyOutcome)
  | fetchCompletion (b : Bay) (number : Nat) (o : FetchOutcome)
  | storeCompletion (b : Bay) (number : Nat) (o : CmdOutcome)
  | probeCompletion (b : Bay) (number : Nat) (o : CmdOutcome)
  | zeroCompletion (b : Bay) (number : Nat) (o : CmdOutcome)
  | spinUpCompletion (b : Bay) (number : Nat) (o : CmdOutcome)
  | spinDownCompletion (b : Bay) (number : Nat) (o : CmdOutcome)
  | commandTimerExpiry (b : Bay)
  | spinUpLimitExpiry (b : Bay)
  | linkLost (b : Bay)
  | idleTimerExpiry (b : Bay)
  | spinUpGrant (b : Bay)
  | spinUpWanted (b : Bay)
  | waitWithdrawn (b : Bay)
  | grantDeclined (b : Bay)
  | spinUpEnded (b : Bay)
  | budgetChange
  | pauseAllowanceChange (b : Bay)
  | keepSpinningChange (b : Bay)
  | buttonPress (b : Bay)
  | buttonRelease (b : Bay)
  | holdTimerExpiry (b : Bay)
  | serviceOverride (b : Bay)
  | releaseTaken (b : Bay)
  | releaseEndReport (b : Bay)
  | presenceLost (b : Bay)
  | presenceGained (b : Bay)
  | nodeQuiet
  | outstandingCountAnswer
  | managerNotice (from_ : NoticeSource)
  | resetShareFinished (share : ResetShare)
  | badRequest
  | attach
  | detach
  | identify
  | setParams
  | readParams
  | readCounters
  | counterQuery (u : CounterUnit)
  | resetPart
  | loanManagerReset
  | requestUnitReset
  | defineVolume
  | deleteVolume
  | clearVolume
  | readVolume
  | recallLoan
  | readLoan
  | releaseBay
  | admitNode
  | readmitNode
  | drainNode
  | forgetNode
  | readNode
  | wakeDisk
  | sleepDisk
  | acceptDisk
  | readDisk
  | ackService
  | portLinkChange (p : Port)
  | timerLimitChange (t : LimitTarget)
  deriving DecidableEq, Repr

end Sys2Proof
end

