-- ==== Sys2Proof/Config.lean ====
section
/-! DEFINITION. What an implementation fixes and the spec leaves open: free values, constants with
no body of which nothing can be proved. Each has a row in notes/assumptions. -/

namespace Sys2Proof

/-- The fixed Ethernet address of each farm port (R166). -/
opaque Config.portAddress : Fin 4 → BitVec 48

/-- How a yes or no is written into one byte of an answer payload (R182 names the bytes, not their
values). -/
opaque Config.flagByte : Bool → BitVec 8

/-- How a port's link state (true: UP) is written into READ_COUNTERS (R182). -/
opaque Config.linkByte : Bool → BitVec 8

/-- How a port's pause state (true: PAUSING) is written into READ_COUNTERS (R182). -/
opaque Config.pauseByte : Bool → BitVec 8

/-- The characters after the 14 of the part's name in the 16-character field of IDENTIFY (R182). -/
opaque Config.namePadding : Fin 2 → BitVec 8

/-- The keep-spinning carry mask in the parameter block of READ_PARAMS (R182). -/
opaque Config.carryMask : BitVec 24

/-- The data of a block placed after its staging buffer was discarded and before the request unit
took the report of it (R92): piece serial number, then block within the piece. -/
opaque Config.discardedBlock : Nat → Nat → BitVec 32768

/-- The kind code NODE_HALTED names for a frame too short to hold one (R149, R159). -/
opaque Config.absentKind : BitVec 8

/-- Whether a frame whose 9,001st payload byte finds the buffer full is counted as lacking room
(true) or as of excess length (R158). -/
opaque Config.roomFailsFirst : Bool

end Sys2Proof
end

