-- ==== Sys2Proof/Machine/State.lean ====
section
/-! DEFINITION. The state of the part as plain data: every table, queue, timer, counter and output
the spec names, the messages between blocks, and the queue of waiting commands. -/

namespace Sys2Proof

/-- A numbered table of which only the entries in use are listed, by ascending number. The
operations are in Machine/Table.lean. -/
abbrev Tbl (α : Type) := List (Nat × α)

/-! ### Volumes (01_volumes_and_the_disk_map.md) -/

/-- Volume class (R2). -/
inductive VolClass where
  | library | shot | scratch
  deriving DecidableEq, Repr

/-- Volume state (R9). -/
inductive VolState where
  | idle | lent | clearing | clearFailed
  deriving DecidableEq, Repr

/-- Clear status of a segment (R11). -/
inductive ClearStatus where
  | none | pending | listed | done | failed
  deriving DecidableEq, Repr

/-- A segment record (R4). -/
structure Segment where
  bay      : Bay
  identity : Serial
  base     : Nat
  length   : Nat
  clear    : ClearStatus
  deriving DecidableEq, Repr

/-- A defined volume (R1). Times are in seconds; the wait list holds record numbers, oldest first. -/
structure Volume where
  cls       : VolClass
  wake      : Bool
  term      : Nat
  grace     : Nat
  state     : VolState
  segments  : List Segment
  loanCount : Nat
  waitList  : List Nat
  deriving DecidableEq, Repr

/-! ### Loans (02_the_lending_protocol.md) -/

/-- Loan mode (R21). -/
inductive LoanMode where
  | read | write | sole
  deriving DecidableEq, Repr

/-- Why a loan ended (R40). -/
inductive EndReason where
  | returned | expired | recalled | bayReleased | forgotten | reset
  deriving DecidableEq, Repr

/-- State of a loan, with the grace deadline of RECALLING and the end reason of ENDING (R19). -/
inductive LoanState where
  | held
  | recalling (graceDeadline : Nat)
  | ending (reason : EndReason)
  deriving DecidableEq, Repr

/-- A loan entry in use (R19). -/
structure Loan where
  holder       : Nat
  volume       : Nat
  mode         : LoanMode
  state        : LoanState
  termDeadline : Nat
  outstanding  : Nat
  deriving DecidableEq, Repr

/-- A waiting record in use (R23). -/
structure WaitRec where
  node     : Nat
  volume   : Nat
  mode     : LoanMode
  deadline : Nat
  deriving DecidableEq, Repr

/-- A reference of a pending-clear queue (R115). -/
structure SegRef where
  vol : Nat
  seg : Nat
  deriving DecidableEq, Repr

/-- Identity and capacity reported by the last good IDENTIFY (R82). -/
structure Disk where
  serial   : Serial
  capacity : Nat
  deriving DecidableEq, Repr

/-- What the loan manager keeps for each bay: pending-clear queue (R115), count of LISTED segments
(R116), release outstanding mark (R137), and the disk of a healthy drive unit as it last took it, by a
report or at a definition (R7, R13, R85). -/
structure LmBay where
  pendingClear       : List SegRef := []
  listed             : Nat := 0
  releaseOutstanding : Bool := false
  reported           : Option Disk := none
  deriving DecidableEq, Repr

/-- The loan manager (R18). -/
structure LoanManager where
  volumes     : Tbl Volume
  loans       : Tbl Loan
  generations : Tbl Nat        -- an unlisted entry has generation 0
  waits       : Tbl WaitRec
  retry       : List Nat       -- the grant retry order (R30)
  bays        : Tbl LmBay
  resetShare  : Bool           -- the loan manager's share of a soft reset is running (R43)
  deriving DecidableEq, Repr

/-! ### Block requests (03_block_requests.md) -/

/-- Kind of a block request (R50). -/
inductive ReqKind where
  | read | write | check
  deriving DecidableEq, Repr

/-- End cause of an ABORTING request (R52). -/
inductive EndCause where
  | aborted | overrun | reset
  deriving DecidableEq, Repr

/-- State of a request (R53). -/
inductive ReqState where
  | queued | running
  | aborting (cause : EndCause)
  deriving DecidableEq, Repr

/-- Failure reason of a piece (R62). -/
inductive FailReason where
  | mediaError | diskFault | diskUnavailable | bayReleased | aborted | overrun | reset
  deriving DecidableEq, Repr

/-- Which piece a message speaks of: its record and the serial number of that use of the record. -/
structure PieceRef where
  num    : Nat
  serial : Nat
  deriving DecidableEq, Repr

/-- State of a piece (R63); STAGED with the staged blocks, the mark of a partial FETCH (R67) and the
delivery deadline (R72). -/
inductive PieceState where
  | queued | active
  | staged (blocks : Nat) (media : Bool) (deadline : Nat)
  | done
  | failed (reason : FailReason)
  | withdrawn (reason : FailReason)
  deriving DecidableEq, Repr

/-- A piece record in use (R62). -/
structure Piece where
  serial  : Nat
  request : Nat
  bay     : Bay
  start   : Nat
  length  : Nat
  window  : Nat
  state   : PieceState
  done    : Nat
  deriving DecidableEq, Repr

/-- A piece as R60 cuts it, with the identity its segment records (R56). -/
structure Cut where
  bay      : Bay
  identity : Serial
  start    : Nat
  length   : Nat
  window   : Nat
  deriving DecidableEq, Repr

/-- A request record in use (R52). `overrun` is set once a delivery timer of the request has run out
(R73), whatever its end cause. -/
structure Request where
  node       : Nat
  tag        : BitVec 8
  handle     : BitVec 16
  volume     : Nat
  kind       : ReqKind
  offset     : Nat
  countField : BitVec 16
  toEnd      : Bool
  requested  : Nat
  effective  : Nat
  short      : Bool
  port       : Port
  state      : ReqState
  overrun    : Bool
  data       : List Block
  pieces     : List Nat
  deriving DecidableEq, Repr

/-- A request whose checks have passed and whose loan claim is not yet answered (R56). -/
structure Admitting where
  node       : Nat
  port       : Port
  tag        : BitVec 8
  handle     : BitVec 16
  volume     : Nat
  kind       : ReqKind
  offset     : Nat
  countField : BitVec 16
  toEnd      : Bool
  requested  : Nat
  effective  : Nat
  short      : Bool
  data       : List Block
  cuts       : List Cut
  deriving DecidableEq, Repr

/-- The request unit (R49). -/
structure RequestUnit where
  requests      : Tbl Request
  pieces        : Tbl Piece
  delivery      : Tbl (List Nat)     -- per port, piece records oldest first (R71)
  admitting     : Option Admitting
  deliveryLimit : Nat                -- in units of 10 ms
  resetShare    : Option (List Nat)  -- request records whose END the soft reset waits for (R79)
  nextSerial    : Nat
  deriving DecidableEq, Repr

/-! ### Drive units and clear engines (04, 06) -/

/-- Drive state (R83). -/
inductive DriveState where
  | absent | identifying | standby | wakeWait | spinningUp | ready | active | spinningDown
  | fault | service
  deriving DecidableEq, Repr

/-- A piece as a drive unit runs it; `done` counts the blocks of its good PROBE runs (R94). -/
structure Job where
  piece  : PieceRef
  kind   : ReqKind
  start  : Nat
  length : Nat
  data   : List Block
  done   : Nat
  deriving DecidableEq, Repr

/-- The seven drive commands (0.2 of 00_scope.md) with the blocks they cover. -/
inductive DriveCmd where
  | identify
  | fetch (start length : Nat)
  | store (start : Nat) (data : List Block)
  | probe (start length : Nat)
  | zero (start length : Nat)
  | spinUp
  | spinDown
  deriving DecidableEq, Repr

/-- A staged READ piece and its blocks (R91). -/
structure Staging where
  piece  : PieceRef
  blocks : List Block
  deriving DecidableEq, Repr

/-- An extent of a clear list (R119); `current` is the sweep mark. -/
structure Extent where
  vol      : Nat
  seg      : Nat
  start    : Nat
  length   : Nat
  progress : Nat
  current  : Bool
  deriving DecidableEq, Repr

/-- State of a clear engine (R119); GATHERING with the deadline of its gather timer (R121). -/
inductive EngineState where
  | empty
  | gathering (deadline : Nat)
  | sweeping
  deriving DecidableEq, Repr

/-- A clear engine (R119). -/
structure Engine where
  state  : EngineState
  list   : List Extent
  closed : Bool
  deriving DecidableEq, Repr

/-- The parameters a drive unit acts on, as it last took them (R173, R174). -/
structure UnitParams where
  pieceLimit   : Nat    -- s
  spinUpLimit  : Nat    -- s
  gatherWindow : Nat    -- units of 10 ms
  idleFactor   : Nat    -- the field, 0 to 15
  idleLong     : Bool   -- idle unit LONG
  allowance    : Nat
  keepSpinning : Bool
  deriving DecidableEq, Repr

/-- A drive unit (R82). -/
structure DriveUnit where
  state          : DriveState
  disk           : Option Disk
  queue          : List Job
  hand           : Option Job
  staging        : Option Staging
  idleTimer      : Option Nat
  commandTimer   : Option Nat
  spinUpTimer    : Option Nat
  inFlight       : Option (Nat × DriveCmd)   -- number of the command, and the command
  issued         : Nat                       -- commands issued so far
  engine         : Engine
  pauseCounter   : Nat
  releaseUnderWay : Bool
  mediaErrors    : Nat
  timeouts       : Nat
  spinUps        : Nat
  clearWaiting   : Bool                      -- pending-clear queue last reported non-empty (R101)
  params         : UnitParams
  deriving DecidableEq, Repr

/-! ### Arbiter, service controls, nodes, ports -/

/-- The spin-up arbiter (R107). The count is the number of places held. -/
structure Arbiter where
  budget    : Nat
  places    : List Bay
  waitOrder : List Bay
  deriving DecidableEq, Repr

/-- Service lamp (R134). -/
inductive Lamp where
  | off | on | blinking
  deriving DecidableEq, Repr

/-- Bay lock (R134). -/
inductive Lock where
  | locked | unlocked
  deriving DecidableEq, Repr

/-- Bay service controls (R134), and the presence sense of the bay (R141, R142). -/
structure Service where
  pressedFlag : Bool
  buttonDown  : Bool
  holdTimer   : Option Nat
  lock        : Lock
  lamp        : Lamp
  present     : Bool
  deriving DecidableEq, Repr

/-- Node state (R144). -/
inductive NodeState where
  | admitted | halted | draining | drained
  deriving DecidableEq, Repr

/-- A node entry in use (R143). -/
structure Node where
  addr        : Addr
  state       : NodeState
  lastPort    : Option Port
  outstanding : Nat
  tags        : List (BitVec 8)
  loanWait    : Nat
  deriving DecidableEq, Repr

/-- The common header (R180). -/
structure Header where
  version    : BitVec 8
  kind       : BitVec 8
  flags      : BitVec 8
  tag        : BitVec 8
  handle     : BitVec 16
  payloadLen : BitVec 16
  offset     : BitVec 48
  count      : BitVec 16
  code       : BitVec 8
  volume     : BitVec 8
  subcode    : BitVec 8
  detail     : BitVec 8
  valueA     : BitVec 32
  valueB     : BitVec 32
  sequence   : BitVec 16
  reserved   : BitVec 144
  deriving DecidableEq, Repr

/-- What follows the header of a frame the part sends. -/
inductive Body where
  | bytes (bs : List Byte)
  | blocks (bs : List Block)
  deriving DecidableEq, Repr

/-- A frame placed in an egress queue: destination, header, and what follows it (R166, R180). -/
structure OutFrame where
  dst  : Addr
  hdr  : Header
  body : Body
  deriving DecidableEq, Repr

/-- What a port's transmitter is sending: nothing, the oldest frame of the egress queue, or a pause
frame of the given time (R161, R164). -/
inductive Wire where
  | idle
  | frame
  | pause (time : BitVec 16)
  deriving DecidableEq, Repr

/-- A farm port unit (R155). -/
structure FarmPort where
  up            : Bool
  ingress       : List InFrame       -- complete frames, oldest first
  frameHead     : Nat
  writePos      : Nat
  pausing       : Bool
  repeatTimer   : Option Nat
  receivedPause : Option Nat         -- in force until this moment
  egress        : List OutFrame
  claims        : Nat                -- END places claimed
  wire          : Wire
  pauseOut      : List (BitVec 16)   -- pause frames waiting for the next frame boundary
  admitted      : Nat
  rewoundBad    : Nat
  rewoundRoom   : Nat
  unknownSource : Nat
  on            : Nat                -- thresholds in KiB (R162)
  off           : Nat
  deriving DecidableEq, Repr

/-- Which block a classified frame was passed to (R146). -/
inductive PassedTo where
  | loanManager (node : Nat)
  | requestUnit (node : Nat)
  | agent
  deriving DecidableEq, Repr

/-- A frame passed on by the classifier and not yet taken. -/
structure Passed where
  dest  : PassedTo
  port  : Port
  frame : InFrame
  deriving DecidableEq, Repr

/-- The frame classifier (R159): free exactly while it has passed no frame that is not yet taken. -/
structure Classifier where
  lastServed : Port
  passed     : Option Passed
  deriving DecidableEq, Repr

/-! ### Management (10_management.md) -/

/-- Why a drive unit entered FAULT (R98). -/
inductive FaultCause where
  | timeLimit | linkLost | failedCompletion | failedIdentify
  deriving DecidableEq, Repr

/-- Why a frame is malformed (R148). -/
inductive HaltCause where
  | shortHeader | badVersion | badKind | reservedSet | lengthMismatch | badWriteSize
  | unexpectedPayload | badMode
  deriving DecidableEq, Repr

/-- Answer, result and status codes (R183). -/
inductive Code where
  | ok | queued | inRecall | noSuchVolume | classForbids | draining | alreadyHeld | loanLimit
  | volumeBlocked | poolFull | unavailableNow | noSuchLoan | loanEnding | tagInUse | busy
  | notPermitted | outOfWindow | diskUnavailable | asleep | noSuchTag | mediaError | diskFault
  | bayReleased | aborted | overrun | reset | badValue | volumeExists | outOfRange | overlap
  | volumeInUse | wrongState | paramConflict | managerHeld | tableFull | alreadyPresent
  | noSuchNode | nodeBusy | diskBusy | badFormat | badRequest
  deriving DecidableEq, Repr

/-- The nine manager notices (R177) with what they carry (R182). -/
inductive Notice where
  | servicePressed (b : Bay) (st : DriveState)
  | serviceOverride (b : Bay) (st : DriveState) (identity : Option Serial)
  | diskArrived (b : Bay) (d : Disk)
  | diskGone (b : Bay) (left : DriveState) (identity : Option Serial)
  | diskFault (b : Bay) (left : DriveState) (cause : FaultCause) (identity : Option Serial)
  | clearDone (vol : Nat) (segments : Nat)
  | clearFailed (vol : Nat) (segments : List Segment)
  | loanExpired (handle : BitVec 16) (vol : Nat) (mode : LoanMode) (holder : Addr)
  | nodeHalted (addr : Addr) (cause : HaltCause) (port : Port) (kind : Byte) (left : NodeState)
  deriving DecidableEq, Repr

/-- A MANAGE-ANSWER but for its destination (R182). -/
structure Answer where
  hdr  : Header
  body : List Byte
  deriving DecidableEq, Repr

/-- What a block sends to the management agent (R172, R177). -/
inductive AgentMsg where
  | notice (n : Notice)
  | status (a : Answer)                       -- the status the agent waits for, with its data
  | drainAnswer (addr : Addr) (code : Code)   -- answers every drain held for the node (R149, R151)
  | resetFinished                             -- the block's share of the soft reset is finished
  deriving DecidableEq, Repr

/-- The manager slot when filled (R168). -/
structure Slot where
  addr : Addr
  port : Port
  seq  : BitVec 16
  deriving DecidableEq, Repr

/-- The parameter set (R173). -/
structure Params where
  budget        : Nat
  spinUpLimit   : Nat          -- s
  pieceLimit    : Nat          -- s
  deliveryLimit : Nat          -- units of 10 ms
  allowance     : Nat
  gatherWindow  : Nat          -- units of 10 ms
  idleFactor    : Nat
  idleLong      : Bool
  on            : Nat          -- KiB
  off           : Nat          -- KiB
  keep          : BitVec 24
  deriving DecidableEq, Repr

/-- The parameter block of SET_PARAMS (R182): selection mask and slots. -/
structure ParamBlock where
  mask          : BitVec 32
  budget        : Nat
  spinUpLimit   : Nat
  pieceLimit    : Nat
  deliveryLimit : Nat
  allowance     : Nat
  gatherWindow  : Nat
  idleFactor    : Nat
  idleUnit      : Nat
  on            : Nat
  off           : Nat
  keepCarry     : BitVec 24
  keepValue     : BitVec 24
  deriving DecidableEq, Repr

/-- What an entry of the list of requests in progress waits for (R172, R178): a node's drain, or a
soft reset with the drains it waits for and whether both shares have been reported. -/
inductive EntryWork where
  | drain (addr : Addr)
  | reset (waitFor : List Nat) (sharesDone : Bool)
  deriving DecidableEq, Repr

/-- An entry of the list of requests in progress (R172). -/
structure Entry where
  id   : Nat
  tag  : BitVec 8
  work : EntryWork
  deriving DecidableEq, Repr

/-- What the agent waits for before it takes another MANAGE frame (R172): nothing, a status, the
arbiter's answer (R174), counters (R176), or a node's outstanding count (R151, R152). -/
inductive AgentWait where
  | free
  | status
  | budget (tag : BitVec 8) (p : ParamBlock)
  | counters (hdr : Header) (zero : Bool) (asked : List CounterUnit) (got : Tbl (List Byte))
  | drainCount (tag : BitVec 8) (addr : Addr) (node : Nat)
  | forgetCount (tag : BitVec 8) (addr : Addr) (node : Nat)
  deriving DecidableEq, Repr

/-- A soft reset running, with the shares reported so far (R178). -/
structure Running where
  lmDone : Bool
  ruDone : Bool
  deriving DecidableEq, Repr

/-- The management agent (R168 to R178). -/
structure Agent where
  slot     : Option Slot
  params   : Params
  progress : List Entry
  running  : Option Running
  nextId   : Nat
  wait     : AgentWait
  deriving DecidableEq, Repr

/-! ### Messages on their way -/

/-- Request unit to drive unit (R69). -/
inductive RuToUnit where
  | append (job : Job) (identity : Serial)
  | withdraw (piece : PieceRef) (reason : FailReason)
  | emptied (piece : PieceRef)
  deriving DecidableEq, Repr

/-- Drive unit to request unit (R63 to R69). `done` of a failed report is the count of a piece that
was not staged. -/
inductive UnitToRu where
  | started (piece : PieceRef)
  | staged (piece : PieceRef) (blocks : Nat) (media : Bool)
  | done (piece : PieceRef)
  | failed (piece : PieceRef) (reason : FailReason) (done : Nat)
  | withdrawn (piece : PieceRef) (reason : FailReason)
  | answer (piece : PieceRef) (running : Bool)
  deriving DecidableEq, Repr

/-- Loan manager to drive unit (R115, R118, R137). -/
inductive LmToUnit where
  | extent (vol seg : Nat) (identity : Serial) (start length : Nat)
  | pendingClear (nonEmpty : Bool)
  | release
  deriving DecidableEq, Repr

/-- Drive unit to loan manager (R85, R118, R138, R140, R141). A health report carries the state, the
disk then held, and for ABSENT whether a release was under way. -/
inductive UnitToLm where
  | extentDone (vol seg : Nat)
  | extentFailed (vol seg : Nat)
  | health (st : DriveState) (disk : Option Disk) (releaseEnded : Bool)
  | releaseEnd
  deriving DecidableEq, Repr

/-- Drive unit to spin-up arbiter (R108). -/
inductive UnitToArb where
  | wanted | withdrawn | declined | ended
  deriving DecidableEq, Repr

/-- A timer limit for a drive unit (R174). -/
inductive UnitLimit where
  | pieceLimit (s : Nat)
  | spinUpLimit (s : Nat)
  | gatherWindow (tens : Nat)
  | idleTime (factor : Nat) (long : Bool)
  deriving DecidableEq, Repr

/-- Port to request unit (R74, R165). -/
inductive PortToRu where
  | room | linkUp | linkDown
  deriving DecidableEq, Repr

/-- The channels of one bay, each oldest message first. -/
structure BayMail where
  ruToUnit    : List RuToUnit := []
  unitToRu    : List UnitToRu := []
  lmToUnit    : List LmToUnit := []
  unitToLm    : List UnitToLm := []
  unitToArb   : List UnitToArb := []
  grants      : Nat := 0               -- grants on their way (R108)
  allowances  : List Nat := []         -- pause allowances from the agent
  keeps       : List Bool := []        -- keep-spinning settings from the agent
  limits      : List UnitLimit := []   -- timer limits from the agent
  unitToAgent : List AgentMsg := []
  svcToAgent  : List AgentMsg := []
  overrides   : Nat := 0               -- forced releases presented to the loan manager (R136)
  deriving DecidableEq, Repr

/-- The channels of one port. -/
structure PortMail where
  toRu       : List PortToRu := []
  thresholds : List (Nat × Nat) := []   -- ON and OFF in KiB, from the agent
  deriving DecidableEq, Repr

/-- A loan claim (R35). -/
structure Claim where
  handle : BitVec 16
  node   : Nat
  deriving DecidableEq, Repr

/-- The loan manager's answer to a claim (R35). -/
inductive ClaimAnswer where
  | accepted
  | refused (code : Code)
  deriving DecidableEq, Repr

/-- The channels between single blocks. -/
structure Mail where
  claim       : Option Claim
  claimAnswer : Option ClaimAnswer
  quietLoans  : List (BitVec 16)    -- handles of loans fallen quiet (R44)
  quietNodes  : List Nat            -- node entries fallen quiet (R75)
  resetLm     : Bool
  resetRu     : Bool
  limits      : List Nat            -- delivery limits for the request unit
  lmToAgent   : List AgentMsg
  ruToAgent   : List AgentMsg
  nodeToAgent : List AgentMsg
  deriving DecidableEq, Repr

/-- The parameter set at power-on (R173). -/
def Params.powerOn : Params where
  budget := 4
  spinUpLimit := 30
  pieceLimit := 10
  deliveryLimit := 200
  allowance := 8
  gatherWindow := 20
  idleFactor := 6
  idleLong := false
  on := 96
  off := 32
  keep := 0

/-- A farm port unit at power-on (R155). -/
def FarmPort.powerOn (up : Bool) : FarmPort where
  up := up
  ingress := []
  frameHead := 0
  writePos := 0
  pausing := false
  repeatTimer := none
  receivedPause := none
  egress := []
  claims := 0
  wire := .idle
  pauseOut := []
  admitted := 0
  rewoundBad := 0
  rewoundRoom := 0
  unknownSource := 0
  on := 96
  off := 32

/-- A drive unit at power-on with no disk in its bay (R82, R119). -/
def DriveUnit.absent : DriveUnit where
  state := .absent
  disk := none
  queue := []
  hand := none
  staging := none
  idleTimer := none
  commandTimer := none
  spinUpTimer := none
  inFlight := none
  issued := 0
  engine := { state := .empty, list := [], closed := false }
  pauseCounter := 0
  releaseUnderWay := false
  mediaErrors := 0
  timeouts := 0
  spinUps := 0
  clearWaiting := false
  params :=
    { pieceLimit := 10, spinUpLimit := 30, gatherWindow := 20, idleFactor := 6, idleLong := false,
      allowance := 8, keepSpinning := false }

/-- Service controls at power-on with no disk in the bay (R134). -/
def Service.absent : Service where
  pressedFlag := false
  buttonDown := false
  holdTimer := none
  lock := .unlocked
  lamp := .off
  present := false

namespace Machine

/-- The whole part. -/
structure State where
  now      : Nat               -- bit times of a 25 Gb/s link: 25,000,000 in one ms
  ports    : Tbl FarmPort
  cls      : Classifier
  nodes    : Tbl Node
  lm       : LoanManager
  ru       : RequestUnit
  units    : Tbl DriveUnit
  svc      : Tbl Service
  arb      : Arbiter
  agent    : Agent
  bayMail  : Tbl BayMail
  portMail : Tbl PortMail
  mail     : Mail
  pending  : List Instr        -- commands waiting, oldest first
  deriving DecidableEq, Repr

/-- Why the machine stops. -/
inductive Fault where
  /-- Raised by FETCH_COMPLETION, STORE_COMPLETION, PROBE_COMPLETION and ZERO_COMPLETION when a drive
  port reports what R95 says it never reports: a media error at a block outside the command, or a FETCH
  with another number of blocks than it asked for. Safe: the model stops where the spec gives no
  behaviour. -/
  | impossibleCompletion
  deriving DecidableEq, Repr

/-- Why a command is refused. -/
inductive Refusal where
  /-- The command has no meaning in the model. No command is refused so. Safe. -/
  | notModelled (mnemonic : String)
  deriving DecidableEq, Repr

/-- The part after power-on with no disk present, every button released and every farm link DOWN
(R179). -/
def State.reset : State where
  now := 0
  ports := (List.range 4).map fun p => (p, FarmPort.powerOn false)
  cls := { lastServed := 3, passed := none }
  nodes := []
  lm :=
    { volumes := [], loans := [], generations := [], waits := [], retry := [],
      bays := (List.range 24).map fun b => (b, {}), resetShare := false }
  ru :=
    { requests := [], pieces := [], delivery := (List.range 4).map fun p => (p, []),
      admitting := none, deliveryLimit := 200, resetShare := none, nextSerial := 0 }
  units := (List.range 24).map fun b => (b, DriveUnit.absent)
  svc := (List.range 24).map fun b => (b, Service.absent)
  arb := { budget := 4, places := [], waitOrder := [] }
  agent :=
    { slot := none, params := Params.powerOn, progress := [], running := none, nextId := 0,
      wait := .free }
  bayMail := (List.range 24).map fun b => (b, {})
  portMail := (List.range 4).map fun p => (p, {})
  mail :=
    { claim := none, claimAnswer := none, quietLoans := [], quietNodes := [], resetLm := false,
      resetRu := false, limits := [], lmToAgent := [], ruToAgent := [], nodeToAgent := [] }
  pending := []

end Machine

end Sys2Proof
end

