-- ==== Sys2Proof/Machine/Table.lean ====
section
/-! DEFINITION. The operations of numbered tables: read, write, free, and the lowest-numbered free
entry (R20, R23, R52, R62, R145). -/

namespace Sys2Proof

/-- The entry of a number, if it is in use. -/
def Tbl.get {α : Type} : Tbl α → Nat → Option α
  | [], _ => none
  | (k, a) :: t, i => if i = k then some a else Tbl.get t i

/-- The entry of a number, or a value for an unlisted one. -/
def Tbl.getD {α : Type} (t : Tbl α) (i : Nat) (d : α) : α := (t.get i).getD d

/-- Put an entry in use, keeping ascending order. -/
def Tbl.set {α : Type} : Tbl α → Nat → α → Tbl α
  | [], i, a => [(i, a)]
  | (k, b) :: t, i, a =>
    if i < k then (i, a) :: (k, b) :: t
    else if i = k then (i, a) :: t
    else (k, b) :: Tbl.set t i a

/-- Free an entry. -/
def Tbl.erase {α : Type} (t : Tbl α) (i : Nat) : Tbl α := t.filter fun e => e.1 ≠ i

/-- The first number from `i` on, of `fuel` numbers, that is not in use. -/
def Tbl.freeFrom {α : Type} (t : Tbl α) : Nat → Nat → Option Nat
  | 0, _ => none
  | fuel + 1, i => if (t.get i).isNone then some i else Tbl.freeFrom t fuel (i + 1)

/-- The lowest-numbered free entry of a table of `size` entries. -/
def Tbl.lowestFree {α : Type} (t : Tbl α) (size : Nat) : Option Nat := t.freeFrom size 0

/-- The numbers in use, ascending. -/
def Tbl.numbers {α : Type} (t : Tbl α) : List Nat := t.map Prod.fst

/-- The numbers of the entries that meet a condition, ascending. -/
def Tbl.numbersWhere {α : Type} (t : Tbl α) (p : α → Bool) : List Nat :=
  (t.filter fun e => p e.2).map Prod.fst

/-- Change every entry in use. -/
def Tbl.update {α : Type} (t : Tbl α) (f : α → α) : Tbl α := t.map fun e => (e.1, f e.2)

/-- Whether a table is in its one form: numbers strictly rising and below `size`. -/
def Tbl.wf {α : Type} (t : Tbl α) (size : Nat) : Bool :=
  decide (t.numbers.Pairwise (· < ·)) && t.numbers.all (· < size)

end Sys2Proof
end

