-- ==== Sys2Proof/Machine/Flags.lean ====
section
/-! DEFINITION. The values the part gives to its enumerated items in header fields and payloads
(R180, R183), and the outputs of the bay service controls as they follow from the drive state and the
service-pressed flag (R134). -/

namespace Sys2Proof

/-- Answer, result and status codes (R183). -/
def Code.value : Code → BitVec 8
  | .ok => 0x00
  | .queued => 0x01
  | .inRecall => 0x02
  | .noSuchVolume => 0x10
  | .classForbids => 0x11
  | .draining => 0x12
  | .alreadyHeld => 0x13
  | .loanLimit => 0x14
  | .volumeBlocked => 0x15
  | .poolFull => 0x16
  | .unavailableNow => 0x17
  | .noSuchLoan => 0x18
  | .loanEnding => 0x19
  | .tagInUse => 0x20
  | .busy => 0x21
  | .notPermitted => 0x22
  | .outOfWindow => 0x23
  | .diskUnavailable => 0x24
  | .asleep => 0x25
  | .noSuchTag => 0x26
  | .mediaError => 0x30
  | .diskFault => 0x31
  | .bayReleased => 0x32
  | .aborted => 0x33
  | .overrun => 0x34
  | .reset => 0x35
  | .badValue => 0x40
  | .volumeExists => 0x41
  | .outOfRange => 0x42
  | .overlap => 0x43
  | .volumeInUse => 0x44
  | .wrongState => 0x45
  | .paramConflict => 0x46
  | .managerHeld => 0x47
  | .tableFull => 0x48
  | .alreadyPresent => 0x49
  | .noSuchNode => 0x4A
  | .nodeBusy => 0x4B
  | .diskBusy => 0x4C
  | .badFormat => 0x4D
  | .badRequest => 0x4E

/-- Mode values (R180). -/
def LoanMode.value : LoanMode → BitVec 8
  | .read => 1
  | .write => 2
  | .sole => 3

/-- The mode a code field names (R180). -/
def LoanMode.ofValue (v : BitVec 8) : Option LoanMode :=
  if v = 1 then some .read else if v = 2 then some .write else if v = 3 then some .sole else none

/-- Class values (R180). -/
def VolClass.value : VolClass → BitVec 8
  | .library => 1
  | .shot => 2
  | .scratch => 3

/-- The class a byte names (R180). -/
def VolClass.ofValue (v : BitVec 8) : Option VolClass :=
  if v = 1 then some .library else if v = 2 then some .shot
  else if v = 3 then some .scratch else none

/-- Loan state values (R180); 0 is FREE or a waiting record. -/
def LoanState.value : LoanState → BitVec 8
  | .held => 1
  | .recalling _ => 2
  | .ending _ => 3

/-- End reason values (R180). -/
def EndReason.value : EndReason → BitVec 8
  | .returned => 1
  | .expired => 2
  | .recalled => 3
  | .bayReleased => 4
  | .forgotten => 5
  | .reset => 6

/-- Volume state values (R180). -/
def VolState.value : VolState → BitVec 8
  | .idle => 0
  | .lent => 1
  | .clearing => 2
  | .clearFailed => 3

/-- Clear status values (R180). -/
def ClearStatus.value : ClearStatus → BitVec 8
  | .none => 0
  | .pending => 1
  | .listed => 2
  | .done => 3
  | .failed => 4

/-- Node state values (R180). -/
def NodeState.value : NodeState → BitVec 8
  | .admitted => 0
  | .halted => 1
  | .draining => 2
  | .drained => 3

/-- Request state values (R180). -/
def ReqState.value : ReqState → BitVec 8
  | .queued => 0
  | .running => 1
  | .aborting _ => 2

/-- Drive state values (R180). -/
def DriveState.value : DriveState → BitVec 8
  | .absent => 0
  | .identifying => 1
  | .standby => 2
  | .wakeWait => 3
  | .spinningUp => 4
  | .ready => 5
  | .active => 6
  | .spinningDown => 7
  | .fault => 8
  | .service => 9

/-- Clear engine state values (R180). -/
def EngineState.value : EngineState → BitVec 8
  | .empty => 0
  | .gathering _ => 1
  | .sweeping => 2

/-- Fault cause values (R180). -/
def FaultCause.value : FaultCause → BitVec 8
  | .timeLimit => 1
  | .linkLost => 2
  | .failedCompletion => 3
  | .failedIdentify => 4

/-- Halt cause values (R180). -/
def HaltCause.value : HaltCause → BitVec 8
  | .shortHeader => 1
  | .badVersion => 2
  | .badKind => 3
  | .reservedSet => 4
  | .lengthMismatch => 5
  | .badWriteSize => 6
  | .unexpectedPayload => 7
  | .badMode => 8

/-- Kind codes of the block requests (R180). -/
def ReqKind.code : ReqKind → BitVec 8
  | .read => 0x10
  | .write => 0x11
  | .check => 0x12

/-- The result code of a failure reason (R76, R183). -/
def FailReason.code : FailReason → Code
  | .mediaError => .mediaError
  | .diskFault => .diskFault
  | .diskUnavailable => .diskUnavailable
  | .bayReleased => .bayReleased
  | .aborted => .aborted
  | .overrun => .overrun
  | .reset => .reset

/-- The result code of an end cause (R76, R183). -/
def EndCause.code : EndCause → Code
  | .aborted => .aborted
  | .overrun => .overrun
  | .reset => .reset

/-- The failure reason of an end cause (R66). -/
def EndCause.reason : EndCause → FailReason
  | .aborted => .aborted
  | .overrun => .overrun
  | .reset => .reset

/-- The healthy drive states (R83). -/
def DriveState.healthy : DriveState → Bool
  | .standby | .wakeWait | .spinningUp | .ready | .active | .spinningDown => true
  | .absent | .identifying | .fault | .service => false

/-- The asleep drive states (R83). -/
def DriveState.asleep : DriveState → Bool
  | .standby | .spinningDown => true
  | .absent | .identifying | .wakeWait | .spinningUp | .ready | .active | .fault
  | .service => false

/-- The bay lock by drive state (R134). -/
def lockFor : DriveState → Lock
  | .absent | .service => .unlocked
  | .identifying | .standby | .wakeWait | .spinningUp | .ready | .active | .spinningDown
  | .fault => .locked

/-- The service lamp by drive state and service-pressed flag (R134). -/
def lampFor (flag : Bool) : DriveState → Lamp
  | .absent => .off
  | .service => .on
  | .identifying | .standby | .wakeWait | .spinningUp | .ready | .active | .spinningDown
  | .fault => if flag then .blinking else .off

/-- Drive state, lock and lamp belong together by the table of R134. -/
def Service.outputs (c : Service) (st : DriveState) : Service :=
  { c with lock := lockFor st, lamp := lampFor c.pressedFlag st }

/-- A counter that rises by one and stops at 2^32 - 1 (R95, R106, R167). -/
def bump (n : Nat) : Nat := if n < 4294967295 then n + 1 else 4294967295

end Sys2Proof
end

