-- ==== Sys2Proof/Machine/Operands.lean ====
section
/-! DEFINITION. The layouts of ALT frames: the common header (R180), the fields each kind may use
(R181, R182), and the payloads that carry arguments. Multi-byte fields are sent most significant byte
first. -/

namespace Sys2Proof

/-- The `n` low bytes of a number, most significant first. -/
def be : Nat → Nat → List Byte
  | 0, _ => []
  | n + 1, v => be n (v / 256) ++ [BitVec.ofNat 8 v]

/-- The number that bytes spell, most significant first. -/
def ofBe (bs : List Byte) : Nat := bs.foldl (fun acc b => acc * 256 + b.toNat) 0

/-- The number in `n` bytes from byte `off` on. -/
def beAt (bs : List Byte) (off n : Nat) : Nat := ofBe ((bs.drop off).take n)

/-- The 48 bytes of a header (R180). -/
def Header.encode (h : Header) : List Byte :=
  be 1 h.version.toNat ++ be 1 h.kind.toNat ++ be 1 h.flags.toNat ++ be 1 h.tag.toNat ++
  be 2 h.handle.toNat ++ be 2 h.payloadLen.toNat ++ be 6 h.offset.toNat ++ be 2 h.count.toNat ++
  be 1 h.code.toNat ++ be 1 h.volume.toNat ++ be 1 h.subcode.toNat ++ be 1 h.detail.toNat ++
  be 4 h.valueA.toNat ++ be 4 h.valueB.toNat ++ be 2 h.sequence.toNat ++ be 18 h.reserved.toNat

/-- The header in the first 48 bytes, if there are so many (R180). -/
def Header.parse (bs : List Byte) : Option Header :=
  if bs.length < 48 then none
  else some {
    version    := BitVec.ofNat 8 (beAt bs 0 1)
    kind       := BitVec.ofNat 8 (beAt bs 1 1)
    flags      := BitVec.ofNat 8 (beAt bs 2 1)
    tag        := BitVec.ofNat 8 (beAt bs 3 1)
    handle     := BitVec.ofNat 16 (beAt bs 4 2)
    payloadLen := BitVec.ofNat 16 (beAt bs 6 2)
    offset     := BitVec.ofNat 48 (beAt bs 8 6)
    count      := BitVec.ofNat 16 (beAt bs 14 2)
    code       := BitVec.ofNat 8 (beAt bs 16 1)
    volume     := BitVec.ofNat 8 (beAt bs 17 1)
    subcode    := BitVec.ofNat 8 (beAt bs 18 1)
    detail     := BitVec.ofNat 8 (beAt bs 19 1)
    valueA     := BitVec.ofNat 32 (beAt bs 20 4)
    valueB     := BitVec.ofNat 32 (beAt bs 24 4)
    sequence   := BitVec.ofNat 16 (beAt bs 28 2)
    reserved   := BitVec.ofNat 144 (beAt bs 30 18) }

/-- A header with version 1 and every other field zero (R180). -/
def Header.blank : Header where
  version := 1
  kind := 0
  flags := 0
  tag := 0
  handle := 0
  payloadLen := 0
  offset := 0
  count := 0
  code := 0
  volume := 0
  subcode := 0
  detail := 0
  valueA := 0
  valueB := 0
  sequence := 0
  reserved := 0

/-- The number of bytes after the header. -/
def Body.length : Body → Nat
  | .bytes bs => bs.length
  | .blocks bs => 4096 * bs.length

/-- The bytes after the header. -/
def Body.toBytes : Body → List Byte
  | .bytes bs => bs
  | .blocks bs => bs.flatMap fun b => be 4096 b.toNat

/-- A frame the part builds: version 1, and the payload length computed (R180). -/
def OutFrame.build (dst : Addr) (h : Header) (body : Body) : OutFrame :=
  { dst, body, hdr := { h with version := 1, payloadLen := BitVec.ofNat 16 body.length } }

/-- The bytes after the Ethernet header. -/
def OutFrame.payload (f : OutFrame) : List Byte := f.hdr.encode ++ f.body.toBytes

/-- A frame's length: 14 bytes of Ethernet header, 48 of common header, and what follows (R155). -/
def OutFrame.length (f : OutFrame) : Nat := 62 + f.body.length

/-- Length of an arriving frame (R155). -/
def InFrame.length (f : InFrame) : Nat := 14 + f.payload.length

/-- The kind code of an arriving frame, if it is long enough to hold one (R159). -/
def InFrame.kind (f : InFrame) : Option Byte := f.payload[1]?

/-- Whether a frame is an END frame. -/
def OutFrame.isEnd (f : OutFrame) : Bool := f.hdr.kind == 0x22

/-- Whether an arriving frame is of kind READ, WRITE or CHECK (R159, R160). -/
def InFrame.isBlockRequest (f : InFrame) : Bool :=
  f.kind == some 0x10 || f.kind == some 0x11 || f.kind == some 0x12

/-- The node kinds (R146). -/
def isNodeKind (k : Byte) : Bool :=
  k == 0x01 || k == 0x02 || k == 0x03 || k == 0x10 || k == 0x11 || k == 0x12 || k == 0x13

/-- The fields a kind does not use are zero: every header byte the table of R181 leaves out, the upper
four bits of the tag, the flags not defined for the kind, and the reserved bytes (R148 check 4). -/
def Header.nodeReservedClear (h : Header) : Bool :=
  h.tag.toNat < 16 && h.subcode == 0 && h.detail == 0 && h.valueB == 0 && h.sequence == 0 &&
  h.reserved == 0 &&
  (if h.kind == 0x01 then
     h.handle == 0 && h.offset == 0 && h.count == 0 && h.flags == 0
   else if h.kind == 0x02 || h.kind == 0x03 then
     h.offset == 0 && h.count == 0 && h.code == 0 && h.volume == 0 && h.valueA == 0 && h.flags == 0
   else if h.kind == 0x10 || h.kind == 0x11 then
     h.code == 0 && h.volume == 0 && h.valueA == 0 && h.flags == 0
   else if h.kind == 0x12 then
     h.code == 0 && h.volume == 0 && h.valueA == 0 && (h.flags == 0 || h.flags == 1)
   else
     h.handle == 0 && h.offset == 0 && h.count == 0 && h.code == 0 && h.volume == 0 &&
     h.valueA == 0 && h.flags == 0)

/-- The first check of R148 that a frame of a node fails, if any. -/
def malformed (payload : List Byte) : Option HaltCause :=
  match Header.parse payload with
  | none => some .shortHeader
  | some h =>
    if h.version ≠ 1 then some .badVersion
    else if !isNodeKind h.kind then some .badKind
    else if !h.nodeReservedClear then some .reservedSet
    else if h.payloadLen.toNat ≠ payload.length - 48 then some .lengthMismatch
    else if h.kind = 0x11 ∧
        ¬ ((h.count = 1 ∨ h.count = 2) ∧ payload.length - 48 = 4096 * h.count.toNat) then
      some .badWriteSize
    else if h.kind ≠ 0x11 ∧ payload.length ≠ 48 then some .unexpectedPayload
    else if h.kind = 0x01 ∧ (LoanMode.ofValue h.code).isNone then some .badMode
    else none

/-- The blocks that bytes hold, 4,096 bytes each (R61, R181). -/
def blocksOf : Nat → List Byte → List Block
  | 0, _ => []
  | n + 1, bs => BitVec.ofNat 32768 (ofBe (bs.take 4096)) :: blocksOf n (bs.drop 4096)

/-- The TO_END flag (R180). -/
def Header.toEnd (h : Header) : Bool := h.flags.getLsbD 0

/-- The ACT flag (R180). -/
def Header.act (h : Header) : Bool := h.flags.getLsbD 2

/-! ### Management frames (R182) -/

/-- The request codes that name a management request (R182). -/
def isRequestCode (c : Byte) : Bool :=
  c == 0x01 || c == 0x02 || c == 0x03 || c == 0x04 || c == 0x05 || c == 0x06 || c == 0x07 ||
  c == 0x10 || c == 0x11 || c == 0x12 || c == 0x13 || c == 0x18 || c == 0x19 || c == 0x20 ||
  c == 0x21 || c == 0x22 || c == 0x23 || c == 0x24 || c == 0x28 || c == 0x29 || c == 0x2A ||
  c == 0x2B || c == 0x2C || c == 0x2D

/-- Requests that name a volume in the header (R182). -/
def usesVolume (c : Byte) : Bool := c == 0x10 || c == 0x11 || c == 0x12 || c == 0x13

/-- Requests that name a handle in the header (R182). -/
def usesHandle (c : Byte) : Bool := c == 0x18

/-- Requests that name a node address in the header (R182). -/
def usesOffset (c : Byte) : Bool :=
  c == 0x20 || c == 0x21 || c == 0x22 || c == 0x23 || c == 0x24

/-- Requests that carry value A in the header (R182). -/
def usesValueA (c : Byte) : Bool :=
  c == 0x19 || c == 0x28 || c == 0x29 || c == 0x2A || c == 0x2B || c == 0x2C || c == 0x2D

/-- Requests for which the ACT flag is defined (R182). -/
def usesAct (c : Byte) : Bool := c == 0x06 || c == 0x2C

/-- Version, reserved bytes, flags and payload length of a MANAGE frame are as they must be (R169). -/
def Header.manageHeaderGood (h : Header) (payload : List Byte) : Bool :=
  h.version == 1 && h.reserved == 0 &&
  (h.flags == 0 || (usesAct h.subcode && h.flags == 4)) &&
  h.payloadLen.toNat == payload.length - 48

/-- A header field that the request does not use is zero (R182). -/
def Header.manageFieldsClear (h : Header) : Bool :=
  h.count == 0 && h.code == 0 && h.detail == 0 && h.valueB == 0 && h.sequence == 0 &&
  (usesVolume h.subcode || h.volume == 0) && (usesHandle h.subcode || h.handle == 0) &&
  (usesOffset h.subcode || h.offset == 0) && (usesValueA h.subcode || h.valueA == 0)

/-- A segment entry of DEFINE_VOLUME (R182). -/
structure SegArg where
  bay    : Nat
  base   : Nat
  length : Nat
  deriving DecidableEq, Repr

/-- The arguments of DEFINE_VOLUME (R182). -/
structure DefineArgs where
  volume   : Nat
  cls      : Byte
  wake     : Bool
  term     : Nat
  grace    : Nat
  segments : List SegArg
  deriving DecidableEq, Repr

/-- `k` segment entries of 12 bytes; none where a reserved byte is not zero (R182). -/
def segArgs : Nat → List Byte → Option (List SegArg)
  | 0, _ => some []
  | k + 1, bs =>
    if beAt bs 1 3 ≠ 0 then none
    else (segArgs k (bs.drop 12)).map
      ({ bay := beAt bs 0 1, base := beAt bs 4 4, length := beAt bs 8 4 } :: ·)

/-- The payload of DEFINE_VOLUME; none where its size or structure does not match (R182). -/
def defineArgs (volume : Nat) (bs : List Byte) : Option DefineArgs :=
  if bs.length < 8 ∨ bs.length ≠ 8 + 12 * beAt bs 2 1 ∨ beAt bs 3 1 ≠ 0 then none
  else (segArgs (beAt bs 2 1) (bs.drop 8)).map fun segs =>
    { volume, cls := BitVec.ofNat 8 (beAt bs 0 1), wake := beAt bs 1 1 ≠ 0, term := beAt bs 4 2,
      grace := beAt bs 6 2, segments := segs }

/-- The parameter block of SET_PARAMS; none where its size or structure does not match (R182). -/
def paramBlock (bs : List Byte) : Option ParamBlock :=
  if bs.length ≠ 24 ∨ beAt bs 0 4 ≥ 1024 ∨ beAt bs 21 3 ≠ 0 then none
  else some {
    mask          := BitVec.ofNat 32 (beAt bs 0 4)
    budget        := beAt bs 4 1
    spinUpLimit   := beAt bs 5 1
    pieceLimit    := beAt bs 6 1
    deliveryLimit := beAt bs 7 2
    allowance     := beAt bs 9 1
    gatherWindow  := beAt bs 10 1
    idleFactor    := beAt bs 11 1
    idleUnit      := beAt bs 12 1
    on            := beAt bs 13 1
    off           := beAt bs 14 1
    keepCarry     := BitVec.ofNat 24 (beAt bs 15 3)
    keepValue     := BitVec.ofNat 24 (beAt bs 18 3) }

/-- Whether the payload of a request has the size and structure its code requires (R169, R182). -/
def managePayloadGood (h : Header) (payload : List Byte) : Bool :=
  if h.subcode == 0x04 then (paramBlock (payload.drop 48)).isSome
  else if h.subcode == 0x10 then (defineArgs h.volume.toNat (payload.drop 48)).isSome
  else payload.length == 48

/-- The header of an answer to a request: its code and tag, and its header arguments repeated
(R182). -/
def Header.answerTo (h : Header) : Header :=
  { Header.blank with
    kind := 0x31
    tag := h.tag
    subcode := h.subcode
    flags := if usesAct h.subcode then h.flags &&& 4 else 0
    volume := if usesVolume h.subcode then h.volume else 0
    handle := if usesHandle h.subcode then h.handle else 0
    offset := if usesOffset h.subcode then h.offset else 0
    valueA := if usesValueA h.subcode then h.valueA else 0 }

/-- The answer to a request with a status and no payload (R182). -/
def Header.status (h : Header) (c : Code) : Answer :=
  { hdr := { h.answerTo with code := c.value }, body := [] }

/-- The answer OK to a request with a payload (R182). -/
def Header.data (h : Header) (body : List Byte) : Answer :=
  { hdr := { h.answerTo with code := Code.ok.value }, body }

/-- Twenty bytes of a disk identity, zero if none (R182). -/
def identityBytes : Option Serial → List Byte
  | some s => be 20 s.toNat
  | none => be 20 0

/-- The notice code of a manager notice (R182). -/
def Notice.code : Notice → BitVec 8
  | .servicePressed .. => 0x01
  | .serviceOverride .. => 0x02
  | .diskArrived .. => 0x03
  | .diskGone .. => 0x04
  | .diskFault .. => 0x05
  | .clearDone .. => 0x06
  | .clearFailed .. => 0x07
  | .loanExpired .. => 0x08
  | .nodeHalted .. => 0x09

/-- The per-segment payload of CLEAR_FAILED (R182). -/
def clearFailedBytes : Nat → List Segment → List Byte
  | _, [] => []
  | i, s :: t =>
    [BitVec.ofNat 8 i, BitVec.ofNat 8 s.bay.val, s.clear.value, 0] ++ clearFailedBytes (i + 1) t

/-- The fields and the payload of a manager notice (R182), but for sequence and destination. -/
def Notice.content : Notice → Header × List Byte
  | .servicePressed b st =>
    ({ Header.blank with valueA := BitVec.ofNat 32 b.val }, [st.value, 0, 0, 0])
  | .serviceOverride b st d =>
    ({ Header.blank with valueA := BitVec.ofNat 32 b.val },
      [st.value, 0, 0, 0] ++ identityBytes d)
  | .diskArrived b d =>
    ({ Header.blank with valueA := BitVec.ofNat 32 b.val },
      be 4 d.capacity ++ identityBytes (some d.serial))
  | .diskGone b st d =>
    ({ Header.blank with valueA := BitVec.ofNat 32 b.val },
      [st.value, 0, 0, 0] ++ identityBytes d)
  | .diskFault b st c d =>
    ({ Header.blank with valueA := BitVec.ofNat 32 b.val },
      [st.value, c.value, 0, 0] ++ identityBytes d)
  | .clearDone v n =>
    ({ Header.blank with volume := BitVec.ofNat 8 v, valueA := BitVec.ofNat 32 n }, [])
  | .clearFailed v segs =>
    ({ Header.blank with volume := BitVec.ofNat 8 v, valueA := BitVec.ofNat 32 segs.length },
      clearFailedBytes 0 segs)
  | .loanExpired h v m a =>
    ({ Header.blank with handle := h, volume := BitVec.ofNat 8 v, code := m.value, offset := a }, [])
  | .nodeHalted a c p k st =>
    ({ Header.blank with offset := a, code := c.value }, [BitVec.ofNat 8 p.val, k, st.value, 0])

/-- The MANAGE-NOTICE frame of a notice, stamped with a sequence number (R177, R182). -/
def Notice.frame (n : Notice) (dst : Addr) (seq : BitVec 16) : OutFrame :=
  OutFrame.build dst
    { n.content.1 with kind := 0x32, subcode := n.code, sequence := seq } (.bytes n.content.2)

end Sys2Proof
end

