-- ==== Sys2Proof/Machine/Ops.lean ====
section
/-! DEFINITION. The named operations over the parts of the state: reading and writing one unit,
sending messages between blocks, placing frames in egress queues, and what the management agent does
with what reaches it. -/

namespace Sys2Proof

/-! ### Time -/

/-- One ms on the clock of the state, which counts bit times of a 25 Gb/s link (log entry 1). -/
def msec : Nat := 25000000

/-- `n` steps of 10 ms. -/
def tens (n : Nat) : Nat := n * 10 * msec

/-- `n` seconds. -/
def secs (n : Nat) : Nat := n * 1000 * msec

/-- A pause time of `t` units of 512 bit times (R163). -/
def pauseUnits (t : BitVec 16) : Nat := 512 * t.toNat

/-- Whole seconds from `now` to a deadline, rounded down. -/
def secondsLeft (now deadline : Nat) : Nat := (deadline - now) / secs 1

/-- A timer has run out: its expiry is taken no earlier than its deadline (R33). -/
def due (timer : Option Nat) (now : Nat) : Bool :=
  match timer with
  | some d => d ≤ now
  | none => false

/-! ### Farm port units (R155 to R166) -/

/-- Bytes held in the ingress buffer between steps (R157). -/
def FarmPort.fill (p : FarmPort) : Nat := (p.ingress.map InFrame.length).sum

/-- Bytes of general room: 262,144 less the space of 512 END frames of 62 bytes (R164). -/
def generalRoom : Nat := 262144 - 512 * 62

/-- Bytes of general room taken by frames that are not END frames (R164). -/
def FarmPort.roomUsed (p : FarmPort) : Nat :=
  ((p.egress.filter fun f => !f.isEnd).map OutFrame.length).sum

/-- General room free (R164). -/
def FarmPort.roomFree (p : FarmPort) : Nat := generalRoom - p.roomUsed

/-- At a frame boundary the transmitter takes the next pause frame, else, with no received pause in
force, the oldest frame of the egress queue (R161, R163, R164). -/
def FarmPort.startTx (p : FarmPort) : FarmPort :=
  if p.up && p.wire == .idle then
    match p.pauseOut with
    | t :: ts => { p with wire := .pause t, pauseOut := ts }
    | [] => if p.receivedPause.isNone && !p.egress.isEmpty then { p with wire := .frame } else p
  else p

/-- Send a pause frame of a given time, at the next frame boundary (R161). -/
def FarmPort.sendPause (p : FarmPort) (t : BitVec 16) : FarmPort :=
  FarmPort.startTx { p with pauseOut := p.pauseOut ++ [t] }

/-- The pause state re-examined at a fill (R161). Thresholds are held in KiB. -/
def FarmPort.examineAt (p : FarmPort) (fill now : Nat) : FarmPort :=
  if !p.up then p
  else if !p.pausing && p.on * 1024 < fill then
    FarmPort.sendPause { p with pausing := true, repeatTimer := some (now + 20 * msec) } 65535
  else if p.pausing && fill ≤ p.off * 1024 then
    FarmPort.sendPause { p with pausing := false, repeatTimer := none } 0
  else p

/-- The pause state re-examined at the present fill (R161). -/
def FarmPort.examine (p : FarmPort) (now : Nat) : FarmPort := p.examineAt p.fill now

/-- An END place is released (R164). -/
def FarmPort.releaseClaim (p : FarmPort) : FarmPort := { p with claims := p.claims - 1 }

/-- A frame placed in the egress queue, by kind and link state (R165). -/
def FarmPort.place (p : FarmPort) (f : OutFrame) : FarmPort :=
  if !p.up then (if f.isEnd then p.releaseClaim else p)
  else if f.isEnd || f.length ≤ p.roomFree then
    FarmPort.startTx { p with egress := p.egress ++ [f] }
  else p

/-- An Ethernet frame as the part sends it (R166): source address, destination address, Ethernet type,
and the bytes after the Ethernet header. The spec gives a pause frame no destination. -/
structure SentFrame where
  src     : Addr
  dst     : Option Addr
  type    : EtherType
  payload : List Byte
  deriving DecidableEq, Repr

/-- What a port with address `src` has on the wire (R161, R166): the oldest frame of its egress queue,
with Ethernet type B7A6h, or a pause frame. -/
def FarmPort.sending (p : FarmPort) (src : Addr) : Option SentFrame :=
  match p.wire, p.egress with
  | .idle, _ => none
  | .pause t, _ => some { src, dst := none, type := .pause t, payload := [] }
  | .frame, f :: _ => some { src, dst := some f.dst, type := .alt, payload := f.payload }
  | .frame, [] => none

/-- A pause frame from the link partner with a good frame check (R163). Where it arrives as a frame, the
frame-head position stays (log entry 54). -/
def FarmPort.takePause (p : FarmPort) (t : BitVec 16) (now : Nat) : FarmPort :=
  if !p.up then p
  else if t = 0 then FarmPort.startTx { p with receivedPause := none }
  else { p with receivedPause := some (now + pauseUnits t) }

/-! ### Entries of the list of requests in progress (R172) -/

/-- The answer to an entry of the list of requests in progress (R172, R182). -/
def Entry.answer (e : Entry) (c : Code) : Answer :=
  match e.work with
  | .drain a =>
    { hdr := { Header.blank with kind := 0x31, subcode := 0x22, tag := e.tag, offset := a,
                                 code := c.value }, body := [] }
  | .reset _ _ =>
    { hdr := { Header.blank with kind := 0x31, subcode := 0x07, tag := e.tag, code := c.value },
      body := [] }

/-- A soft reset's entry can be answered: both shares are finished and every drain it waits for has
been answered (R178). -/
def Entry.resetReady (e : Entry) (progress : List Entry) : Bool :=
  match e.work with
  | .reset waitFor sharesDone => sharesDone && waitFor.all fun i => !progress.any fun d => d.id == i
  | .drain _ => false

/-- Whether an entry is a drain of the node with an address. -/
def Entry.drains (e : Entry) (a : Addr) : Bool :=
  match e.work with
  | .drain x => x == a
  | .reset _ _ => false

/-- Reset entries know that both shares have been reported. -/
def Entry.sharesReported (e : Entry) : Entry :=
  match e.work with
  | .reset w _ => { e with work := .reset w true }
  | .drain _ => e

namespace Machine

/-! ### Reading and writing one unit -/

/-- Farm port unit `p`. -/
def State.port (s : State) (p : Port) : FarmPort := s.ports.getD p.val (FarmPort.powerOn false)

/-- The Ethernet frame that farm port `p` has on the wire, with the port's fixed address as its source
(R166; log entry 42). -/
def State.sending (s : State) (p : Port) : Option SentFrame :=
  (s.port p).sending (Config.portAddress p)

/-- Write farm port unit `p`. -/
def State.setPort (s : State) (p : Port) (f : FarmPort) : State :=
  { s with ports := s.ports.set p.val f }

/-- Drive unit of bay `b`. -/
def State.unit (s : State) (b : Bay) : DriveUnit := s.units.getD b.val DriveUnit.absent

/-- Write the drive unit of bay `b`. -/
def State.setUnit (s : State) (b : Bay) (u : DriveUnit) : State :=
  { s with units := s.units.set b.val u }

/-- Service controls of bay `b`. -/
def State.controls (s : State) (b : Bay) : Service := s.svc.getD b.val Service.absent

/-- Write the service controls of bay `b`. -/
def State.setControls (s : State) (b : Bay) (c : Service) : State :=
  { s with svc := s.svc.set b.val c }

/-- Channels of bay `b`. -/
def State.bmail (s : State) (b : Bay) : BayMail := s.bayMail.getD b.val {}

/-- Write the channels of bay `b`. -/
def State.setBmail (s : State) (b : Bay) (m : BayMail) : State :=
  { s with bayMail := s.bayMail.set b.val m }

/-- Channels of port `p`. -/
def State.pmail (s : State) (p : Port) : PortMail := s.portMail.getD p.val {}

/-- Write the channels of port `p`. -/
def State.setPmail (s : State) (p : Port) (m : PortMail) : State :=
  { s with portMail := s.portMail.set p.val m }

/-- What the loan manager keeps for bay `b`. -/
def State.lmBay (s : State) (b : Bay) : LmBay := s.lm.bays.getD b.val {}

/-- Write what the loan manager keeps for bay `b`. -/
def State.setLmBay (s : State) (b : Bay) (l : LmBay) : State :=
  { s with lm := { s.lm with bays := s.lm.bays.set b.val l } }

/-- Node entry `n`, if in use. -/
def State.node? (s : State) (n : Nat) : Option Node := s.nodes.get n

/-- Write node entry `n`. -/
def State.setNode (s : State) (n : Nat) (e : Node) : State := { s with nodes := s.nodes.set n e }

/-- Change node entry `n` if it is in use. -/
def State.modNode (s : State) (n : Nat) (f : Node → Node) : State :=
  match s.node? n with
  | some e => s.setNode n (f e)
  | none => s

/-- Volume `v`, if defined. -/
def State.volume? (s : State) (v : Nat) : Option Volume := s.lm.volumes.get v

/-- Write volume `v`. -/
def State.setVolume (s : State) (v : Nat) (e : Volume) : State :=
  { s with lm := { s.lm with volumes := s.lm.volumes.set v e } }

/-- Change volume `v` if it is defined. -/
def State.modVolume (s : State) (v : Nat) (f : Volume → Volume) : State :=
  match s.volume? v with
  | some e => s.setVolume v (f e)
  | none => s

/-- Loan entry `i`, if in use. -/
def State.loan? (s : State) (i : Nat) : Option Loan := s.lm.loans.get i

/-- Write loan entry `i`. -/
def State.setLoan (s : State) (i : Nat) (l : Loan) : State :=
  { s with lm := { s.lm with loans := s.lm.loans.set i l } }

/-- Generation of loan entry `i` (R19). -/
def State.generation (s : State) (i : Nat) : Nat := s.lm.generations.getD i 0

/-- Write the generation of loan entry `i`; generation 0 is not listed. -/
def State.setGeneration (s : State) (i g : Nat) : State :=
  { s with lm := { s.lm with generations :=
      if g = 0 then s.lm.generations.erase i else s.lm.generations.set i g } }

/-- Write waiting record `r`. -/
def State.setRecord (s : State) (r : Nat) (w : WaitRec) : State :=
  { s with lm := { s.lm with waits := s.lm.waits.set r w } }

/-- Request record `r`, if in use. -/
def State.request? (s : State) (r : Nat) : Option Request := s.ru.requests.get r

/-- Write request record `r`. -/
def State.setRequest (s : State) (r : Nat) (q : Request) : State :=
  { s with ru := { s.ru with requests := s.ru.requests.set r q } }

/-- Piece record `n`, if in use. -/
def State.piece? (s : State) (n : Nat) : Option Piece := s.ru.pieces.get n

/-- The piece a message speaks of, if its record still holds that piece. -/
def State.pieceOf (s : State) (r : PieceRef) : Option Piece :=
  match s.piece? r.num with
  | some p => if p.serial = r.serial then some p else none
  | none => none

/-- Write piece record `n`. -/
def State.setPiece (s : State) (n : Nat) (p : Piece) : State :=
  { s with ru := { s.ru with pieces := s.ru.pieces.set n p } }

/-- Delivery list of port `p` (R71). -/
def State.delivery (s : State) (p : Port) : List Nat := s.ru.delivery.getD p.val []

/-- Write the delivery list of port `p`. -/
def State.setDelivery (s : State) (p : Port) (l : List Nat) : State :=
  { s with ru := { s.ru with delivery := s.ru.delivery.set p.val l } }

/-! ### Sending messages -/

/-- Request unit to drive unit. -/
def State.ruSend (s : State) (b : Bay) (m : RuToUnit) : State :=
  s.setBmail b { s.bmail b with ruToUnit := (s.bmail b).ruToUnit ++ [m] }

/-- Drive unit to request unit. -/
def State.tellRu (s : State) (b : Bay) (m : UnitToRu) : State :=
  s.setBmail b { s.bmail b with unitToRu := (s.bmail b).unitToRu ++ [m] }

/-- Loan manager to drive unit. -/
def State.lmSend (s : State) (b : Bay) (m : LmToUnit) : State :=
  s.setBmail b { s.bmail b with lmToUnit := (s.bmail b).lmToUnit ++ [m] }

/-- Drive unit to loan manager. -/
def State.tellLm (s : State) (b : Bay) (m : UnitToLm) : State :=
  s.setBmail b { s.bmail b with unitToLm := (s.bmail b).unitToLm ++ [m] }

/-- Drive unit to arbiter (R108). -/
def State.tellArb (s : State) (b : Bay) (m : UnitToArb) : State :=
  s.setBmail b { s.bmail b with unitToArb := (s.bmail b).unitToArb ++ [m] }

/-- Farm port unit to request unit. -/
def State.portTell (s : State) (p : Port) (m : PortToRu) : State :=
  s.setPmail p { s.pmail p with toRu := (s.pmail p).toRu ++ [m] }

/-! ### Placing frames -/

/-- Place a frame in the egress queue of a port (R165). -/
def State.place (s : State) (p : Port) (f : OutFrame) : State := s.setPort p ((s.port p).place f)

/-- Place a frame for a node at its last port; discarded where the last port is absent (R147). -/
def State.placeForNode (s : State) (n : Nat) (h : Header) : State :=
  match s.node? n with
  | some e =>
    match e.lastPort with
    | some p => s.place p (OutFrame.build e.addr h (.bytes []))
    | none => s
  | none => s

/-! ### The management agent (R168 to R178) -/

/-- Set what the agent waits for (R172). -/
def State.setWait (s : State) (w : AgentWait) : State := { s with agent := { s.agent with wait := w } }

/-- Place a MANAGE-ANSWER at the manager's last port (R168, R172). -/
def State.answer (s : State) (a : Answer) : State :=
  match s.agent.slot with
  | some sl => s.place sl.port (OutFrame.build sl.addr a.hdr (.bytes a.body))
  | none => s

/-- The agent takes a notice: stamped and placed with the slot filled, else discarded (R177). -/
def State.takeNotice (s : State) (n : Notice) : State :=
  match s.agent.slot with
  | some sl =>
    { s.place sl.port (n.frame sl.addr sl.seq) with
      agent := { s.agent with slot := some { sl with seq := sl.seq + 1 } } }
  | none => s

/-- Answer and remove the reset entries that can be answered (R178). -/
def State.checkReset (s : State) : State :=
  let ready := s.agent.progress.filter fun e => e.resetReady s.agent.progress
  let left := s.agent.progress.filter fun e => !e.resetReady s.agent.progress
  ready.foldl (fun t e => t.answer (e.answer .ok)) { s with agent := { s.agent with progress := left } }

/-- Answer every drain held for a node, in the order they were taken (R149, R151). -/
def State.answerDrains (s : State) (a : Addr) (c : Code) : State :=
  let mine := s.agent.progress.filter fun e => e.drains a
  let left := s.agent.progress.filter fun e => !e.drains a
  State.checkReset (mine.foldl (fun t e => t.answer (e.answer c))
    { s with agent := { s.agent with progress := left } })

/-- The agent has taken the shares reported so far; with both, the reset no longer runs, and its entry
is answered unless a drain it waits for still stands (R178). -/
def State.sharesTaken (s : State) (r : Running) : State :=
  if r.lmDone && r.ruDone then
    State.checkReset { s with agent := { s.agent with
      running := none, progress := s.agent.progress.map Entry.sharesReported } }
  else { s with agent := { s.agent with running := some r } }

/-- The agent takes a report that a share is finished (R178). -/
def State.shareDone (s : State) (share : ResetShare) : State :=
  match s.agent.running with
  | none => s
  | some r =>
    match share with
    | .loanManager => s.sharesTaken { r with lmDone := true }
    | .requestUnit => s.sharesTaken { r with ruDone := true }

/-- The agent takes one message of the loan manager, of whatever kind (R172, R177, R178). -/
def State.takeMessage (s : State) : AgentMsg → State
  | .status a => (s.answer a).setWait .free
  | .drainAnswer a c => s.answerDrains a c
  | .notice n => s.takeNotice n
  | .resetFinished => s.shareDone .loanManager

/-- The agent takes every message of the loan manager's channel, in the order sent (R172). -/
def State.flushLm (s : State) : State :=
  let t := s.mail.lmToAgent.foldl State.takeMessage s
  { t with mail := { t.mail with lmToAgent := [] } }

/-- The agent takes the statuses and drain answers at the head of a block's channel; a notice or a
report that a reset share is finished waits for its own command (R172; log entry 8). -/
def settle : List AgentMsg → State → List AgentMsg × State
  | [], s => ([], s)
  | .status a :: t, s => settle t ((s.answer a).setWait .free)
  | .drainAnswer a c :: t, s => settle t (s.answerDrains a c)
  | .notice n :: t, s => (.notice n :: t, s)
  | .resetFinished :: t, s => (.resetFinished :: t, s)

/-- The loan manager sends to the agent. -/
def State.lmTellAgent (s : State) (m : AgentMsg) : State :=
  let r := settle (s.mail.lmToAgent ++ [m]) s
  { r.2 with mail := { r.2.mail with lmToAgent := r.1 } }

/-- The request unit sends to the agent. -/
def State.ruTellAgent (s : State) (m : AgentMsg) : State :=
  let r := settle (s.mail.ruToAgent ++ [m]) s
  { r.2 with mail := { r.2.mail with ruToAgent := r.1 } }

/-- The node block sends to the agent. -/
def State.nodeTellAgent (s : State) (m : AgentMsg) : State :=
  let r := settle (s.mail.nodeToAgent ++ [m]) s
  { r.2 with mail := { r.2.mail with nodeToAgent := r.1 } }

/-- The drive unit of a bay sends to the agent. -/
def State.unitTellAgent (s : State) (b : Bay) (m : AgentMsg) : State :=
  let r := settle ((s.bmail b).unitToAgent ++ [m]) s
  r.2.setBmail b { r.2.bmail b with unitToAgent := r.1 }

/-- The service controls of a bay send to the agent. -/
def State.svcTellAgent (s : State) (b : Bay) (m : AgentMsg) : State :=
  let r := settle ((s.bmail b).svcToAgent ++ [m]) s
  r.2.setBmail b { r.2.bmail b with svcToAgent := r.1 }

end Machine

end Sys2Proof
end

