-- ==== Sys2Proof/Machine/LoanOps.lean ====
section
/-! DEFINITION. The shared operations of the loan manager: when a segment is served and a borrow
compatible, creating, granting, ending and freeing loans, and the clearing of SCRATCH volumes as far as
the loan manager runs it. -/

namespace Sys2Proof

/-- The modes a class is lent in (R21). -/
def VolClass.allows : VolClass → LoanMode → Bool
  | .library, .read => true
  | .shot, .read => true
  | .shot, .write => true
  | .scratch, .sole => true
  | .library, .write | .library, .sole | .shot, .sole | .scratch, .read | .scratch, .write => false

/-- The handle of an entry index and a generation (R20). -/
def handleOf (index gen : Nat) : BitVec 16 := BitVec.ofNat 16 (64 * index + gen)

/-- The entry index of a handle (R20). -/
def handleIndex (h : BitVec 16) : Nat := h.toNat / 64

/-- The generation of a handle (R20). -/
def handleGen (h : BitVec 16) : Nat := h.toNat % 64

/-- Whether a loan is in ENDING. -/
def LoanState.isEnding : LoanState → Bool
  | .ending _ => true
  | .held | .recalling _ => false

/-- A segment lies on a disk of its recorded identity, within its capacity (R5). -/
def Segment.onDisk (g : Segment) (disk : Option Disk) : Bool :=
  match disk with
  | some d => d.serial == g.identity && decide (g.base + g.length ≤ d.capacity)
  | none => false

/-- How granting from a head ended: at step 1, 2 or 3 of R29. -/
inductive GrantEnd where
  | empty | blocked | noEntry
  deriving DecidableEq, Repr

namespace Machine

/-! ### Reading the disk map -/

/-- A segment is served by the drive unit of its bay as it stands (R5). -/
def State.served (s : State) (g : Segment) : Bool :=
  (s.unit g.bay).state.healthy && g.onDisk (s.unit g.bay).disk

/-- The disk of a bay whose drive unit is healthy as it stands (R5, R12). -/
def State.healthyDisk (s : State) (b : Bay) : Option Disk :=
  if (s.unit b).state.healthy then (s.unit b).disk else none

/-- A volume is impaired while a segment of it is not served by the bays as the loan manager last took
them, by a report or at a definition (R7, R13; log entry 15). -/
def State.impaired (s : State) (v : Volume) : Bool :=
  v.segments.any fun g => !g.onDisk (s.lmBay g.bay).reported

/-- A borrow in a mode is compatible with a volume (R22). -/
def State.compatible (s : State) (v : Nat) (m : LoanMode) : Bool :=
  match s.volume? v with
  | none => false
  | some vol =>
    match m with
    | .read =>
      vol.state == .idle ||
        (vol.state == .lent &&
          s.lm.loans.all fun e => e.2.volume != v || e.2.mode == .read)
    | .write | .sole => vol.state == .idle

/-- The loan a current handle names (R20). -/
def State.currentLoan (s : State) (h : BitVec 16) : Option Loan :=
  match s.loan? (handleIndex h) with
  | some l => if s.generation (handleIndex h) = handleGen h then some l else none
  | none => none

/-- The loan a current handle of a given holder names (R20, R34, R35, R39). -/
def State.loanOf (s : State) (h : BitVec 16) (node : Nat) : Option Loan :=
  match s.currentLoan h with
  | some l => if l.holder = node then some l else none
  | none => none

/-- The segment a reference names. -/
def State.segment? (s : State) (r : SegRef) : Option Segment :=
  match s.volume? r.vol with
  | some v => v.segments[r.seg]?
  | none => none

/-- Set the clear status of a segment (R11). -/
def State.setClear (s : State) (r : SegRef) (c : ClearStatus) : State :=
  s.modVolume r.vol fun v =>
    { v with segments := v.segments.modify r.seg fun g => { g with clear := c } }

/-! ### Creating and granting loans -/

/-- A loan is created in a free entry (R27). -/
def State.createLoan (s : State) (v node : Nat) (m : LoanMode) (i : Nat) : State :=
  match s.volume? v with
  | none => s
  | some vol =>
    (s.setLoan i { holder := node, volume := v, mode := m, state := .held,
                   termDeadline := s.now + secs vol.term, outstanding := 0 }).setVolume v
      { vol with loanCount := vol.loanCount + 1,
                 state := if vol.state = .idle then .lent else vol.state }

/-- A GRANTED notice (R46). -/
def grantedHeader (h : BitVec 16) (v : Nat) (m : LoanMode) (term : Nat) : Header :=
  { Header.blank with kind := 0x23, subcode := 0x01, handle := h, volume := BitVec.ofNat 8 v,
                      code := m.value, valueA := BitVec.ofNat 32 term }

/-- A RECALL notice (R46). -/
def recallHeader (h : BitVec 16) (v grace : Nat) : Header :=
  { Header.blank with kind := 0x23, subcode := 0x02, handle := h, volume := BitVec.ofNat 8 v,
                      valueA := BitVec.ofNat 32 grace }

/-- An ENDED notice (R46). -/
def endedHeader (h : BitVec 16) (v : Nat) (r : EndReason) : Header :=
  { Header.blank with kind := 0x23, subcode := 0x03, handle := h, volume := BitVec.ofNat 8 v,
                      detail := r.value }

/-- A WAIT_EXPIRED notice (R46). -/
def waitExpiredHeader (v : Nat) (m : LoanMode) : Header :=
  { Header.blank with kind := 0x23, subcode := 0x04, volume := BitVec.ofNat 8 v, code := m.value }

/-- The loan term of a volume, in seconds (R3). -/
def State.termOf (s : State) (v : Nat) : Nat :=
  match s.volume? v with
  | some vol => vol.term
  | none => 0

/-- Take a record out of the pool and out of its wait list. -/
def State.dropRecord (s : State) (v r : Nat) : State :=
  { s with lm := { s.lm with waits := s.lm.waits.erase r } }.modVolume v fun vol =>
    { vol with waitList := vol.waitList.filter (· ≠ r) }

/-- Step 4 of R29: the head record becomes a loan in entry `i`, and a GRANTED notice is placed. -/
def State.grantRecord (s : State) (v r : Nat) (w : WaitRec) (i : Nat) : State :=
  ((s.dropRecord v r).createLoan v w.node w.mode i).placeForNode w.node
    (grantedHeader (handleOf i (s.generation i)) v w.mode (s.termOf v))

/-- The steps of R29 over the records of a wait list. -/
def State.grantLoop (v : Nat) : List Nat → State → State × GrantEnd
  | [], s => (s, .empty)
  | r :: rest, s =>
    match s.lm.waits.get r with
    | none => (s, .blocked)
    | some w =>
      if !s.compatible v w.mode then (s, .blocked)
      else
        match s.lm.loans.lowestFree 1024 with
        | none => (s, .noEntry)
        | some i => State.grantLoop v rest (s.grantRecord v r w i)

/-- The grant retry order after granting from a volume has ended (R30). -/
def State.noteRetry (s : State) (v : Nat) (e : GrantEnd) : State :=
  { s with lm := { s.lm with retry :=
      match e with
      | .noEntry => if s.lm.retry.contains v then s.lm.retry else s.lm.retry ++ [v]
      | .empty | .blocked => s.lm.retry.filter (· ≠ v) } }

/-- Grant from the head of a volume's wait list (R29, R30); also how it ended. -/
def State.grantEnd (s : State) (v : Nat) : State × GrantEnd :=
  match s.volume? v with
  | none => (s, .empty)
  | some vol =>
    let r := State.grantLoop v vol.waitList s
    (r.1.noteRetry v r.2, r.2)

/-- Grant from the head of a volume's wait list (R29). -/
def State.grant (s : State) (v : Nat) : State := (s.grantEnd v).1

/-- The grant retry order is served while a loan entry is free (R30). -/
def State.retryLoop : Nat → State → State
  | 0, s => s
  | fuel + 1, s =>
    match s.lm.retry with
    | [] => s
    | v :: _ =>
      if (s.lm.loans.lowestFree 1024).isNone then s
      else
        match s.grantEnd v with
        | (t, .noEntry) => t
        | (t, .empty) | (t, .blocked) => State.retryLoop fuel t

/-- Serve the grant retry order (R30). -/
def State.retryGrants (s : State) : State := State.retryLoop s.lm.retry.length s

/-- A volume with an empty wait list leaves the grant retry order (R30). -/
def State.leaveRetry (s : State) (v : Nat) : State :=
  match s.volume? v with
  | some vol =>
    if vol.waitList.isEmpty then
      { s with lm := { s.lm with retry := s.lm.retry.filter (· ≠ v) } }
    else s
  | none => s

/-- A record is removed without a grant: freed, its node's count lowered, and with `notice` a
WAIT_EXPIRED placed (R31). -/
def State.removeRecord (s : State) (r : Nat) (notice : Bool) : State :=
  match s.lm.waits.get r with
  | none => s
  | some w =>
    let t := ((s.dropRecord w.volume r).modNode w.node fun e => { e with loanWait := e.loanWait - 1 }
      ).leaveRetry w.volume
    if notice then t.placeForNode w.node (waitExpiredHeader w.volume w.mode) else t

/-- A record removed by expiry or by FORGET_NODE; if it stood at the head and records remain, the new
head is granted from (R31). -/
def State.removeAndGrant (s : State) (r : Nat) (notice : Bool) : State :=
  match s.lm.waits.get r with
  | none => s
  | some w =>
    match s.volume? w.volume with
    | none => s.removeRecord r notice
    | some vol =>
      if vol.waitList.head? = some r ∧ 1 < vol.waitList.length then
        (s.removeRecord r notice).grant w.volume
      else s.removeRecord r notice

/-! ### Clearing (06_scratch_clearing.md) -/

/-- The loan manager hands the agent a notice (R177). -/
def State.lmNotice (s : State) (n : Notice) : State := s.lmTellAgent (.notice n)

/-- The notice that ends a clear is sent (R131). Where records wait, the frames of their grants or
removals follow in the same event, and R131 puts the notice first: the agent takes it at once, with all
that stands before it in its channel (R172; DESIGN CHOICE, log entry 8). Else it waits for MANAGER_NOTICE. -/
def State.clearNotice (s : State) (waiting : List Nat) (n : Notice) : State :=
  if waiting.isEmpty then s.lmNotice n else (s.lmNotice n).flushLm

/-- The clear of a CLEARING volume is examined: the notice for the manager, and then the grants or the
removals (R130, R131). -/
def State.examineClear (s : State) (v : Nat) : State :=
  match s.volume? v with
  | none => s
  | some vol =>
    if vol.state ≠ .clearing ∨
        vol.segments.any (fun g => g.clear == .pending || g.clear == .listed) then s
    else if vol.segments.all (fun g => g.clear == .done) then
      ((s.setVolume v { vol with state := .idle }).clearNotice vol.waitList
        (.clearDone v vol.segments.length)).grant v
    else
      vol.waitList.foldl (fun t r => t.removeRecord r true)
        ((s.setVolume v { vol with state := .clearFailed }).clearNotice vol.waitList
          (.clearFailed v vol.segments))

/-- Write a bay's pending-clear queue; a change between empty and non-empty is reported to its drive
unit (R115). -/
def State.setPending (s : State) (b : Bay) (q : List SegRef) : State :=
  let t := s.setLmBay b { s.lmBay b with pendingClear := q }
  if (s.lmBay b).pendingClear.isEmpty = q.isEmpty then t
  else t.lmSend b (.pendingClear (!q.isEmpty))

/-- One segment taken from the head of a queue is listed, or fails (R116 steps 2 and 3). -/
def State.listSegment (s : State) (b : Bay) (r : SegRef) : State :=
  match s.segment? r with
  | none => s
  | some g =>
    if s.served g then
      let t := s.setClear r .listed
      (t.setLmBay b { t.lmBay b with listed := (t.lmBay b).listed + 1 }).lmSend b
        (.extent r.vol r.seg g.identity g.base g.length)
    else (s.setClear r .failed).examineClear r.vol

/-- The listing step repeated over the references of a queue (R116). -/
def State.listLoop (b : Bay) : List SegRef → State → State
  | [], s => s
  | r :: rest, s =>
    if (s.lmBay b).listed < 8 then
      State.listLoop b rest ((s.setPending b rest).listSegment b r)
    else s

/-- List from the head of a bay's pending-clear queue (R116). -/
def State.listFromHead (s : State) (b : Bay) : State :=
  State.listLoop b (s.lmBay b).pendingClear s

/-- Remove every reference of a bay's pending-clear queue and fail its segments (R117). -/
def State.failPending (s : State) (b : Bay) : State :=
  (s.lmBay b).pendingClear.foldl (fun t r => (t.setClear r .failed).examineClear r.vol)
    (s.setPending b [])

/-- The references of a volume's segments, in segment list order. -/
def segRefs (v : Nat) : Nat → List Segment → List (Bay × SegRef)
  | _, [] => []
  | i, g :: t => (g.bay, { vol := v, seg := i }) :: segRefs v (i + 1) t

/-- A volume enters CLEARING: every segment PENDING, its reference appended, and each queue listed
from (R45, R115, R116). DEDUCED, unsafe (log entry 59): R115 appends the references of every segment in the
event, and R116 lists from a queue on each append; with two segments on one bay the model appends both
before it lists from the queue, so that the queue is reported non-empty once and empty at most once. -/
def State.toClearing (s : State) (v : Nat) : State :=
  match s.volume? v with
  | none => s
  | some vol =>
    let segs := vol.segments.map fun g => { g with clear := .pending }
    let refs := segRefs v 0 segs
    let t := refs.foldl (fun t r => t.setPending r.1 ((t.lmBay r.1).pendingClear ++ [r.2]))
      (s.setVolume v { vol with state := .clearing, segments := segs })
    refs.foldl (fun t r => t.listFromHead r.1) t

/-! ### Ending and freeing loans -/

/-- The volume of a freed entry is updated and granted from (R45). -/
def State.volumeFreed (s : State) (v : Nat) : State :=
  match s.volume? v with
  | none => s
  | some vol =>
    if vol.loanCount - 1 = 0 then
      if vol.cls = .scratch then (s.setVolume v { vol with loanCount := 0 }).toClearing v
      else (s.setVolume v { vol with loanCount := 0, state := .idle }).grant v
    else (s.setVolume v { vol with loanCount := vol.loanCount - 1 }).grant v

/-- The loan manager's share of a soft reset is finished when no loan it ended is left (R43). -/
def State.checkLmReset (s : State) : State :=
  if s.lm.resetShare && !s.lm.loans.any (fun e => e.2.state == .ending .reset) then
    { s with lm := { s.lm with resetShare := false } }.lmTellAgent .resetFinished
  else s

/-- A loan entry is freed (R44). -/
def State.freeLoan (s : State) (i : Nat) : State :=
  match s.loan? i with
  | none => s
  | some l =>
    (((({ s with lm := { s.lm with loans := s.lm.loans.erase i } }.setGeneration i
      ((s.generation i + 1) % 64)).modNode l.holder fun e => { e with loanWait := e.loanWait - 1 }
      ).volumeFreed l.volume).retryGrants).checkLmReset

/-- A loan that has entered ENDING is freed at once if it has no outstanding requests (R44). -/
def State.freeIfQuiet (s : State) (i : Nat) : State :=
  match s.loan? i with
  | none => s
  | some l => if l.outstanding = 0 then s.freeLoan i else s

/-- A HELD or RECALLING loan enters ENDING with a reason, and an ENDED notice is placed for its holder
(R36, R38, R41, R43). -/
def State.endWithNotice (s : State) (i : Nat) (r : EndReason) : State :=
  match s.loan? i with
  | none => s
  | some l =>
    (s.setLoan i { l with state := .ending r }).placeForNode l.holder
      (endedHeader (handleOf i (s.generation i)) l.volume r)

/-- The loans that are HELD or RECALLING and meet a condition, ascending by entry. -/
def State.liveLoans (s : State) (p : Loan → Bool) : List Nat :=
  s.lm.loans.numbersWhere fun l => !l.state.isEnding && p l

/-- Whether a volume has a segment recorded on a bay. -/
def State.volumeOnBay (s : State) (v : Nat) (b : Bay) : Bool :=
  match s.volume? v with
  | some vol => vol.segments.any fun g => g.bay == b
  | none => false

/-- The loan step of a bay release (R41). -/
def State.releaseLoanStep (s : State) (b : Bay) : State :=
  (s.liveLoans fun l => s.volumeOnBay l.volume b).foldl
    (fun t i => (t.endWithNotice i .bayReleased).freeIfQuiet i) s

/-- The loan step of a forget (R42). -/
def State.forgetLoanStep (s : State) (node : Nat) : State :=
  let recs := s.lm.waits.numbersWhere fun w => w.node == node
  let t := recs.foldl (fun t r => t.removeAndGrant r false) s
  let ended := { t with lm := { t.lm with loans := t.lm.loans.update fun l =>
    if l.holder = node ∧ l.state.isEnding = false then { l with state := .ending .forgotten }
    else l } }
  (ended.lm.loans.numbersWhere fun l => l.holder == node).foldl (fun t i => t.freeLoan i) ended

end Machine

end Sys2Proof
end

