-- ==== Sys2Proof/Machine/RequestOps.lean ====
section
/-! DEFINITION. The shared operations of the request unit: window translation, admission and refusal,
delivery of read data, and completion of a request. -/

namespace Sys2Proof

/-- Length of a window (R6). -/
def Volume.window (v : Volume) : Nat := (v.segments.map Segment.length).sum

/-- The requested count of a count field, and the clamp mark (R51); `left` is W - o. -/
def requestedCount (k : ReqKind) (field : Nat) (toEnd : Bool) (left : Nat) : Nat × Bool :=
  match k with
  | .read => if field = 0 then (256, false) else if field ≤ 256 then (field, false) else (256, true)
  | .write => (field, false)
  | .check =>
    if toEnd then (min left 4294967295, false)
    else if field = 0 then (65536, false) else (field, false)

/-- The cut of R60: segments laid from window position `base` on, range from `p` of `r` blocks. -/
def cutFrom : List Segment → Nat → Nat → Nat → List Cut
  | [], _, _, _ => []
  | g :: t, base, p, r =>
    if r = 0 then []
    else if p < base + g.length then
      { bay := g.bay, identity := g.identity, start := g.base + (p - base),
        length := min r (base + g.length - p), window := p } ::
        cutFrom t (base + g.length) (p + min r (base + g.length - p))
          (r - min r (base + g.length - p))
    else cutFrom t (base + g.length) p r

/-- The pieces of a range of a volume's window (R60). -/
def Volume.cut (v : Volume) (offset count : Nat) : List Cut := cutFrom v.segments 0 offset count

/-- The record of a piece as it is cut, for a request record (R60). -/
def Cut.piece (c : Cut) (serial request : Nat) : Piece :=
  { serial, request, bay := c.bay, start := c.start, length := c.length, window := c.window,
    state := .queued, done := 0 }

/-- A piece is final (R63). -/
def PieceState.final : PieceState → Bool
  | .done | .failed _ | .withdrawn _ => true
  | .queued | .active | .staged .. => false

/-- A QUEUED or RUNNING request becomes ABORTING; one already ABORTING keeps its cause (R53). -/
def ReqState.abort (st : ReqState) (c : EndCause) : ReqState :=
  match st with
  | .queued | .running => .aborting c
  | .aborting d => .aborting d

/-- Blocks of a piece not yet placed. -/
def Piece.undelivered (pc : Piece) : Nat :=
  match pc.state with
  | .staged blocks _ _ => blocks - pc.done
  | .queued | .active | .done | .failed _ | .withdrawn _ => 0

/-- The good count walk of R76: blocks of the leading DONE pieces and of the first that is not, with
that piece's reason. -/
def goodWalk : List Piece → Nat × Option FailReason
  | [] => (0, none)
  | p :: t =>
    match p.state with
    | .done => (p.length + (goodWalk t).1, (goodWalk t).2)
    | .failed r | .withdrawn r => (p.done, some r)
    | .queued | .active | .staged .. => (p.done, none)

/-- The result code of a request (R76). -/
def resultCode (st : ReqState) : Option FailReason → Code
  | some r => r.code
  | none =>
    match st with
    | .aborting c => c.code
    | .queued | .running => .ok

/-- The END of a refused request (R58). -/
def refusalHeader (tag : BitVec 8) (handle : BitVec 16) (k : ReqKind) (c : Code) : Header :=
  { Header.blank with kind := 0x22, subcode := k.code, tag := tag, handle := handle, code := c.value }

/-- The END of an admitted request (R75, R181). -/
def Request.endHeader (q : Request) (result : Code) (good : Nat) : Header :=
  { Header.blank with
    kind := 0x22
    subcode := q.kind.code
    tag := q.tag
    handle := q.handle
    offset := BitVec.ofNat 48 q.offset
    count := q.countField
    flags := (if q.toEnd then 1 else 0) ||| (if q.short then 2 else 0)
    volume := BitVec.ofNat 8 q.volume
    code := result.value
    valueA := BitVec.ofNat 32 good
    valueB := BitVec.ofNat 32 q.effective }

/-- A DATA frame's header (R70). -/
def Request.dataHeader (q : Request) (offset k : Nat) : Header :=
  { Header.blank with
    kind := 0x21
    tag := q.tag
    handle := q.handle
    volume := BitVec.ofNat 8 q.volume
    offset := BitVec.ofNat 48 offset
    count := BitVec.ofNat 16 k }

namespace Machine

/-- Pieces appended to a bay and not yet reported as leaving QUEUED (R55 check 10). -/
def State.queuedOn (s : State) (b : Bay) : Nat :=
  (s.ru.pieces.numbersWhere fun p => p.bay == b && p.state == .queued).length

/-- Check 10 of R55: free piece records, and room in every disk queue, for the pieces of a cut. -/
def State.hasRoomFor (s : State) (cuts : List Cut) : Bool :=
  decide (s.ru.pieces.length + cuts.length ≤ 1024) &&
  cuts.all fun c => s.queuedOn c.bay + (cuts.filter fun d => d.bay == c.bay).length ≤ 64

/-- The address of a node entry; 0 for a free one. -/
def State.nodeAddr (s : State) (n : Nat) : Addr :=
  match s.node? n with
  | some e => e.addr
  | none => 0

/-- A request is refused: one END on the port it arrived on (R58). -/
def State.refuse (s : State) (n : Nat) (p : Port) (tag : BitVec 8) (handle : BitVec 16) (k : ReqKind)
    (c : Code) : State :=
  s.place p (OutFrame.build (s.nodeAddr n) (refusalHeader tag handle k c) (.bytes []))

/-- The pieces of an admitted request are taken and appended, in window order (R57 steps 2 and 3). -/
def State.admitCuts (a : Admitting) (r : Nat) : List Cut → State → List Nat → State × List Nat
  | [], s, ns => (s, ns)
  | c :: t, s, ns =>
    match s.ru.pieces.lowestFree 1024 with
    | none => (s, ns)
    | some n =>
      let serial := s.ru.nextSerial
      let job : Job :=
        { piece := { num := n, serial }, kind := a.kind, start := c.start, length := c.length,
          data := (a.data.drop (c.window - a.offset)).take c.length, done := 0 }
      let s1 := s.setPiece n (c.piece serial r)
      let s2 := { s1 with ru := { s1.ru with nextSerial := serial + 1 } }
      State.admitCuts a r t (s2.ruSend c.bay (.append job c.identity)) (ns ++ [n])

/-- A request is admitted (R57). The loan's outstanding count has been raised as of the taking of the
claim (R35). -/
def State.admitRequest (s : State) (a : Admitting) : State :=
  match s.ru.requests.lowestFree 512 with
  | none => s
  | some r =>
    let t := State.admitCuts a r a.cuts s []
    (t.1.setRequest r
      { node := a.node, tag := a.tag, handle := a.handle, volume := a.volume, kind := a.kind,
        offset := a.offset, countField := a.countField, toEnd := a.toEnd,
        requested := a.requested, effective := a.effective, short := a.short, port := a.port,
        state := .queued, overrun := false, data := a.data, pieces := t.2 }).modNode a.node
      fun e => { e with tags := e.tags ++ [a.tag], outstanding := e.outstanding + 1 }

/-! ### Completion (R75, R76) -/

/-- The piece records of a request, in window order. -/
def State.piecesOf (s : State) (q : Request) : List Piece := q.pieces.filterMap s.piece?

/-- The loan of an ended request: its outstanding count falls, and an ENDING loan at 0 is reported
quiet (R75 steps 4 and 5). -/
def State.lowerLoan (s : State) (h : BitVec 16) : State :=
  match s.currentLoan h with
  | none => s
  | some l =>
    let t := s.setLoan (handleIndex h) { l with outstanding := l.outstanding - 1 }
    if l.outstanding - 1 = 0 ∧ l.state.isEnding then
      { t with mail := { t.mail with quietLoans := t.mail.quietLoans ++ [h] } }
    else t

/-- The node of an ended request: its tag is free, its count falls, and a DRAINING node at 0 is
reported quiet (R75 steps 3, 4 and 6). -/
def State.lowerNode (s : State) (n : Nat) (tag : BitVec 8) : State :=
  match s.node? n with
  | none => s
  | some e =>
    let t := s.setNode n
      { e with tags := e.tags.filter (· ≠ tag), outstanding := e.outstanding - 1 }
    if e.outstanding - 1 = 0 ∧ e.state = .draining then
      { t with mail := { t.mail with quietNodes := t.mail.quietNodes ++ [n] } }
    else t

/-- The request unit's share of a soft reset no longer waits for a record; at the last one it is
reported finished (R79). -/
def State.ruShareEnds (s : State) (r : Nat) : State :=
  match s.ru.resetShare with
  | none => s
  | some l =>
    if (l.filter (· ≠ r)).isEmpty then
      { s with ru := { s.ru with resetShare := none } }.ruTellAgent .resetFinished
    else { s with ru := { s.ru with resetShare := some (l.filter (· ≠ r)) } }

/-- A request whose every piece is final ends with its END (R75). -/
def State.finish (s : State) (r : Nat) (q : Request) : State :=
  let w := goodWalk (s.piecesOf q)
  let t := s.place q.port
    (OutFrame.build (s.nodeAddr q.node) (q.endHeader (resultCode q.state w.2) w.1) (.bytes []))
  let t := { t with ru := { t.ru with
    pieces := q.pieces.foldl (fun tb n => tb.erase n) t.ru.pieces,
    requests := t.ru.requests.erase r } }
  ((t.lowerLoan q.handle).lowerNode q.node q.tag).ruShareEnds r

/-- End a request if every one of its pieces is final (R75). -/
def State.finishIfFinal (s : State) (r : Nat) : State :=
  match s.request? r with
  | none => s
  | some q => if (s.piecesOf q).all fun p => p.state.final then s.finish r q else s

/-! ### Delivery (R70 to R74) -/

/-- Room for a DATA frame of `k` blocks on a port; a DOWN port always finds room (R71, R74). -/
def State.dataRoom (s : State) (p : Port) (k : Nat) : Bool :=
  !(s.port p).up || decide (62 + 4096 * k ≤ (s.port p).roomFree)

/-- `k` staged blocks of a piece from block `i` on, out of the staging buffer of its bay. Where the
buffer has been discarded meanwhile, their data is not stated (log entry 9). -/
def State.stagedBlocks (s : State) (b : Bay) (r : PieceRef) (i k : Nat) : List Block :=
  match (s.unit b).staging with
  | some st =>
    if st.piece = r then (st.blocks.drop i).take k
    else (List.range k).map fun j => Config.discardedBlock r.serial (i + j)
  | none => (List.range k).map fun j => Config.discardedBlock r.serial (i + j)

/-- A piece leaves its port's delivery list (R71). -/
def State.leaveDelivery (s : State) (p : Port) (n : Nat) : State :=
  s.setDelivery p ((s.delivery p).filter (· ≠ n))

/-- The next DATA frame of a staged piece, of `k` blocks, is placed; with its last block the piece is
final and its staging buffer empty (R64, R67, R70, R72). -/
def State.placeData (s : State) (p : Port) (n : Nat) (pc : Piece) (q : Request) (k blocks : Nat)
    (media : Bool) : State :=
  let ref : PieceRef := { num := n, serial := pc.serial }
  let t := s.place p (OutFrame.build (s.nodeAddr q.node) (q.dataHeader (pc.window + pc.done) k)
    (.blocks (s.stagedBlocks pc.bay ref pc.done k)))
  if blocks ≤ pc.done + k then
    let st : PieceState := if media then .failed .mediaError else .done
    (((t.setPiece n { pc with done := pc.done + k, state := st }).leaveDelivery p n).ruSend pc.bay
      (.emptied ref)).finishIfFinal pc.request
  else
    t.setPiece n { pc with done := pc.done + k,
                           state := .staged blocks media (t.now + tens t.ru.deliveryLimit) }

/-- Place DATA frames for the head of a port's delivery list while there is room (R71). -/
def State.deliverLoop (p : Port) : Nat → State → State
  | 0, s => s
  | fuel + 1, s =>
    match s.delivery p with
    | [] => s
    | n :: _ =>
      match s.piece? n with
      | none => State.deliverLoop p fuel (s.leaveDelivery p n)
      | some pc =>
        match pc.state, s.request? pc.request with
        | .staged blocks media _, some q =>
          if s.dataRoom p (min 2 (blocks - pc.done)) then
            State.deliverLoop p fuel
              (s.placeData p n pc q (min 2 (blocks - pc.done)) blocks media)
          else s
        | _, _ => State.deliverLoop p fuel (s.leaveDelivery p n)

/-- Deliver on a port as far as there is room (R71). -/
def State.deliver (s : State) (p : Port) : State :=
  State.deliverLoop p
    (((s.delivery p).map fun n =>
      match s.piece? n with
      | some pc => pc.undelivered + 1
      | none => 1).sum + 1) s

/-! ### Withdrawal and overrun (R69, R73) -/

/-- A withdrawal is sent for every QUEUED piece of a request (R69), in window order (log entry 17). -/
def State.withdrawQueued (s : State) (q : Request) (reason : FailReason) : State :=
  q.pieces.foldl (fun t n =>
    match t.piece? n with
    | some pc =>
      if pc.state = .queued then
        t.ruSend pc.bay (.withdraw { num := n, serial := pc.serial } reason)
      else t
    | none => t) s

/-- A staged piece of an overrun request: its blocks are discarded and it fails with OVERRUN (R73
step 2). -/
def State.discardStaged (s : State) (p : Port) (n : Nat) : State :=
  match s.piece? n with
  | some pc =>
    match pc.state with
    | .staged .. =>
      ((s.setPiece n { pc with state := .failed .overrun }).leaveDelivery p n).ruSend pc.bay
        (.emptied { num := n, serial := pc.serial })
    | .queued | .active | .done | .failed _ | .withdrawn _ => s
  | none => s

/-- A request is ended by overrun (R73). -/
def State.overrunRequest (s : State) (r : Nat) (q : Request) : State :=
  let q' := { q with state := q.state.abort .overrun, overrun := true }
  let t := q.pieces.foldl (fun t n => t.discardStaged q.port n) (s.setRequest r q')
  ((t.withdrawQueued q' .overrun).finishIfFinal r).deliver q.port

end Machine

end Sys2Proof
end

