-- ==== Sys2Proof/Machine/DriveOps.lean ====
section
/-! DEFINITION. The shared operations of a drive unit and its clear engine: issuing commands, the
choice of the next command, the idle timer, waking, entering IDENTIFYING, FAULT and SERVICE, and the
places of extents in a clear list. -/

namespace Sys2Proof

/-- Idle time of a factor field and unit (R102). -/
def idleTime (factor : Nat) (long : Bool) : Nat :=
  (if factor = 0 then 16 else factor) * (if long then secs 300 else secs 10)

/-- The unit has work (R83). -/
def DriveUnit.hasWork (u : DriveUnit) : Bool :=
  !u.queue.isEmpty || u.hand.isSome || u.engine.state == .sweeping

/-- The first CURRENT extent: the extent being worked (R119). -/
def Engine.worked (e : Engine) : Option Extent := e.list.find? fun x => x.current

/-- The sweep is due (R89 case 2). -/
def DriveUnit.sweepDue (u : DriveUnit) : Bool :=
  u.engine.state == .sweeping && u.engine.worked.isSome &&
  ((u.hand.isNone && u.queue.isEmpty) || decide (u.params.allowance ≤ u.pauseCounter))

/-- The conditions under which the idle timer runs (R101); it does not run under a release (R138). -/
def DriveUnit.idleConditions (u : DriveUnit) : Bool :=
  u.state == .ready && u.queue.isEmpty && u.hand.isNone && u.staging.isNone &&
  u.engine.list.isEmpty && u.engine.state == .empty && !u.clearWaiting &&
  !u.params.keepSpinning && !u.releaseUnderWay

/-- Start, keep or stop the idle timer after an event (R101, R102). -/
def DriveUnit.idleCheck (u : DriveUnit) (now : Nat) : DriveUnit :=
  if u.idleConditions then
    if u.idleTimer.isSome then u
    else { u with idleTimer := some (now + idleTime u.params.idleFactor u.params.idleLong) }
  else { u with idleTimer := none }

/-- A drive command is issued; all but SPIN-UP run under the piece limit (R96), SPIN-UP under the
spin-up limit (R112). -/
def DriveUnit.issue (u : DriveUnit) (c : DriveCmd) (now : Nat) : DriveUnit :=
  { u with
    inFlight := some (u.issued, c)
    issued := u.issued + 1
    commandTimer := if c = .spinUp then none else some (now + secs u.params.pieceLimit)
    spinUpTimer := if c = .spinUp then some (now + secs u.params.spinUpLimit) else none }

/-- The command in flight is over: nothing in flight, its timer stopped. -/
def DriveUnit.endCommand (u : DriveUnit) : DriveUnit :=
  { u with inFlight := none, commandTimer := none, spinUpTimer := none }

/-- The pause allowance counter rises by one and stops at 64 (R90). -/
def DriveUnit.countPiece (u : DriveUnit) : DriveUnit :=
  { u with pauseCounter := if u.pauseCounter < 64 then u.pauseCounter + 1 else 64 }

/-- The command that starts or continues a piece (R91, R93, R94). -/
def Job.command (j : Job) : DriveCmd :=
  match j.kind with
  | .read => .fetch j.start j.length
  | .write => .store j.start j.data
  | .check => .probe (j.start + j.done) (min 256 (j.length - j.done))

/-- The ZERO of the next chunk of an extent (R123). -/
def Extent.chunk (x : Extent) : DriveCmd :=
  .zero (x.start + x.progress) (min 256 (x.length - x.progress))

/-- An extent placed among CURRENT extents in ascending start block order (R122); NEXT extents stay
behind them. -/
def insertExtent (x : Extent) : List Extent → List Extent
  | [] => [x]
  | y :: t => if y.current && decide (y.start < x.start) then y :: insertExtent x t else x :: y :: t

/-- Extents sorted by ascending start block, all CURRENT (R121, R127). -/
def sortExtents (l : List Extent) : List Extent :=
  l.foldl (fun acc x => insertExtent { x with current := true } acc) []

/-- The sweep position (R122). -/
def Engine.position (e : Engine) : Option Nat := e.worked.map fun x => x.start + x.progress

/-- An extent joins the clear list (R120, R122). -/
def Engine.join (e : Engine) (x : Extent) (window now : Nat) : Engine :=
  match e.state with
  | .empty =>
    if window = 0 then { e with state := .sweeping, list := e.list ++ [{ x with current := true }] }
    else { e with state := .gathering (now + tens window),
                  list := e.list ++ [{ x with current := true }] }
  | .gathering d => { e with state := .gathering d, list := e.list ++ [{ x with current := true }] }
  | .sweeping =>
    match e.position with
    | some p =>
      if p < x.start then { e with list := insertExtent { x with current := true } e.list }
      else { e with list := e.list ++ [{ x with current := false }] }
    | none => { e with list := e.list ++ [{ x with current := false }] }

/-- After an extent has left: with no CURRENT extent the sweep ends, the NEXT extents begin another,
or the engine is EMPTY (R127). -/
def Engine.sweepEnd (e : Engine) : Engine :=
  if e.list.any (fun x => x.current) then e
  else if e.list.isEmpty then { e with state := .empty }
  else { e with list := sortExtents e.list }

/-- The list without the extent being worked. -/
def dropWorked : List Extent → List Extent
  | [] => []
  | x :: t => if x.current then t else x :: dropWorked t

/-- The list with the progress of the extent being worked raised. -/
def advanceWorked (k : Nat) : List Extent → List Extent
  | [] => []
  | x :: t =>
    if x.current then { x with progress := x.progress + k } :: t else x :: advanceWorked k t

namespace Machine

/-- Change the drive unit of a bay. -/
def State.modUnit (s : State) (b : Bay) (f : DriveUnit → DriveUnit) : State :=
  s.setUnit b (f (s.unit b))

/-- Write the drive state; the service controls set lock and lamp by it (R134). -/
def State.enter (s : State) (b : Bay) (st : DriveState) : State :=
  (s.modUnit b fun u => { u with state := st }).setControls b ((s.controls b).outputs st)

/-- Start, keep or stop the idle timer of a bay (R101). -/
def State.idle (s : State) (b : Bay) : State := s.modUnit b fun u => u.idleCheck s.now

/-- Issue a drive command on a bay. -/
def State.issue (s : State) (b : Bay) (c : DriveCmd) : State := s.modUnit b fun u => u.issue c s.now

/-- The choice of R89, made while the unit is READY; with no command started, the idle timer's
conditions are examined. -/
def State.choose (s : State) (b : Bay) : State :=
  let u := s.unit b
  if u.state ≠ .ready ∨ u.staging.isSome then s.idle b
  else
    match u.sweepDue, u.engine.worked, u.hand, u.queue with
    | true, some x, _, _ =>
      (((s.modUnit b fun u => { u with pauseCounter := 0 }).issue b x.chunk).enter b .active).idle b
    | _, _, some j, _ =>
      (((s.modUnit b DriveUnit.countPiece).issue b j.command).enter b .active).idle b
    | _, _, none, j :: rest =>
      ((((s.modUnit b fun u =>
        { DriveUnit.countPiece u with hand := some j, queue := rest }).issue b j.command).enter b
          .active).tellRu b (.started j.piece)).idle b
    | _, _, none, [] => s.idle b

/-- A STANDBY unit that has work enters WAKE_WAIT and asks for a spin-up (R99, R108). -/
def State.wake (s : State) (b : Bay) : State :=
  (s.enter b .wakeWait).tellArb b .wanted

/-- A unit that may have come to have work: a STANDBY unit wakes, a READY one chooses (R87, R99,
R120). -/
def State.workArrived (s : State) (b : Bay) : State :=
  if (s.unit b).state = .standby ∧ (s.unit b).hasWork then (s.wake b).idle b
  else s.choose b

/-- The drive unit hands the agent a notice (R177). -/
def State.unitNotice (s : State) (b : Bay) (n : Notice) : State := s.unitTellAgent b (.notice n)

/-- The unit enters IDENTIFYING (R85, R86). -/
def State.enterIdentifying (s : State) (b : Bay) : State :=
  ((s.modUnit b fun u => { u with disk := none, pauseCounter := 0 }).issue b .identify).enter b
    .identifying

/-- Every extent of a list is reported failed, in list order (R126, R128). -/
def State.reportExtents (s : State) (b : Bay) (l : List Extent) : State :=
  l.foldl (fun t x => t.tellLm b (.extentFailed x.vol x.seg)) s

/-- The clear engine fails its whole list and becomes EMPTY (R126). -/
def State.failEngine (s : State) (b : Bay) : State :=
  (s.reportExtents b (s.unit b).engine.list).modUnit b fun u =>
    { u with engine := { u.engine with state := .empty, list := [] } }

/-- The piece in hand, the queue head first, and the staged piece are reported FAILED with a reason,
and the unit holds no piece (R98 steps 1 to 3, R141 steps 2 to 4). -/
def State.failPieces (s : State) (b : Bay) (r : FailReason) : State :=
  let u := s.unit b
  let s1 := match u.hand with
    | some j => s.tellRu b (.failed j.piece r j.done)
    | none => s
  let s2 := u.queue.foldl (fun t j => t.tellRu b (.failed j.piece r 0)) s1
  let s3 := match u.staging with
    | some st => s2.tellRu b (.failed st.piece r 0)
    | none => s2
  s3.modUnit b fun u => { u with hand := none, queue := [], staging := none }

/-- The arbiter is told that a unit leaves WAKE_WAIT or SPINNING_UP (R98 step 6, R108, R141 step 7). -/
def State.leaveSpinUp (s : State) (b : Bay) : State :=
  match (s.unit b).state with
  | .wakeWait => s.tellArb b .withdrawn
  | .spinningUp => s.tellArb b .ended
  | .absent | .identifying | .standby | .ready | .active | .spinningDown | .fault | .service => s

/-- The unit enters SERVICE (R140). Step 4 does not say whether an entry from a healthy state, which is
reported as a health report and as the end of the release, is one report or two: the model sends two, the
health report first (DESIGN CHOICE, log entry 56). -/
def State.enterService (s : State) (b : Bay) : State :=
  let healthy := (s.unit b).state.healthy
  let disk := (s.unit b).disk
  let t := (s.modUnit b fun u =>
    { u.endCommand with releaseUnderWay := false, hand := none, queue := [], idleTimer := none,
                        engine := { u.engine with closed := false } }).enter b .service
  let t := if healthy then t.tellLm b (.health .service disk false) else t
  t.tellLm b .releaseEnd

/-- The unit enters FAULT (R98), and under a release goes on to SERVICE (R139, R140). A staged piece that
is not yet delivered fails with DISK_FAULT, as R92 and R98 state, also where a release spin-down fails, of
which the example of 7.4 says otherwise (log entry 52). -/
def State.enterFault (s : State) (b : Bay) (cause : FaultCause) : State :=
  let u := s.unit b
  let t := (((s.failPieces b .diskFault).failEngine b).leaveSpinUp b).modUnit b fun u =>
    { u.endCommand with idleTimer := none }
  let t := ((t.enter b .fault).tellLm b (.health .fault u.disk false)).unitNotice b
    (.diskFault b u.state cause (u.disk.map Disk.serial))
  if u.releaseUnderWay then t.enterService b else t

/-- The release spin-down (R140). -/
def State.releaseSpinDown (s : State) (b : Bay) : State :=
  (s.issue b .spinDown).enter b .spinningDown


/-- The media error counter rises by one (R95). -/
def State.countMedia (s : State) (b : Bay) : State :=
  s.modUnit b fun u => { u with mediaErrors := bump u.mediaErrors }

/-- The command timeout counter rises by one (R106). -/
def State.countTimeout (s : State) (b : Bay) : State :=
  s.modUnit b fun u => { u with timeouts := bump u.timeouts }

/-- The command in flight on a bay is over, and the unit has nothing in flight. -/
def State.endCommand (s : State) (b : Bay) : State := s.modUnit b DriveUnit.endCommand

/-- The piece in hand has been given its outcome. -/
def State.clearHand (s : State) (b : Bay) : State := s.modUnit b fun u => { u with hand := none }

/-- A CHECK piece in hand between its runs ends by the release (R138, R139). -/
def State.releaseHand (s : State) (b : Bay) : State :=
  match (s.unit b).hand with
  | some j => (s.clearHand b).tellRu b (.failed j.piece .bayReleased j.done)
  | none => s

/-- A unit that has reached READY at the end of a command: it chooses, or under a release gives up a
CHECK piece in hand and spins down (R89, R138, R139; log entry 10). -/
def State.ready (s : State) (b : Bay) : State :=
  let t := s.enter b .ready
  if (t.unit b).releaseUnderWay then ((t.releaseHand b).releaseSpinDown b).idle b else t.choose b

/-- Whether the request of a piece is ABORTING, and with which end cause (R66, R94). -/
def State.abortCause (s : State) (r : PieceRef) : Option EndCause :=
  match s.pieceOf r with
  | none => none
  | some p =>
    match s.request? p.request with
    | none => none
    | some q =>
      match q.state with
      | .aborting c => some c
      | .queued | .running => none

end Machine

end Sys2Proof
end

