-- ==== Sys2Proof/Machine/Ports.lean ====
section
/-! DEFINITION. Commands of the farm port units (09_farm_ports.md): link changes, arriving frames,
pause frames, ends of transmission, the pause repeat timer and new thresholds. -/

namespace Sys2Proof

/-- A port at link down while UP (R156). -/
def FarmPort.goDown (p : FarmPort) : FarmPort :=
  { p with
    up := false
    ingress := []
    frameHead := 0
    writePos := 0
    pausing := false
    repeatTimer := none
    receivedPause := none
    claims := p.claims - (p.egress.filter OutFrame.isEnd).length
    egress := []
    wire := .idle
    pauseOut := [] }

/-- A port at link up while DOWN (R156). -/
def FarmPort.goUp (p : FarmPort) : FarmPort :=
  FarmPort.startTx
    { p with up := true, ingress := [], pausing := false, repeatTimer := none, egress := [],
             wire := .idle }

/-- What becomes of a B7A6h frame of a given length as it is written (R157, R158). -/
inductive WriteResult where
  | complete
  | lackOfRoom
  | excessLength
  | badCheck
  deriving DecidableEq, Repr

/-- The first failure met in arrival order, or a complete frame (R158). The frame's byte number
`room + 1` finds the buffer full; byte number 9,015 is the 9,001st of the payload. -/
def writeResult (room : Nat) (f : InFrame) : WriteResult :=
  if f.payload.length ≤ 9000 then
    if room < f.length then .lackOfRoom else if f.good then .complete else .badCheck
  else if room < 9014 then .lackOfRoom
  else if room = 9014 then (if Config.roomFailsFirst then .lackOfRoom else .excessLength)
  else .excessLength

/-- Bytes written before the frame is complete or rewound. -/
def bytesWritten (room : Nat) (f : InFrame) : WriteResult → Nat
  | .complete | .badCheck => f.length
  | .lackOfRoom => room
  | .excessLength => 9014

/-- The pause state re-examined as `n` bytes are written one by one (R161): the fill only rises, so
what the first byte and the last find decides it. -/
def FarmPort.examineRise (p : FarmPort) (n now : Nat) : FarmPort :=
  if n = 0 then p else (p.examineAt (p.fill + 1) now).examineAt (p.fill + n) now

/-- Room left in the ingress buffer (R157). -/
def FarmPort.room (p : FarmPort) : Nat := 131072 - p.fill

/-- A B7A6h frame is written and judged (R157, R158). -/
def FarmPort.takeAlt (p : FarmPort) (f : InFrame) (now : Nat) : FarmPort :=
  let r := writeResult p.room f
  let q := FarmPort.examineRise { p with frameHead := p.writePos } (bytesWritten p.room f r) now
  match r with
  | .complete =>
    { q with ingress := q.ingress ++ [f], writePos := (p.writePos + f.length) % 131072,
             admitted := bump q.admitted }
  | .lackOfRoom => FarmPort.examine { q with rewoundRoom := bump q.rewoundRoom } now
  | .excessLength | .badCheck => FarmPort.examine { q with rewoundBad := bump q.rewoundBad } now

/-- A frame of another type: its 14 header bytes are written and the write position returns (R157). -/
def FarmPort.takeOther (p : FarmPort) (now : Nat) : FarmPort :=
  FarmPort.examine
    (FarmPort.examineRise { p with frameHead := p.writePos } (min 14 p.room) now) now

/-- A frame arrives (R157); while the link is DOWN arriving bytes are not taken (R156). A pause frame is
not written, and leaves the frame-head position where it stood (log entry 54). -/
def FarmPort.takeFrame (p : FarmPort) (f : InFrame) (now : Nat) : FarmPort :=
  if !p.up then p
  else
    match f.type with
    | .alt => p.takeAlt f now
    | .pause t => if f.good then p.takePause t now else p
    | .other => p.takeOther now

/-- The frame on the wire has been sent, and the next begins (R164); true when general room grew. -/
def FarmPort.endTx (p : FarmPort) : FarmPort × Bool :=
  match p.wire, p.egress with
  | .idle, _ => (p, false)
  | .pause _, _ => (FarmPort.startTx { p with wire := .idle }, false)
  | .frame, [] => (FarmPort.startTx { p with wire := .idle }, false)
  | .frame, f :: rest =>
    if f.isEnd then
      (FarmPort.startTx { p with wire := .idle, egress := rest, claims := p.claims - 1 }, false)
    else (FarmPort.startTx { p with wire := .idle, egress := rest }, true)

/-- Expiry of the pause repeat timer in PAUSING (R161). -/
def FarmPort.repeatPause (p : FarmPort) (now : Nat) : FarmPort :=
  if p.pausing && due p.repeatTimer now then
    FarmPort.sendPause { p with repeatTimer := some (now + 20 * msec) } 65535
  else p

/-- A received pause runs out (R163). -/
def FarmPort.endPause (p : FarmPort) (now : Nat) : FarmPort :=
  if due p.receivedPause now then FarmPort.startTx { p with receivedPause := none } else p

namespace Machine

/-- What a command answers. -/
abbrev Result := Host.Outcome State Fault Refusal

/-- LINK_DOWN (R156); the request unit is told (R74). -/
def execLinkDown (p : Port) (s : State) : Result :=
  .next (if (s.port p).up then (s.setPort p (s.port p).goDown).portTell p .linkDown else s)

/-- LINK_UP (R156); the request unit is told (R74). -/
def execLinkUp (p : Port) (s : State) : Result :=
  .next (if (s.port p).up then s else (s.setPort p (s.port p).goUp).portTell p .linkUp)

/-- INGRESS_FRAME (R157, R158, R161). -/
def execIngressFrame (p : Port) (f : InFrame) (s : State) : Result :=
  .next (s.setPort p ((s.port p).takeFrame f s.now))

/-- PAUSE_REPEAT_EXPIRY (R161). -/
def execPauseRepeatExpiry (p : Port) (s : State) : Result :=
  .next (s.setPort p ((s.port p).repeatPause s.now))

/-- RECEIVED_PAUSE (R163); with a bad frame check it is ignored. -/
def execReceivedPause (p : Port) (time : BitVec 16) (good : Bool) (s : State) : Result :=
  .next (if good then s.setPort p ((s.port p).takePause time s.now) else s)

/-- RECEIVED_PAUSE_END (R163). -/
def execReceivedPauseEnd (p : Port) (s : State) : Result :=
  .next (s.setPort p ((s.port p).endPause s.now))

/-- TRANSMISSION_END (R164); the request unit is told of general room that grew (R165). -/
def execTransmissionEnd (p : Port) (s : State) : Result :=
  .next
    (if (s.port p).endTx.2 then (s.setPort p (s.port p).endTx.1).portTell p .room
     else s.setPort p (s.port p).endTx.1)

/-- THRESHOLDS_TAKEN (R162): the oldest pair the agent sent to this port. -/
def execThresholdsTaken (p : Port) (s : State) : Result :=
  .next
    (match (s.pmail p).thresholds with
     | [] => s
     | (on, off) :: rest =>
       (s.setPmail p { s.pmail p with thresholds := rest }).setPort p
         (FarmPort.examine { s.port p with on := on, off := off } s.now))

end Machine

end Sys2Proof
end

