-- ==== Sys2Proof/Machine/Nodes.lean ====
section
/-! DEFINITION. The frame classifier and the node block's own commands (08_render_nodes.md,
09_farm_ports.md 9.3): CLASSIFY_FRAME and NODE_QUIET. The management requests of the node block are in
Machine/NodeRequests.lean. -/

namespace Sys2Proof

/-- A port is eligible (R159): a complete frame waits, and it is no block request or an END place is
not claimed. -/
def FarmPort.eligible (p : FarmPort) : Bool :=
  match p.ingress with
  | [] => false
  | f :: _ => !f.isBlockRequest || decide (p.claims < 512)

/-- The four ports in the order they are considered: from the one after the last served, wrapping from
3 to 0 (R159). -/
def portOrder (last : Port) : List Port := [last + 1, last + 2, last + 3, last]

/-- The classifier takes the oldest complete frame: it leaves the buffer, an END place is claimed for
a block request, and the pause state is re-examined (R157, R160, R161). -/
def FarmPort.takeOldest (p : FarmPort) (f : InFrame) (rest : List InFrame) (now : Nat) : FarmPort :=
  FarmPort.examine
    { p with ingress := rest, claims := if f.isBlockRequest then p.claims + 1 else p.claims } now

/-- A frame from an unknown source is counted (R146, R167). -/
def FarmPort.countUnknown (p : FarmPort) : FarmPort :=
  { p with unknownSource := bump p.unknownSource }

/-- The END place claimed for a discarded or malformed block request is released (R160). -/
def FarmPort.unclaim (p : FarmPort) (f : InFrame) : FarmPort :=
  if f.isBlockRequest then p.releaseClaim else p

namespace Machine

/-- The entry in use that holds an address (R146). -/
def State.nodeByAddr (s : State) (a : Addr) : Option (Nat × Node) :=
  s.nodes.find? fun e => e.2.addr == a

/-- The port whose oldest frame the classifier takes next, with that frame (R159). -/
def State.nextFrame (s : State) : Option (Port × InFrame × List InFrame) :=
  match (portOrder s.cls.lastServed).find? fun p => (s.port p).eligible with
  | none => none
  | some p =>
    match (s.port p).ingress with
    | [] => none
    | f :: rest => some (p, f, rest)

/-- Pass a frame to its block (R146). -/
def State.passTo (s : State) (dest : PassedTo) (p : Port) (f : InFrame) : State :=
  { s with cls := { s.cls with passed := some { dest, port := p, frame := f } } }

/-- A frame is discarded and counted as from an unknown source (R146, R160). -/
def State.discardUnknown (s : State) (p : Port) (f : InFrame) : State :=
  s.setPort p (((s.port p).unclaim f).countUnknown)

/-- A malformed frame halts its node (R149). -/
def State.haltNode (s : State) (p : Port) (f : InFrame) (n : Nat) (e : Node) (c : HaltCause) : State :=
  let t := (s.setPort p ((s.port p).unclaim f)).setNode n { e with state := .halted }
  let t := t.nodeTellAgent (.notice (.nodeHalted e.addr c p (f.kind.getD Config.absentKind) e.state))
  if e.state = .draining then t.nodeTellAgent (.drainAnswer e.addr .wrongState) else t

/-- A well-formed frame sets the node's last port and is passed on (R146, R147). -/
def State.passNodeFrame (s : State) (p : Port) (f : InFrame) (n : Nat) (e : Node) : State :=
  let t := s.setNode n { e with lastPort := some p }
  if f.kind = some 0x01 ∨ f.kind = some 0x02 ∨ f.kind = some 0x03 then
    t.passTo (.loanManager n) p f
  else t.passTo (.requestUnit n) p f

/-- A frame of the node kinds or of no node kind reaches the node block (R146 to R149). -/
def State.nodeFrame (s : State) (p : Port) (f : InFrame) : State :=
  match s.nodeByAddr f.src with
  | none => s.discardUnknown p f
  | some (n, e) =>
    if e.state = .halted then s.discardUnknown p f
    else
      match malformed f.payload with
      | some c => s.haltNode p f n e c
      | none => s.passNodeFrame p f n e

/-- The source test of R169: ATTACH from any address, any other request from the slot's. -/
def State.managerSource (s : State) (h : Header) (src : Addr) : Bool :=
  h.subcode == 0x01 ||
  match s.agent.slot with
  | some sl => sl.addr == src
  | none => false

/-- A MANAGE frame. While the agent waits, it is passed on and the classifier waits with it (R146, R172;
log entry 53). A free agent discards it by R169 at once, or has it passed on for its own command. -/
def State.manageFrame (s : State) (p : Port) (f : InFrame) : State :=
  if s.agent.wait ≠ .free then s.passTo .agent p f
  else
    match Header.parse f.payload with
    | none => s
    | some h =>
      if s.managerSource h f.src then s.passTo .agent p f
      else s.setPort p (s.port p).countUnknown

/-- Whether a node's events wait for a forget that is not finished (R152). -/
def State.beingForgotten (s : State) (a : Addr) : Bool :=
  match s.agent.wait with
  | .forgetCount _ x _ => x == a
  | .free | .status | .budget .. | .counters .. | .drainCount .. => false

/-- CLASSIFY_FRAME (R159, R160, R146 to R149, R169): the free classifier takes the next frame. -/
def execClassifyFrame (s : State) : Result :=
  .next
    (match s.cls.passed, s.nextFrame with
     | none, some (p, f, rest) =>
       if f.kind ≠ some 0x30 ∧ s.beingForgotten f.src then s
       else
         let t := { s.setPort p ((s.port p).takeOldest f rest s.now) with
                    cls := { s.cls with lastServed := p } }
         if f.kind = some 0x30 then t.manageFrame p f else t.nodeFrame p f
     | _, _ => s)

/-- The node block has asked for the count of node `n` for a drain and waits for it (R151). -/
def State.drainAsked (s : State) (n : Nat) : Bool :=
  match s.agent.wait with
  | .drainCount _ _ m => m == n
  | .free | .status | .budget .. | .counters .. | .forgetCount .. => false

/-- A node falls quiet: DRAINING becomes DRAINED and its held drains are answered OK; in another state
the report is ignored (R151). It is ignored too while the count of the node is asked for, which decides
the drain: a claim of the node may then be in flight (R80; log entry 32). -/
def State.quietNode (s : State) (n : Nat) : State :=
  match s.node? n with
  | none => s
  | some e =>
    if e.state = .draining ∧ s.drainAsked n = false then
      (s.setNode n { e with state := .drained }).nodeTellAgent (.drainAnswer e.addr .ok)
    else s

/-- NODE_QUIET (R151): the oldest such report of the request unit. -/
def execNodeQuiet (s : State) : Result :=
  .next
    (match s.mail.quietNodes with
     | [] => s
     | n :: rest => { s with mail := { s.mail with quietNodes := rest } }.quietNode n)

end Machine

end Sys2Proof
end

