-- ==== Sys2Proof/Machine/Lending.lean ====
section
/-! DEFINITION. Commands of the loan manager for nodes and for its own timers
(02_the_lending_protocol.md): BORROW, RENEW, RETURN, LOAN_CLAIM, LOAN_QUIET, the three expiries and the
loan manager's share of a soft reset. -/

namespace Sys2Proof.Machine

/-- The classifier is free again: the block has taken the frame (R146, R159). -/
def State.freeClassifier (s : State) : State := { s with cls := { s.cls with passed := none } }

/-- The frame of a kind that was passed to the loan manager, with its node (R146). -/
def State.lendingFrame (s : State) (kind : Byte) : Option (Nat × Header) :=
  match s.cls.passed with
  | some { dest := .loanManager n, port := _, frame := f } =>
    match Header.parse f.payload with
    | some h => if h.kind = kind then some (n, h) else none
    | none => none
  | _ => none

/-- An ANSWER of the loan manager (R28, R34, R39). -/
def answerHeader (h : Header) (c : Code) : Header :=
  { Header.blank with kind := 0x20, tag := h.tag, subcode := h.kind, code := c.value }

/-! ### BORROW -/

/-- A mode, from a well-formed BORROW. -/
def borrowMode (h : Header) : LoanMode := (LoanMode.ofValue h.code).getD .read

/-- The loan entry of a node on a volume, if it holds one in any state. -/
def State.loanOn (s : State) (n v : Nat) : Option (Nat × Loan) :=
  s.lm.loans.find? fun e => e.2.holder == n && e.2.volume == v

/-- The waiting record of a node on a volume. -/
def State.recordOn (s : State) (n v : Nat) : Option Nat :=
  (s.lm.waits.find? fun e => e.2.node == n && e.2.volume == v).map Prod.fst

/-- Position of a record in a wait list, counted from 1 at the head. -/
def positionOf (r : Nat) (l : List Nat) : Nat := l.idxOf r + 1

/-- The checks of R25 in order; the first that fails gives the answer code. -/
def State.borrowCheck (s : State) (n : Nat) (e : Node) (v : Nat) (m : LoanMode) : Option Code :=
  match s.volume? v with
  | none => some .noSuchVolume
  | some vol =>
    if !vol.cls.allows m then some .classForbids
    else if e.state = .draining ∨ e.state = .drained then some .draining
    else if (s.loanOn n v).isSome ∨ (s.recordOn n v).isSome then some .alreadyHeld
    else if 8 ≤ e.loanWait then some .loanLimit
    else if vol.state = .clearFailed ∨ s.impaired vol then some .volumeBlocked
    else none

/-- The header of an answer to BORROW: tag, volume and code (R28). -/
def borrowAnswer (h : Header) (c : Code) : Header := { answerHeader h c with volume := h.volume }

/-- The further contents of an ALREADY_HELD answer (R28). -/
def State.heldAnswer (s : State) (n v : Nat) (wl : List Nat) (h : Header) : Header :=
  match s.loanOn n v with
  | some (i, l) =>
    { borrowAnswer h .alreadyHeld with handle := handleOf i (s.generation i), detail := l.state.value }
  | none =>
    match s.recordOn n v with
    | some r => { borrowAnswer h .alreadyHeld with valueA := BitVec.ofNat 32 (positionOf r wl) }
    | none => borrowAnswer h .alreadyHeld

/-- A borrow grantable at once (R26 case 1). -/
def State.borrowGrant (s : State) (n v : Nat) (m : LoanMode) (vol : Volume) (h : Header) : State :=
  match s.lm.loans.lowestFree 1024 with
  | none => s.placeForNode n (borrowAnswer h .poolFull)
  | some i =>
    ((s.createLoan v n m i).modNode n fun e => { e with loanWait := e.loanWait + 1 }).placeForNode n
      { borrowAnswer h .ok with
        handle := handleOf i (s.generation i), valueA := BitVec.ofNat 32 vol.term }

/-- A borrow that is queued (R26 case 3); `limit` is the clamped wait limit in seconds. -/
def State.borrowQueue (s : State) (n v : Nat) (m : LoanMode) (vol : Volume) (limit : Nat)
    (h : Header) : State :=
  match s.lm.waits.lowestFree 256 with
  | none => s.placeForNode n (borrowAnswer h .poolFull)
  | some r =>
    let t := s.setRecord r { node := n, volume := v, mode := m, deadline := s.now + secs limit }
    ((t.setVolume v { vol with waitList := vol.waitList ++ [r] }).modNode n
      fun e => { e with loanWait := e.loanWait + 1 }).placeForNode n
      { borrowAnswer h .queued with
        valueA := BitVec.ofNat 32 (vol.waitList.length + 1), valueB := BitVec.ofNat 32 limit }

/-- The outcome of a borrow that passes every check (R26). -/
def State.borrowOutcome (s : State) (n v : Nat) (m : LoanMode) (vol : Volume) (h : Header) : State :=
  let limit := min 600 h.valueA.toNat
  if vol.waitList.isEmpty && s.compatible v m then s.borrowGrant n v m vol h
  else if limit = 0 then s.placeForNode n (borrowAnswer h .unavailableNow)
  else s.borrowQueue n v m vol limit h

/-- The loan manager takes a BORROW (R25, R26, R28). -/
def State.borrow (s : State) (n : Nat) (h : Header) : State :=
  match s.node? n with
  | none => s
  | some e =>
    let v := h.volume.toNat
    let m := borrowMode h
    match s.borrowCheck n e v m, s.volume? v with
    | none, some vol => s.borrowOutcome n v m vol h
    | some .alreadyHeld, some vol => s.placeForNode n (s.heldAnswer n v vol.waitList h)
    | some c, _ => s.placeForNode n (borrowAnswer h c)
    | none, none => s

/-- BORROW (R25 to R28). -/
def execBorrow (s : State) : Result :=
  .next
    (match s.lendingFrame 0x01 with
     | none => s
     | some (n, h) => s.freeClassifier.borrow n h)

/-! ### RENEW and RETURN -/

/-- The loan manager takes a RENEW (R34). -/
def State.renew (s : State) (n : Nat) (h : Header) : State :=
  match s.loanOf h.handle n with
  | none => s.placeForNode n { answerHeader h .noSuchLoan with handle := h.handle }
  | some l =>
    match l.state with
    | .ending r =>
      s.placeForNode n { answerHeader h .loanEnding with handle := h.handle, detail := r.value }
    | .recalling d =>
      s.placeForNode n
        { answerHeader h .inRecall with
          handle := h.handle, valueA := BitVec.ofNat 32 (secondsLeft s.now d) }
    | .held =>
      (s.setLoan (handleIndex h.handle)
        { l with termDeadline := s.now + secs (s.termOf l.volume) }).placeForNode n
        { answerHeader h .ok with
          handle := h.handle, valueA := BitVec.ofNat 32 (s.termOf l.volume) }

/-- RENEW (R34). -/
def execRenew (s : State) : Result :=
  .next
    (match s.lendingFrame 0x02 with
     | none => s
     | some (n, h) => s.freeClassifier.renew n h)

/-- The loan manager takes a RETURN (R39, R44). -/
def State.returnLoan (s : State) (n : Nat) (h : Header) : State :=
  match s.loanOf h.handle n with
  | none => s.placeForNode n { answerHeader h .noSuchLoan with handle := h.handle }
  | some l =>
    match l.state with
    | .ending r =>
      s.placeForNode n { answerHeader h .loanEnding with handle := h.handle, detail := r.value }
    | .held | .recalling _ =>
      ((s.setLoan (handleIndex h.handle) { l with state := .ending .returned }).placeForNode n
        { answerHeader h .ok with
          handle := h.handle, valueA := BitVec.ofNat 32 l.outstanding }).freeIfQuiet
        (handleIndex h.handle)

/-- RETURN (R39). -/
def execReturnLoan (s : State) : Result :=
  .next
    (match s.lendingFrame 0x03 with
     | none => s
     | some (n, h) => s.freeClassifier.returnLoan n h)

/-! ### Claims and loan quiet -/

/-- The answer to a claim, and the loan as the claim leaves it (R35). -/
def State.judgeClaim (s : State) (c : Claim) : ClaimAnswer × State :=
  match s.loanOf c.handle c.node with
  | none => (.refused .noSuchLoan, s)
  | some l =>
    match l.state with
    | .ending _ => (.refused .loanEnding, s)
    | .recalling _ =>
      (.accepted, s.setLoan (handleIndex c.handle) { l with outstanding := l.outstanding + 1 })
    | .held =>
      (.accepted, s.setLoan (handleIndex c.handle)
        { l with outstanding := l.outstanding + 1,
                 termDeadline := s.now + secs (s.termOf l.volume) })

/-- LOAN_CLAIM (R35): the claim the request unit has presented. -/
def execLoanClaim (s : State) : Result :=
  .next
    (match s.mail.claim with
     | none => s
     | some c =>
       { (s.judgeClaim c).2 with
         mail := { s.mail with claim := none, claimAnswer := some (s.judgeClaim c).1 } })

/-- LOAN_QUIET (R44): the oldest such report; the entry is freed if the handle still names an ENDING
loan with no outstanding requests. -/
def execLoanQuiet (s : State) : Result :=
  .next
    (match s.mail.quietLoans with
     | [] => s
     | h :: rest =>
       let t := { s with mail := { s.mail with quietLoans := rest } }
       match t.currentLoan h with
       | some l => if l.state.isEnding ∧ l.outstanding = 0 then t.freeLoan (handleIndex h) else t
       | none => t)

/-! ### Timers -/

/-- WAIT_TIMER_EXPIRY (R32): taken no earlier than the wait deadline. -/
def execWaitTimerExpiry (record : Nat) (s : State) : Result :=
  .next
    (match s.lm.waits.get record with
     | none => s
     | some w => if w.deadline ≤ s.now then s.removeAndGrant record true else s)

/-- LOAN_EXPIRED for the manager, with the slot filled when the expiry is taken (R47). -/
def State.expiredNotice (s : State) (i : Nat) (l : Loan) : State :=
  match s.agent.slot with
  | some _ =>
    s.lmNotice (.loanExpired (handleOf i (s.generation i)) l.volume l.mode (s.nodeAddr l.holder))
  | none => s

/-- A HELD loan's term has run out (R36, R47). R36 lists LOAN_EXPIRED before the freeing, and R177 has
the agent take it in an event of its own: in the model the GRANTED notices of the freeing enter their
queues here, and LOAN_EXPIRED with its MANAGER_NOTICE, so that it comes after them on a port that the
manager and a node share (DESIGN CHOICE, log entry 57). -/
def State.expireTerm (s : State) (i : Nat) (l : Loan) : State :=
  ((s.endWithNotice i .expired).expiredNotice i l).freeIfQuiet i

/-- TERM_EXPIRY (R36): of a HELD loan, no earlier than its term deadline. -/
def execTermExpiry (entry : Nat) (s : State) : Result :=
  .next
    (match s.loan? entry with
     | none => s
     | some l =>
       if l.state = .held ∧ l.termDeadline ≤ s.now then s.expireTerm entry l else s)

/-- GRACE_EXPIRY (R38): of a RECALLING loan, no earlier than its grace deadline. -/
def execGraceExpiry (entry : Nat) (s : State) : Result :=
  .next
    (match s.loan? entry with
     | none => s
     | some l =>
       match l.state with
       | .recalling d =>
         if d ≤ s.now then (s.endWithNotice entry .recalled).freeIfQuiet entry else s
       | .held | .ending _ => s)

/-! ### Soft reset -/

/-- The loan manager's share of a soft reset (R43). -/
def State.resetLoans (s : State) : State :=
  let s1 := s.lm.waits.numbers.foldl (fun t r => t.removeRecord r true) s
  let s2 := { s1 with lm := { s1.lm with retry := [] } }
  let ids := s2.liveLoans fun _ => true
  let s3 := ids.foldl (fun t i => t.endWithNotice i .reset) s2
  let s4 := ids.foldl (fun t i => t.freeIfQuiet i) s3
  State.checkLmReset { s4 with lm := { s4.lm with resetShare := true } }

/-- LOAN_MANAGER_RESET (R43): the reset the agent has sent. -/
def execLoanManagerReset (s : State) : Result :=
  .next
    (if s.mail.resetLm then { s with mail := { s.mail with resetLm := false } }.resetLoans else s)

end Sys2Proof.Machine
end

