-- ==== Sys2Proof/Machine/Requests.lean ====
section
/-! DEFINITION. Commands of the request unit (03_block_requests.md): READ, WRITE, CHECK, ABORT, the
answer to a claim, drive unit reports, room and link reports of the ports, delivery timers, and the
request unit's share of a soft reset. -/

namespace Sys2Proof.Machine

/-- The frame of a kind that was passed to the request unit, with its node and port; none while a claim
is in flight, for the request unit then takes no such frame (R56). -/
def State.requestFrame (s : State) (kind : Byte) : Option (Nat × Port × Header × List Byte) :=
  match s.ru.admitting, s.cls.passed with
  | none, some { dest := .requestUnit n, port := p, frame := f } =>
    match Header.parse f.payload with
    | some h => if h.kind = kind then some (n, p, h, f.payload.drop 48) else none
    | none => none
  | _, _ => none

/-! ### Admission (R55 to R58) -/

/-- Checks 1 to 7 of R55, in order; the loan and its volume where all pass. -/
def State.checkLoan (s : State) (n : Nat) (e : Node) (k : ReqKind) (h : Header) :
    Code ⊕ (Loan × Volume) :=
  if e.state = .draining ∨ e.state = .drained then .inl .draining
  else if e.tags.contains h.tag then .inl .tagInUse
  else if (s.ru.requests.lowestFree 512).isNone then .inl .busy
  else
    match s.loanOf h.handle n with
    | none => .inl .noSuchLoan
    | some l =>
      if l.state.isEnding then .inl .loanEnding
      else if k = .write ∧ l.mode = .read then .inl .notPermitted
      else
        match s.volume? l.volume with
        | none => .inl .outOfWindow
        | some v => if v.window ≤ h.offset.toNat then .inl .outOfWindow else .inr (l, v)

/-- Whether the blocks of a piece are served: the segment of its bay and identity that covers it
(R5, R55 check 8). -/
def State.cutServed (s : State) (v : Volume) (c : Cut) : Bool :=
  v.segments.any fun g => g.bay == c.bay && decide (g.base ≤ c.start) &&
    decide (c.start < g.base + g.length) && g.identity == c.identity && s.served g

/-- Checks 8 to 10 of R55, in order. -/
def State.checkPieces (s : State) (v : Volume) (cuts : List Cut) : Option Code :=
  if !cuts.all (fun c => s.cutServed v c) then some .diskUnavailable
  else if !v.wake && cuts.any (fun c => (s.unit c.bay).state.asleep) then some .asleep
  else if !s.hasRoomFor cuts then some .busy
  else none

/-- A request as it is presented to the loan manager (R51, R56, R59, R60). -/
def admittingOf (n : Nat) (p : Port) (k : ReqKind) (h : Header) (data : List Byte) (l : Loan)
    (v : Volume) : Admitting :=
  let left := v.window - h.offset.toNat
  let toEnd := k == .check && h.toEnd
  let c := requestedCount k h.count.toNat toEnd left
  let eff := min c.1 left
  { node := n, port := p, tag := h.tag, handle := h.handle, volume := l.volume, kind := k,
    offset := h.offset.toNat, countField := h.count, toEnd, requested := c.1, effective := eff,
    short := decide (eff < c.1) || c.2,
    data := if k = .write then blocksOf h.count.toNat data else [],
    cuts := v.cut h.offset.toNat eff }

/-- The request unit takes a block request frame (R55, R56, R58). -/
def State.takeRequest (s : State) (k : ReqKind) (n : Nat) (p : Port) (h : Header) (data : List Byte) :
    State :=
  match s.node? n with
  | none => s
  | some e =>
    match s.checkLoan n e k h with
    | .inl c => s.refuse n p h.tag h.handle k c
    | .inr (l, v) =>
      let a := admittingOf n p k h data l v
      match s.checkPieces v a.cuts with
      | some c => s.refuse n p h.tag h.handle k c
      | none =>
        { s with ru := { s.ru with admitting := some a },
                 mail := { s.mail with claim := some { handle := h.handle, node := n } } }

/-- READ (R50, R51, R55). -/
def execRead (s : State) : Result :=
  .next
    (match s.requestFrame 0x10 with
     | none => s
     | some (n, p, h, data) => s.freeClassifier.takeRequest .read n p h data)

/-- WRITE (R50, R51, R55, R61). -/
def execWrite (s : State) : Result :=
  .next
    (match s.requestFrame 0x11 with
     | none => s
     | some (n, p, h, data) => s.freeClassifier.takeRequest .write n p h data)

/-- CHECK (R50, R51, R55). -/
def execCheck (s : State) : Result :=
  .next
    (match s.requestFrame 0x12 with
     | none => s
     | some (n, p, h, data) => s.freeClassifier.takeRequest .check n p h data)

/-- CLAIM_ANSWER (R56 to R58): the loan manager's answer to the claim in flight. -/
def execClaimAnswer (s : State) : Result :=
  .next
    (match s.mail.claimAnswer, s.ru.admitting with
     | some ans, some a =>
       let t := { s with ru := { s.ru with admitting := none },
                         mail := { s.mail with claimAnswer := none } }
       match ans with
       | .accepted => t.admitRequest a
       | .refused c => t.refuse a.node a.port a.tag a.handle a.kind c
     | _, _ => s)

/-! ### ABORT (R77, R78) -/

/-- The outstanding request of a node with a tag. -/
def State.requestByTag (s : State) (n : Nat) (tag : BitVec 8) : Option (Nat × Request) :=
  s.ru.requests.find? fun e => e.2.node == n && e.2.tag == tag

/-- The request unit takes an ABORT (R77, R78). -/
def State.abortTag (s : State) (n : Nat) (p : Port) (h : Header) : State :=
  match s.requestByTag n h.tag with
  | none =>
    s.place p (OutFrame.build (s.nodeAddr n)
      { Header.blank with kind := 0x20, tag := h.tag, subcode := 0x13, code := Code.noSuchTag.value }
      (.bytes []))
  | some (r, q) =>
    match q.state with
    | .aborting _ => s
    | .queued | .running =>
      let q' := { q with state := .aborting .aborted }
      (s.setRequest r q').withdrawQueued q' .aborted

/-- ABORT (R77, R78). -/
def execAbort (s : State) : Result :=
  .next
    (match s.requestFrame 0x13 with
     | none => s
     | some (n, p, h, _) => s.freeClassifier.abortTag n p h)

/-! ### Drive unit reports (R63 to R69) -/

/-- Take the oldest report of a drive unit. -/
def State.popUnitReport (s : State) (b : Bay) (rest : List UnitToRu) : State :=
  s.setBmail b { s.bmail b with unitToRu := rest }

/-- A piece has left QUEUED for a state other than WITHDRAWN: a QUEUED request is RUNNING (R53). -/
def State.requestRuns (s : State) (r : Nat) : State :=
  match s.request? r with
  | some q => if q.state = .queued then s.setRequest r { q with state := .running } else s
  | none => s

/-- A piece becomes final (R63), and its request ends if it was the last (R75). -/
def State.endPiece (s : State) (n : Nat) (pc : Piece) (st : PieceState) (done : Nat) : State :=
  (s.setPiece n { pc with state := st, done := done }).finishIfFinal pc.request

/-- A piece has started (R53, R63). -/
def State.pieceStarted (s : State) (r : PieceRef) : State :=
  match s.pieceOf r with
  | none => s
  | some pc =>
    if pc.state = .queued then (s.setPiece r.num { pc with state := .active }).requestRuns pc.request
    else s

/-- PIECE_STARTED_REPORT (R63). -/
def execPieceStartedReport (b : Bay) (s : State) : Result :=
  .next
    (match (s.bmail b).unitToRu with
     | .started r :: rest => (s.popUnitReport b rest).pieceStarted r
     | _ => s)

/-- A READ piece is staged (R64, R71), or discarded where its request was overrun (R73). -/
def State.pieceStaged (s : State) (r : PieceRef) (blocks : Nat) (media : Bool) : State :=
  match s.pieceOf r with
  | none => s
  | some pc =>
    if pc.state.final then s
    else
      match s.request? pc.request with
      | none => s
      | some q =>
        if q.overrun then
          (s.ruSend pc.bay (.emptied r)).endPiece r.num pc (.failed .overrun) 0
        else
          ((s.setPiece r.num
            { pc with state := .staged blocks media (s.now + tens s.ru.deliveryLimit) }).setDelivery
            q.port (s.delivery q.port ++ [r.num])).deliver q.port

/-- PIECE_STAGED_REPORT (R64, R73, R74). -/
def execPieceStagedReport (b : Bay) (s : State) : Result :=
  .next
    (match (s.bmail b).unitToRu with
     | .staged r blocks media :: rest => (s.popUnitReport b rest).pieceStaged r blocks media
     | _ => s)

/-- A WRITE or CHECK piece is done (R65, R66). -/
def State.pieceDone (s : State) (r : PieceRef) : State :=
  match s.pieceOf r with
  | none => s
  | some pc => if pc.state.final then s else s.endPiece r.num pc .done pc.length

/-- PIECE_DONE_REPORT (R65, R66). -/
def execPieceDoneReport (b : Bay) (s : State) : Result :=
  .next
    (match (s.bmail b).unitToRu with
     | .done r :: rest => (s.popUnitReport b rest).pieceDone r
     | _ => s)

/-- A piece has failed (R67, R68): a staged one leaves its delivery list and keeps the count it had
reached; one of an overrun request fails with OVERRUN where its reason would be a media error (R73); a
report of a piece already final is ignored (R92). -/
def State.pieceFailed (s : State) (r : PieceRef) (reason : FailReason) (done : Nat) : State :=
  match s.pieceOf r with
  | none => s
  | some pc =>
    match pc.state with
    | .done | .failed _ | .withdrawn _ => s
    | .staged .. =>
      match s.request? pc.request with
      | none => s
      | some q =>
        ((s.leaveDelivery q.port r.num).endPiece r.num pc (.failed reason) pc.done).deliver q.port
    | .queued => (s.requestRuns pc.request).endPiece r.num pc (.failed reason) done
    | .active =>
      match s.request? pc.request with
      | none => s
      | some q =>
        if q.overrun ∧ reason = .mediaError then s.endPiece r.num pc (.failed .overrun) 0
        else s.endPiece r.num pc (.failed reason) done

/-- PIECE_FAILED_REPORT (R68). -/
def execPieceFailedReport (b : Bay) (s : State) : Result :=
  .next
    (match (s.bmail b).unitToRu with
     | .failed r reason done :: rest => (s.popUnitReport b rest).pieceFailed r reason done
     | _ => s)

/-- A piece was withdrawn before it started (R69). -/
def State.pieceWithdrawn (s : State) (r : PieceRef) (reason : FailReason) : State :=
  match s.pieceOf r with
  | none => s
  | some pc => if pc.state.final then s else s.endPiece r.num pc (.withdrawn reason) 0

/-- PIECE_WITHDRAWN_REPORT (R69). -/
def execPieceWithdrawnReport (b : Bay) (s : State) : Result :=
  .next
    (match (s.bmail b).unitToRu with
     | .withdrawn r reason :: rest => (s.popUnitReport b rest).pieceWithdrawn r reason
     | _ => s)

/-- WITHDRAWAL_ANSWER (R69): the piece keeps to its own outcome. -/
def execWithdrawalAnswer (b : Bay) (s : State) : Result :=
  .next
    (match (s.bmail b).unitToRu with
     | .answer _ _ :: rest => s.popUnitReport b rest
     | _ => s)

/-! ### Ports and timers -/

/-- Take the oldest report of a farm port unit. -/
def State.popPortReport (s : State) (p : Port) (rest : List PortToRu) : State :=
  s.setPmail p { s.pmail p with toRu := rest }

/-- EGRESS_ROOM (R71): general room was reported on a port. -/
def execEgressRoom (p : Port) (s : State) : Result :=
  .next
    (match (s.pmail p).toRu with
     | .room :: rest => (s.popPortReport p rest).deliver p
     | _ => s)

/-- PORT_LINK_CHANGE (R74): on DOWN the port's list is delivered into the discarding port; after UP
delivery goes on as R71 states. -/
def execPortLinkChange (p : Port) (s : State) : Result :=
  .next
    (match (s.pmail p).toRu with
     | .linkDown :: rest => (s.popPortReport p rest).deliver p
     | .linkUp :: rest => (s.popPortReport p rest).deliver p
     | _ => s)

/-- DELIVERY_TIMER_EXPIRY (R72, R73): of a STAGED piece, no earlier than its deadline. -/
def execDeliveryTimerExpiry (piece : Nat) (s : State) : Result :=
  .next
    (match s.piece? piece with
     | none => s
     | some pc =>
       match pc.state, s.request? pc.request with
       | .staged _ _ deadline, some q =>
         if deadline ≤ s.now then s.overrunRequest pc.request q else s
       | _, _ => s)

/-! ### Soft reset -/

/-- One request at a soft reset (R79). -/
def State.resetRequest (s : State) (r : Nat) : State :=
  match s.request? r with
  | none => s
  | some q =>
    let q' := { q with state := q.state.abort .reset }
    (s.setRequest r q').withdrawQueued q' .reset

/-- The request unit's share of a soft reset (R79), the requests in ascending order of their records (log
entry 17); it is finished at once where the table is empty. -/
def State.resetRequests (s : State) : State :=
  let ids := s.ru.requests.numbers
  let t := ids.foldl (fun t r => t.resetRequest r) s
  if ids.isEmpty then t.ruTellAgent .resetFinished
  else { t with ru := { t.ru with resetShare := some ids } }

/-- REQUEST_UNIT_RESET (R79): the reset the agent has sent, taken with no claim in flight (R56). -/
def execRequestUnitReset (s : State) : Result :=
  .next
    (if s.mail.resetRu ∧ s.ru.admitting = none then
       { s with mail := { s.mail with resetRu := false } }.resetRequests
     else s)

end Sys2Proof.Machine
end

