-- ==== Sys2Proof/Machine/Drives.lean ====
section
/-! DEFINITION. Commands of the drive units (04_drive_bays_and_disk_queues.md): pieces and withdrawals
from the request unit, completions of drive commands, time limits, link loss, the idle timer, and
values sent by SET_PARAMS. A completion that names another command than the one in flight arrives late
and is ignored (R86, R96, R141). -/

namespace Sys2Proof.Machine

/-! ### From the request unit (R87, R88, R92) -/

/-- Take the oldest message of the request unit to a drive unit. -/
def State.popRu (s : State) (b : Bay) (rest : List RuToUnit) : State :=
  s.setBmail b { s.bmail b with ruToUnit := rest }

/-- A drive unit takes an appended piece (R87, R139). -/
def State.appendPiece (s : State) (b : Bay) (j : Job) (identity : Serial) : State :=
  let u := s.unit b
  if !u.state.healthy then s.tellRu b (.failed j.piece .diskUnavailable 0)
  else if u.releaseUnderWay then s.tellRu b (.withdrawn j.piece .bayReleased)
  else if u.disk.map Disk.serial ≠ some identity then s.tellRu b (.failed j.piece .diskUnavailable 0)
  else (s.modUnit b fun u => { u with queue := u.queue ++ [j] }).workArrived b

/-- PIECE_APPEND (R87). -/
def execPieceAppend (b : Bay) (s : State) : Result :=
  .next
    (match (s.bmail b).ruToUnit with
     | .append j identity :: rest => (s.popRu b rest).appendPiece b j identity
     | _ => s)

/-- A drive unit takes a withdrawal (R88). -/
def State.withdrawPiece (s : State) (b : Bay) (r : PieceRef) (reason : FailReason) : State :=
  let u := s.unit b
  if u.queue.any (fun j => j.piece == r) then
    ((s.modUnit b fun u => { u with queue := u.queue.filter fun j => j.piece != r }).tellRu b
      (.withdrawn r reason)).idle b
  else if u.hand.map Job.piece = some r ∨ u.staging.map Staging.piece = some r then
    s.tellRu b (.answer r true)
  else s.tellRu b (.answer r false)

/-- PIECE_WITHDRAWAL (R88). -/
def execPieceWithdrawal (b : Bay) (s : State) : Result :=
  .next
    (match (s.bmail b).ruToUnit with
     | .withdraw r reason :: rest => (s.popRu b rest).withdrawPiece b r reason
     | _ => s)

/-- The staging buffer is emptied or discarded (R92); a report of a buffer already discarded is
ignored. -/
def State.emptyStaging (s : State) (b : Bay) (r : PieceRef) : State :=
  if (s.unit b).staging.map Staging.piece = some r then
    (s.modUnit b fun u => { u with staging := none }).choose b
  else s

/-- STAGING_EMPTIED (R92). -/
def execStagingEmptied (b : Bay) (s : State) : Result :=
  .next
    (match (s.bmail b).ruToUnit with
     | .emptied r :: rest => (s.popRu b rest).emptyStaging b r
     | _ => s)

/-! ### Completions (R86, R91, R93, R94, R99, R100, R124, R125) -/

/-- The command in flight on a bay, if it has the number a completion names. -/
def State.flying (s : State) (b : Bay) (number : Nat) : Option DriveCmd :=
  match (s.unit b).inFlight with
  | some (n, c) => if n = number then some c else none
  | none => none

/-- A good IDENTIFY with a capacity of 1 block or more (R86); under a release the unit goes on to
SERVICE (R139). -/
def State.identified (s : State) (b : Bay) (d : Disk) : State :=
  let t := (s.modUnit b fun u => { u.endCommand with disk := some d }).enter b .standby
  let t := (t.tellLm b (.health .standby (some d) false)).unitNotice b (.diskArrived b d)
  if (t.unit b).releaseUnderWay then t.enterService b else t

/-- The outcome of IDENTIFY (R86). -/
def State.identifyEnds (s : State) (b : Bay) : IdentifyOutcome → State
  | .good serial capacity =>
    if capacity = 0 then s.enterFault b .failedIdentify
    else s.identified b { serial, capacity := min capacity 4294967295 }
  | .media => s.enterFault b .failedIdentify
  | .failed => s.enterFault b .failedIdentify
  | .linkLost => s.enterFault b .linkLost

/-- IDENTIFY_COMPLETION (R86). -/
def execIdentifyCompletion (b : Bay) (number : Nat) (o : IdentifyOutcome) (s : State) : Result :=
  .next
    (match s.flying b number with
     | some .identify => s.identifyEnds b o
     | _ => s)

/-- A FETCH has brought `blocks`; with `media` they end before the block in error (R91, R67). -/
def State.fetched (s : State) (b : Bay) (j : Job) (blocks : List Block) (media : Bool) : State :=
  let s := if media then s.countMedia b else s
  if blocks.isEmpty ∧ media then
    (((s.endCommand b).clearHand b).tellRu b (.failed j.piece .mediaError 0)).ready b
  else
    ((((s.endCommand b).clearHand b).modUnit b fun u =>
      { u with staging := some { piece := j.piece, blocks } }).tellRu b
      (.staged j.piece blocks.length media)).ready b

/-- FETCH_COMPLETION (R91). -/
def execFetchCompletion (b : Bay) (number : Nat) (o : FetchOutcome) (s : State) : Result :=
  match s.flying b number, (s.unit b).hand with
  | some (.fetch _ length), some j =>
    match o with
    | .good blocks =>
      if blocks.length = length then .next (s.fetched b j blocks false)
      else .fault .impossibleCompletion
    | .media blocks =>
      if blocks.length < length then .next (s.fetched b j blocks true)
      else .fault .impossibleCompletion
    | .failed => .next (s.enterFault b .failedCompletion)
    | .linkLost => .next (s.enterFault b .linkLost)
  | _, _ => .next s

/-- A STORE has ended (R93). -/
def State.stored (s : State) (b : Bay) (j : Job) : State :=
  (((s.endCommand b).clearHand b).tellRu b (.done j.piece)).ready b

/-- A STORE or PROBE has met a media error with `done` blocks of the piece handled (R93, R94, R95). -/
def State.pieceMedia (s : State) (b : Bay) (j : Job) (done : Nat) : State :=
  ((((s.countMedia b).endCommand b).clearHand b).tellRu b (.failed j.piece .mediaError done)).ready b

/-- STORE_COMPLETION (R93). -/
def execStoreCompletion (b : Bay) (number : Nat) (o : CmdOutcome) (s : State) : Result :=
  match s.flying b number, (s.unit b).hand with
  | some (.store _ data), some j =>
    match o with
    | .good => .next (s.stored b j)
    | .media k =>
      if k < data.length then .next (s.pieceMedia b j k) else .fault .impossibleCompletion
    | .failed => .next (s.enterFault b .failedCompletion)
    | .linkLost => .next (s.enterFault b .linkLost)
  | _, _ => .next s

/-- A PROBE run of `length` blocks has ended good (R66, R94, R139). -/
def State.probed (s : State) (b : Bay) (j : Job) (length : Nat) : State :=
  let j' := { j with done := j.done + length }
  let t := s.endCommand b
  if j.length ≤ j'.done then ((t.clearHand b).tellRu b (.done j.piece)).ready b
  else if (s.unit b).releaseUnderWay then
    ((t.clearHand b).tellRu b (.failed j.piece .bayReleased j'.done)).ready b
  else
    match s.abortCause j.piece with
    | some c => ((t.clearHand b).tellRu b (.failed j.piece c.reason j'.done)).ready b
    | none => (t.modUnit b fun u => { u with hand := some j' }).ready b

/-- PROBE_COMPLETION (R94). -/
def execProbeCompletion (b : Bay) (number : Nat) (o : CmdOutcome) (s : State) : Result :=
  match s.flying b number, (s.unit b).hand with
  | some (.probe _ length), some j =>
    match o with
    | .good => .next (s.probed b j length)
    | .media k =>
      if k < length then .next (s.pieceMedia b j (j.done + k)) else .fault .impossibleCompletion
    | .failed => .next (s.enterFault b .failedCompletion)
    | .linkLost => .next (s.enterFault b .linkLost)
  | _, _ => .next s

/-- The extent being worked leaves the list with a report, and the sweep may end (R124, R125, R127). -/
def State.extentLeaves (s : State) (b : Bay) (m : UnitToLm) : State :=
  (s.tellLm b m).modUnit b fun u =>
    { u with engine :=
      Engine.sweepEnd { u.engine with list := dropWorked u.engine.list } }

/-- A chunk of `length` blocks has ended good (R124), or under a release fails its extent (R128). -/
def State.zeroed (s : State) (b : Bay) (x : Extent) (length : Nat) : State :=
  let t := s.endCommand b
  if (s.unit b).engine.closed then (t.extentLeaves b (.extentFailed x.vol x.seg)).ready b
  else if x.length ≤ x.progress + length then (t.extentLeaves b (.extentDone x.vol x.seg)).ready b
  else
    (t.modUnit b fun u =>
      { u with engine := { u.engine with list := advanceWorked length u.engine.list } }).ready b

/-- A chunk has met a media error (R125, R128). -/
def State.zeroMedia (s : State) (b : Bay) (x : Extent) : State :=
  (((s.countMedia b).endCommand b).extentLeaves b (.extentFailed x.vol x.seg)).ready b

/-- ZERO_COMPLETION (R124, R125, R128). -/
def execZeroCompletion (b : Bay) (number : Nat) (o : CmdOutcome) (s : State) : Result :=
  match s.flying b number, (s.unit b).engine.worked with
  | some (.zero _ length), some x =>
    match o with
    | .good => .next (s.zeroed b x length)
    | .media k => if k < length then .next (s.zeroMedia b x) else .fault .impossibleCompletion
    | .failed => .next (s.enterFault b .failedCompletion)
    | .linkLost => .next (s.enterFault b .linkLost)
  | _, _ => .next s

/-- A SPIN-UP has ended good: the arbiter is told, and the unit is READY (R99, R139). -/
def State.spunUp (s : State) (b : Bay) : State := ((s.endCommand b).tellArb b .ended).ready b

/-- SPIN_UP_COMPLETION (R99, R112). -/
def execSpinUpCompletion (b : Bay) (number : Nat) (o : CmdOutcome) (s : State) : Result :=
  .next
    (match s.flying b number with
     | some .spinUp =>
       match o with
       | .good => s.spunUp b
       | .media _ => s.enterFault b .failedCompletion
       | .failed => s.enterFault b .failedCompletion
       | .linkLost => s.enterFault b .linkLost
     | _ => s)

/-- A SPIN-DOWN has ended good: STANDBY, WAKE_WAIT with work, or SERVICE under a release (R100, R139,
R140). -/
def State.spunDown (s : State) (b : Bay) : State :=
  let t := s.endCommand b
  if (t.unit b).releaseUnderWay then t.enterService b
  else
    let t := t.enter b .standby
    if (t.unit b).hasWork then t.wake b else t

/-- SPIN_DOWN_COMPLETION (R100, R140). -/
def execSpinDownCompletion (b : Bay) (number : Nat) (o : CmdOutcome) (s : State) : Result :=
  .next
    (match s.flying b number with
     | some .spinDown =>
       match o with
       | .good => s.spunDown b
       | .media _ => s.enterFault b .failedCompletion
       | .failed => s.enterFault b .failedCompletion
       | .linkLost => s.enterFault b .linkLost
     | _ => s)

/-! ### Time limits, link loss, idle timer -/

/-- COMMAND_TIMER_EXPIRY (R96). -/
def execCommandTimerExpiry (b : Bay) (s : State) : Result :=
  .next
    (if due (s.unit b).commandTimer s.now then (s.countTimeout b).enterFault b .timeLimit else s)

/-- SPIN_UP_LIMIT_EXPIRY (R112). -/
def execSpinUpLimitExpiry (b : Bay) (s : State) : Result :=
  .next
    (if due (s.unit b).spinUpTimer s.now then (s.countTimeout b).enterFault b .timeLimit else s)

/-- LINK_LOST (R97). -/
def execLinkLost (b : Bay) (s : State) : Result :=
  .next
    (match (s.unit b).state with
     | .identifying | .spinningUp | .active | .spinningDown | .standby | .wakeWait | .ready =>
       s.enterFault b .linkLost
     | .fault | .service | .absent => s)

/-- The unit spins down (R100): on the idle timer's expiry (R103) or SLEEP_DISK (R104). -/
def State.spinDown (s : State) (b : Bay) : State :=
  ((s.modUnit b fun u => { u with idleTimer := none }).issue b .spinDown).enter b .spinningDown

/-- IDLE_TIMER_EXPIRY (R103). -/
def execIdleTimerExpiry (b : Bay) (s : State) : Result :=
  .next (if due (s.unit b).idleTimer s.now then s.spinDown b else s)

/-! ### Values sent by SET_PARAMS (R174) -/

/-- PAUSE_ALLOWANCE_CHANGE (R90): used from the next choice, which a READY unit makes at once (R89). -/
def execPauseAllowanceChange (b : Bay) (s : State) : Result :=
  .next
    (match (s.bmail b).allowances with
     | [] => s
     | a :: rest =>
       ((s.setBmail b { s.bmail b with allowances := rest }).modUnit b fun u =>
         { u with params := { u.params with allowance := a } }).choose b)

/-- KEEP_SPINNING_CHANGE (R101). -/
def execKeepSpinningChange (b : Bay) (s : State) : Result :=
  .next
    (match (s.bmail b).keeps with
     | [] => s
     | k :: rest =>
       ((s.setBmail b { s.bmail b with keeps := rest }).modUnit b fun u =>
         { u with params := { u.params with keepSpinning := k } }).idle b)

/-- A timer limit taken by a drive unit: it applies to timers set afterwards (R96, R102, R112, R121). -/
def UnitParams.take (p : UnitParams) : UnitLimit → UnitParams
  | .pieceLimit n => { p with pieceLimit := n }
  | .spinUpLimit n => { p with spinUpLimit := n }
  | .gatherWindow n => { p with gatherWindow := n }
  | .idleTime f l => { p with idleFactor := f, idleLong := l }

/-- TIMER_LIMIT_CHANGE (R174). -/
def execTimerLimitChange (t : LimitTarget) (s : State) : Result :=
  .next
    (match t with
     | .requestUnit =>
       match s.mail.limits with
       | [] => s
       | n :: rest =>
         { s with mail := { s.mail with limits := rest }, ru := { s.ru with deliveryLimit := n } }
     | .driveUnit b =>
       match (s.bmail b).limits with
       | [] => s
       | l :: rest =>
         (s.setBmail b { s.bmail b with limits := rest }).modUnit b fun u =>
           { u with params := UnitParams.take u.params l })

end Sys2Proof.Machine
end

