-- ==== Sys2Proof/Machine/Clearing.lean ====
section
/-! DEFINITION. Commands of scratch clearing (06_scratch_clearing.md): health and extent reports at the
loan manager, and the extents, pending-clear reports and gather timer of the clear engines. -/

namespace Sys2Proof.Machine

/-! ### At the loan manager (R85, R116 to R118, R137) -/

/-- Take the oldest message of a drive unit to the loan manager. -/
def State.popUnitToLm (s : State) (b : Bay) (rest : List UnitToLm) : State :=
  s.setBmail b { s.bmail b with unitToLm := rest }

/-- The release outstanding mark of a bay is cleared (R137). -/
def State.clearRelease (s : State) (b : Bay) : State :=
  s.setLmBay b { s.lmBay b with releaseOutstanding := false }

/-- What a health report says of the bay is kept: the disk of a healthy unit, or none (R85). -/
def State.noteHealth (s : State) (b : Bay) (st : DriveState) (disk : Option Disk) : State :=
  s.setLmBay b { s.lmBay b with reported := if st.healthy then disk else none }

/-- A health report is taken: impairment follows it (R7), the references of an ABSENT bay fail (R117), a
removal under a release ends it (R141 step 10), and the queue is listed from (R116). -/
def State.takeHealth (s : State) (b : Bay) (st : DriveState) (disk : Option Disk)
    (releaseEnded : Bool) : State :=
  let t := s.noteHealth b st disk
  let t := if st = .absent then t.failPending b else t
  let t := if releaseEnded then t.clearRelease b else t
  t.listFromHead b

/-- HEALTH_REPORT (R85, R116, R117). -/
def execHealthReport (b : Bay) (s : State) : Result :=
  .next
    (match (s.bmail b).unitToLm with
     | .health st disk ended :: rest => (s.popUnitToLm b rest).takeHealth b st disk ended
     | _ => s)

/-- RELEASE_END_REPORT (R137, R138, R140, R141): the end of a release in SERVICE or a dropped release;
the report of a removal under a release is a health report too, and is taken whole. -/
def execReleaseEndReport (b : Bay) (s : State) : Result :=
  .next
    (match (s.bmail b).unitToLm with
     | .releaseEnd :: rest => (s.popUnitToLm b rest).clearRelease b
     | .health st disk true :: rest => (s.popUnitToLm b rest).takeHealth b st disk true
     | _ => s)

/-- An extent report is taken: the segment's outcome, the LISTED count, the volume's clear, and the
queue, in that order (R118). -/
def State.extentEnds (s : State) (b : Bay) (r : SegRef) (c : ClearStatus) : State :=
  let t := s.setClear r c
  let t := t.setLmBay b { t.lmBay b with listed := (t.lmBay b).listed - 1 }
  (t.examineClear r.vol).listFromHead b

/-- EXTENT_DONE (R118). -/
def execExtentDone (b : Bay) (s : State) : Result :=
  .next
    (match (s.bmail b).unitToLm with
     | .extentDone v i :: rest => (s.popUnitToLm b rest).extentEnds b { vol := v, seg := i } .done
     | _ => s)

/-- EXTENT_FAILED (R118). -/
def execExtentFailed (b : Bay) (s : State) : Result :=
  .next
    (match (s.bmail b).unitToLm with
     | .extentFailed v i :: rest => (s.popUnitToLm b rest).extentEnds b { vol := v, seg := i } .failed
     | _ => s)

/-! ### At the drive unit (R101, R120, R121) -/

/-- Take the oldest message of the loan manager to a drive unit. -/
def State.popLmToUnit (s : State) (b : Bay) (rest : List LmToUnit) : State :=
  s.setBmail b { s.bmail b with lmToUnit := rest }

/-- PENDING_CLEAR_REPORT (R101, R115). -/
def execPendingClearReport (b : Bay) (s : State) : Result :=
  .next
    (match (s.bmail b).lmToUnit with
     | .pendingClear nonEmpty :: rest =>
       ((s.popLmToUnit b rest).modUnit b fun u => { u with clearWaiting := nonEmpty }).idle b
     | _ => s)

/-- The test of R120: the unit is unhealthy, holds another identity, or its engine is closed. -/
def DriveUnit.refusesExtent (u : DriveUnit) (identity : Serial) : Bool :=
  !u.state.healthy || u.disk.map Disk.serial != some identity || u.engine.closed

/-- The CURRENT extents of an engine. -/
def currentCount (e : Engine) : Nat := (e.list.filter fun x => x.current).length

/-- A joining extent gives the unit work: the engine has come to be SWEEPING, or has gained a CURRENT
extent while SWEEPING (R120). -/
def gainsWork (before after : Engine) : Bool :=
  after.state == .sweeping && decide (currentCount before < currentCount after)

/-- An extent joins the clear list of a unit that does not refuse it (R120 to R122). -/
def State.joinExtent (s : State) (b : Bay) (x : Extent) : State :=
  let u := s.unit b
  let e := Engine.join u.engine x u.params.gatherWindow s.now
  let t := s.modUnit b fun u => { u with engine := e }
  if gainsWork u.engine e then t.workArrived b else t.idle b

/-- A clear engine takes an extent (R120). -/
def State.takeExtent (s : State) (b : Bay) (vol seg : Nat) (identity : Serial)
    (start length : Nat) : State :=
  if DriveUnit.refusesExtent (s.unit b) identity then s.tellLm b (.extentFailed vol seg)
  else s.joinExtent b { vol, seg, start, length, progress := 0, current := true }

/-- CLEAR_EXTENT (R120). -/
def execClearExtent (b : Bay) (s : State) : Result :=
  .next
    (match (s.bmail b).lmToUnit with
     | .extent v i identity start length :: rest =>
       (s.popLmToUnit b rest).takeExtent b v i identity start length
     | _ => s)

/-- The gather window ends: the extents are sorted and the engine sweeps (R121). -/
def State.beginSweep (s : State) (b : Bay) : State :=
  (s.modUnit b fun u =>
    { u with engine :=
      { u.engine with state := .sweeping, list := sortExtents u.engine.list } }).workArrived b

/-- GATHER_TIMER_EXPIRY (R121): no earlier than the deadline. -/
def execGatherTimerExpiry (b : Bay) (s : State) : Result :=
  .next
    (match (s.unit b).engine.state with
     | .gathering d => if d ≤ s.now then s.beginSweep b else s
     | .empty | .sweeping => s)

end Sys2Proof.Machine
end

