-- ==== Sys2Proof/Machine/ParamOps.lean ====
section
/-! DEFINITION. The parameter set (R173, R174): which slots of a parameter block are carried, their
ranges and steps, writing them into the set, and sending them to the blocks that act on them. -/

namespace Sys2Proof

/-- Every bay, ascending. -/
def allBays : List Bay := List.finRange 24

/-- Every farm port, ascending. -/
def allPorts : List Port := List.finRange 4

/-- A threshold is 16 to 120 KiB in steps of 8 KiB (R162). -/
def thresholdGood (k : Nat) : Bool := 16 ≤ k && k ≤ 120 && k % 8 == 0

/-- Whether the block carries the slot of a mask bit (R182). -/
def ParamBlock.carries (p : ParamBlock) (bit : Nat) : Bool := p.mask.getLsbD bit

/-- Test 1 of R174: every carried value lies within its range and on its step (R173). -/
def ParamBlock.inRange (p : ParamBlock) : Bool :=
  (!p.carries 0 || (1 ≤ p.budget && p.budget ≤ 8)) &&
  (!p.carries 1 || (10 ≤ p.spinUpLimit && p.spinUpLimit ≤ 120)) &&
  (!p.carries 2 || (1 ≤ p.pieceLimit && p.pieceLimit ≤ 60)) &&
  (!p.carries 3 || (10 ≤ p.deliveryLimit && p.deliveryLimit ≤ 6000)) &&
  (!p.carries 4 || (1 ≤ p.allowance && p.allowance ≤ 64)) &&
  (!p.carries 5 || p.gatherWindow ≤ 255) &&
  (!p.carries 6 || (p.idleFactor ≤ 15 && p.idleUnit ≤ 1)) &&
  (!p.carries 7 || thresholdGood p.on) &&
  (!p.carries 8 || thresholdGood p.off)

/-- Whether keep-spinning is carried for a bay, and the value (R174, R182). -/
def ParamBlock.keepFor (p : ParamBlock) (b : Bay) : Option Bool :=
  if p.carries 9 && p.keepCarry.getLsbD b.val then some (p.keepValue.getLsbD b.val) else none

/-- The parameter set with every carried value written into it (R174). -/
def Params.write (q : Params) (p : ParamBlock) : Params where
  budget := if p.carries 0 then p.budget else q.budget
  spinUpLimit := if p.carries 1 then p.spinUpLimit else q.spinUpLimit
  pieceLimit := if p.carries 2 then p.pieceLimit else q.pieceLimit
  deliveryLimit := if p.carries 3 then p.deliveryLimit else q.deliveryLimit
  allowance := if p.carries 4 then p.allowance else q.allowance
  gatherWindow := if p.carries 5 then p.gatherWindow else q.gatherWindow
  idleFactor := if p.carries 6 then p.idleFactor else q.idleFactor
  idleLong := if p.carries 6 then p.idleUnit == 1 else q.idleLong
  on := if p.carries 7 then p.on else q.on
  off := if p.carries 8 then p.off else q.off
  keep := if p.carries 9 then (q.keep &&& ~~~p.keepCarry) ||| (p.keepValue &&& p.keepCarry) else q.keep

/-- Tests 1 and 2 of R174: ranges and steps, then OFF below ON as they would stand. -/
def Params.accepts (q : Params) (p : ParamBlock) : Bool :=
  p.inRange && decide ((q.write p).off < (q.write p).on)

/-- The limits a parameter block carries for a drive unit (R174). -/
def ParamBlock.unitLimits (p : ParamBlock) : List UnitLimit :=
  (if p.carries 2 then [.pieceLimit p.pieceLimit] else []) ++
  (if p.carries 1 then [.spinUpLimit p.spinUpLimit] else []) ++
  (if p.carries 5 then [.gatherWindow p.gatherWindow] else []) ++
  (if p.carries 6 then [.idleTime p.idleFactor (p.idleUnit == 1)] else [])

/-- The messages a drive unit's bay is sent by a SET_PARAMS (R174). -/
def BayMail.sendParams (m : BayMail) (p : ParamBlock) (b : Bay) : BayMail :=
  { m with
    limits := m.limits ++ p.unitLimits
    allowances := m.allowances ++ (if p.carries 4 then [p.allowance] else [])
    keeps := m.keeps ++ (p.keepFor b).toList }

namespace Machine

/-- Send each carried value to the blocks that act on it (R174); the thresholds are sent as the pair
that stands after the request (R162). -/
def State.sendParams (s : State) (p : ParamBlock) : State :=
  let s1 := allBays.foldl (fun (t : State) b => t.setBmail b ((t.bmail b).sendParams p b)) s
  let s2 :=
    if p.carries 3 then
      { s1 with mail := { s1.mail with limits := s1.mail.limits ++ [p.deliveryLimit] } }
    else s1
  if p.carries 7 || p.carries 8 then
    allPorts.foldl (fun (t : State) q =>
      t.setPmail q { t.pmail q with
        thresholds := (t.pmail q).thresholds ++ [(t.agent.params.on, t.agent.params.off)] }) s2
  else s2

/-- The answer to a SET_PARAMS (R182). -/
def paramsAnswer (tag : BitVec 8) (c : Code) : Answer :=
  { hdr := { Header.blank with kind := 0x31, tag := tag, subcode := 0x04, code := c.value }, body := [] }

/-- Every test of a SET_PARAMS has passed: the values are written, sent and answered OK (R174). -/
def State.applyParams (s : State) (tag : BitVec 8) (p : ParamBlock) : State :=
  let t := { s with agent := { s.agent with params := s.agent.params.write p } }
  (t.sendParams p).answer (paramsAnswer tag .ok)

end Machine

end Sys2Proof
end

