-- ==== Sys2Proof/Machine/SpinUp.lean ====
section
/-! DEFINITION. Commands of the spin-up arbiter and the grant at the drive unit
(05_spin_up_budget.md). -/

namespace Sys2Proof

/-- Places free (R107): the budget less the count. -/
def Arbiter.room (a : Arbiter) : Nat := a.budget - a.places.length

/-- The bays that are granted: the oldest of the wait order, as many as places are free (R110). -/
def Arbiter.winners (a : Arbiter) : List Bay := a.waitOrder.take a.room

/-- The arbiter after granting (R110). -/
def Arbiter.granted (a : Arbiter) : Arbiter :=
  { a with places := a.places ++ a.winners, waitOrder := a.waitOrder.drop a.room }

/-- A spin-up wanted report is ignored from a bay that holds a place or waits (R109). -/
def Arbiter.knows (a : Arbiter) (b : Bay) : Bool := a.places.contains b || a.waitOrder.contains b

/-- A bay joins the wait order at its tail (R109). -/
def Arbiter.want (a : Arbiter) (b : Bay) : Arbiter := { a with waitOrder := a.waitOrder ++ [b] }

/-- The arbiter takes a wait withdrawn report (R109). -/
def Arbiter.withdraw (a : Arbiter) (b : Bay) : Arbiter :=
  { a with waitOrder := a.waitOrder.filter (· ≠ b) }

/-- A bay's place is released (R111, R112), before the arbiter grants. -/
def Arbiter.release (a : Arbiter) (b : Bay) : Arbiter :=
  { a with places := a.places.filter (· ≠ b) }

namespace Machine

/-- Write the arbiter. -/
def State.setArb (s : State) (a : Arbiter) : State := { s with arb := a }

/-- A grant is sent to a drive unit (R108). -/
def State.sendGrant (s : State) (b : Bay) : State :=
  s.setBmail b { s.bmail b with grants := (s.bmail b).grants + 1 }

/-- The arbiter grants (R110). -/
def State.arbGrant (s : State) : State :=
  s.arb.winners.foldl State.sendGrant (s.setArb s.arb.granted)

/-- Take the oldest report of a drive unit to the arbiter. -/
def State.popUnitToArb (s : State) (b : Bay) (rest : List UnitToArb) : State :=
  s.setBmail b { s.bmail b with unitToArb := rest }

/-- SPIN_UP_WANTED (R109). -/
def execSpinUpWanted (b : Bay) (s : State) : Result :=
  .next
    (match (s.bmail b).unitToArb with
     | .wanted :: rest =>
       let t := s.popUnitToArb b rest
       if s.arb.knows b then t else (t.setArb (s.arb.want b)).arbGrant
     | _ => s)

/-- WAIT_WITHDRAWN (R109). -/
def execWaitWithdrawn (b : Bay) (s : State) : Result :=
  .next
    (match (s.bmail b).unitToArb with
     | .withdrawn :: rest => (s.popUnitToArb b rest).setArb (s.arb.withdraw b)
     | _ => s)

/-- GRANT_DECLINED (R111). -/
def execGrantDeclined (b : Bay) (s : State) : Result :=
  .next
    (match (s.bmail b).unitToArb with
     | .declined :: rest => ((s.popUnitToArb b rest).setArb (s.arb.release b)).arbGrant
     | _ => s)

/-- SPIN_UP_ENDED (R112). -/
def execSpinUpEnded (b : Bay) (s : State) : Result :=
  .next
    (match (s.bmail b).unitToArb with
     | .ended :: rest => ((s.popUnitToArb b rest).setArb (s.arb.release b)).arbGrant
     | _ => s)

/-- The unit spins up (R99, R111). -/
def State.beginSpinUp (s : State) (b : Bay) : State :=
  ((s.modUnit b fun u => { u with spinUps := bump u.spinUps }).issue b .spinUp).enter b .spinningUp

/-- SPIN_UP_GRANT (R111). -/
def execSpinUpGrant (b : Bay) (s : State) : Result :=
  .next
    (if (s.bmail b).grants = 0 then s
     else
       let t := s.setBmail b { s.bmail b with grants := (s.bmail b).grants - 1 }
       if (s.unit b).state = .wakeWait then t.beginSpinUp b else t.tellArb b .declined)

/-- The arbiter sets a new budget, and grants if it rose (R113). -/
def State.setBudget (s : State) (n : Nat) : State :=
  let t := s.setArb { s.arb with budget := n }
  if s.arb.budget < n then t.arbGrant else t

/-- BUDGET_CHANGE (R113): the budget the waiting SET_PARAMS presents. -/
def execBudgetChange (s : State) : Result :=
  .next
    (match s.agent.wait with
     | .budget tag p =>
       if p.budget < s.arb.places.length then
         (s.setWait .free).answer (paramsAnswer tag .paramConflict)
       else ((s.setBudget p.budget).setWait .free).applyParams tag p
     | .free | .status | .counters .. | .drainCount .. | .forgetCount .. => s)

end Machine

end Sys2Proof
end

