-- ==== Sys2Proof/Machine/ServiceControls.lean ====
section
/-! DEFINITION. Commands of the bay service controls, bay releases, and removal and insertion of disks
(07_bay_service_controls.md). -/

namespace Sys2Proof

/-- A press of the button (R135): flag, level and hold timer. -/
def Service.press (c : Service) (now : Nat) : Service :=
  { c with pressedFlag := true, buttonDown := true, holdTimer := some (now + secs 6) }

/-- A release of the button (R136). -/
def Service.letGo (c : Service) : Service := { c with buttonDown := false, holdTimer := none }

/-- Whether a chunk is in flight (R128). -/
def DriveUnit.chunkFlying (u : DriveUnit) : Bool :=
  match u.inFlight with
  | some (_, .zero _ _) => true
  | _ => false

/-- The extents a release's clear step fails, in list order (R128 step 3). -/
def DriveUnit.releasedExtents (u : DriveUnit) : List Extent :=
  if u.chunkFlying then dropWorked u.engine.list else u.engine.list

/-- The engine after the clear step of a release (R128). -/
def DriveUnit.closedEngine (u : DriveUnit) : Engine :=
  match u.chunkFlying, u.engine.worked with
  | true, some x => { state := .sweeping, list := [x], closed := true }
  | _, _ => { state := .empty, list := [], closed := true }

namespace Machine

/-! ### The button (R135, R136) -/

/-- BUTTON_PRESS (R135): a change of the button input from released to pressed. -/
def execButtonPress (b : Bay) (s : State) : Result :=
  .next
    (if (s.controls b).buttonDown then s
     else
       let st := (s.unit b).state
       (s.setControls b (((s.controls b).press s.now).outputs st)).svcTellAgent b
         (.notice (.servicePressed b st)))

/-- BUTTON_RELEASE (R136). -/
def execButtonRelease (b : Bay) (s : State) : Result :=
  .next (s.setControls b (s.controls b).letGo)

/-- The service override: the notice, and a forced release presented to the loan manager (R136). -/
def State.override (s : State) (b : Bay) : State :=
  let u := s.unit b
  let t := s.svcTellAgent b (.notice (.serviceOverride b u.state (u.disk.map Disk.serial)))
  t.setBmail b { t.bmail b with overrides := (t.bmail b).overrides + 1 }

/-- HOLD_TIMER_EXPIRY (R136): no earlier than the deadline. -/
def execHoldTimerExpiry (b : Bay) (s : State) : Result :=
  .next
    (if due (s.controls b).holdTimer s.now then
       let t := s.setControls b { s.controls b with holdTimer := none }
       match (s.unit b).state with
       | .absent | .service => t
       | .identifying | .standby | .wakeWait | .spinningUp | .ready | .active | .spinningDown
       | .fault => t.override b
     else s)

/-! ### The loan manager's side of a release (R137) -/

/-- The second condition of R137. -/
def State.releaseBarred (s : State) (b : Bay) : Bool :=
  (s.unit b).state == .service || (s.unit b).state == .absent || (s.lmBay b).releaseOutstanding

/-- The third condition of R137: a loan entry in use names a volume with a segment on the bay. -/
def State.bayLent (s : State) (b : Bay) : Bool :=
  s.lm.loans.any fun e => s.volumeOnBay e.2.volume b

/-- A release proceeds: the mark, the loan step, the clear step, and the drive unit is told (R137). -/
def State.beginRelease (s : State) (b : Bay) : State :=
  (((s.setLmBay b { s.lmBay b with releaseOutstanding := true }).releaseLoanStep b).failPending
    b).lmSend b .release

/-- SERVICE_OVERRIDE (R137): the forced release the controls have presented. -/
def execServiceOverride (b : Bay) (s : State) : Result :=
  .next
    (if (s.bmail b).overrides = 0 then s
     else
       let t := s.setBmail b { s.bmail b with overrides := (s.bmail b).overrides - 1 }
       if t.releaseBarred b then t else t.beginRelease b)

/-! ### The drive unit's side of a release (R138) -/

/-- The clear step of a release at the engine (R128). -/
def State.closeEngine (s : State) (b : Bay) : State :=
  let u := s.unit b
  (s.reportExtents b u.releasedExtents).modUnit b fun u => { u with engine := u.closedEngine }

/-- Every queued piece is withdrawn with reason BAY_RELEASED, head first (R138 step 2). -/
def State.withdrawQueue (s : State) (b : Bay) : State :=
  ((s.unit b).queue.foldl (fun (t : State) j => t.tellRu b (.withdrawn j.piece .bayReleased)) s).modUnit
    b fun u => { u with queue := [] }

/-- A drive unit takes a release (R138). -/
def State.takeRelease (s : State) (b : Bay) : State :=
  match (s.unit b).state with
  | .absent | .service => s.tellLm b .releaseEnd
  | st =>
    let t := ((s.modUnit b fun u => { u with releaseUnderWay := true }).closeEngine b).withdrawQueue b
    let t := t.modUnit b fun u => { u with idleTimer := none }
    match st with
    | .standby | .fault => t.enterService b
    | .wakeWait => (t.tellArb b .withdrawn).enterService b
    | .ready => (t.releaseHand b).releaseSpinDown b
    | .absent | .identifying | .spinningUp | .active | .spinningDown | .service => t

/-- RELEASE_TAKEN (R138). -/
def execReleaseTaken (b : Bay) (s : State) : Result :=
  .next
    (match (s.bmail b).lmToUnit with
     | .release :: rest => (s.popLmToUnit b rest).takeRelease b
     | _ => s)

/-! ### Removal and insertion (R141, R142) -/

/-- The drive unit enters ABSENT (R141). -/
def State.enterAbsent (s : State) (b : Bay) : State :=
  let u := s.unit b
  let t := ((((s.endCommand b).failPieces b .diskUnavailable).failEngine b).leaveSpinUp b).modUnit b
    fun u => { u with idleTimer := none, releaseUnderWay := false, disk := none,
                      engine := { u.engine with closed := false } }
  let t := (t.enter b .absent).tellLm b (.health .absent none u.releaseUnderWay)
  if u.state = .service then t
  else t.unitNotice b (.diskGone b u.state (u.disk.map Disk.serial))

/-- What the presence sense of a bay reports. -/
def State.sense (s : State) (b : Bay) (present : Bool) : State :=
  s.setControls b { s.controls b with present := present }

/-- PRESENCE_LOST (R141). -/
def execPresenceLost (b : Bay) (s : State) : Result :=
  .next
    (if (s.unit b).state = .absent then s.sense b false else (s.sense b false).enterAbsent b)

/-- PRESENCE_GAINED (R142): in ABSENT the counters are set to 0 and the disk is identified. -/
def execPresenceGained (b : Bay) (s : State) : Result :=
  .next
    (if (s.unit b).state = .absent then
       ((s.sense b true).modUnit b fun u =>
         { u with mediaErrors := 0, timeouts := 0, spinUps := 0 }).enterIdentifying b
     else s.sense b true)

end Machine

end Sys2Proof
end

