-- ==== Sys2Proof/Machine/ManageOps.lean ====
section
/-! DEFINITION. What every management request shares (R168, R169, R172): the frame the agent takes, its
checks in order, and the statuses that blocks return. -/

namespace Sys2Proof.Machine

/-- The MANAGE frame passed to the agent, while the agent waits for nothing (R146, R172). -/
def State.managePassed (s : State) : Option (Port × InFrame) :=
  match s.agent.wait, s.cls.passed with
  | .free, some { dest := .agent, port := p, frame := f } => some (p, f)
  | _, _ => none

/-- The MANAGE frame passed to the free agent, with its header, where it holds one (R169). -/
def State.manageWaiting (s : State) : Option (Port × InFrame × Header) :=
  match s.managePassed with
  | some (p, f) =>
    match Header.parse f.payload with
    | some h => some (p, f, h)
    | none => none
  | none => none

/-- The manager's last port is set to the port a frame arrived on (R168). -/
def State.setManagerPort (s : State) (p : Port) : State :=
  match s.agent.slot with
  | some sl => { s with agent := { s.agent with slot := some { sl with port := p } } }
  | none => s

/-- A MANAGE frame from another source than the slot's is discarded and counted (R169). -/
def State.discardManage (s : State) (p : Port) : State := s.setPort p (s.port p).countUnknown

/-- The format checks of R169 that follow the source test: header, then fields and payload. -/
def requestGood (h : Header) (payload : List Byte) : Bool :=
  h.manageHeaderGood payload && h.manageFieldsClear && managePayloadGood h payload

/-- The agent takes a frame of a known request: discarded by its source, answered BAD_FORMAT, or
carried out by `act` on the header and the payload after it (R168, R169, R172). -/
def State.takeManage (s : State) (p : Port) (f : InFrame) (h : Header)
    (act : Header → List Byte → State → State) : State :=
  if !s.managerSource h f.src then s.freeClassifier.discardManage p
  else
    let t := s.freeClassifier.setManagerPort p
    if requestGood h f.payload then act h (f.payload.drop 48) t else t.answer (h.status .badFormat)

/-- The frame of one request code, taken. -/
def State.manage (s : State) (code : Byte) (act : Header → List Byte → State → State) : State :=
  match s.manageWaiting with
  | some (p, f, h) => if h.subcode = code then s.takeManage p f h act else s
  | none => s

/-- The agent answers at once with a status of its own. -/
def State.reply (s : State) (h : Header) (c : Code) : State := s.answer (h.status c)

/-- The loan manager returns a status; the agent waits for it (R172). -/
def State.lmStatus (s : State) (h : Header) (c : Code) : State :=
  (s.setWait .status).lmTellAgent (.status (h.status c))

/-- The node block returns a status; the agent waits for it (R172). -/
def State.nodeStatus (s : State) (h : Header) (c : Code) : State :=
  (s.setWait .status).nodeTellAgent (.status (h.status c))

/-- A drive unit returns a status; the agent waits for it (R172). -/
def State.unitStatus (s : State) (b : Bay) (a : Answer) : State :=
  (s.setWait .status).unitTellAgent b (.status a)

/-- The service controls return a status; the agent waits for it (R172). -/
def State.svcStatus (s : State) (b : Bay) (a : Answer) : State :=
  (s.setWait .status).svcTellAgent b (.status a)

/-- The bay a header names in value A, if there is such a bay. -/
def bayOf (h : Header) : Option Bay :=
  if hb : h.valueA.toNat < 24 then some ⟨h.valueA.toNat, hb⟩ else none

/-- A request that names a bay: BAD_VALUE above 23, else carried out on the bay. -/
def State.onBay (s : State) (h : Header) (act : Bay → State → State) : State :=
  match bayOf h with
  | some b => act b s
  | none => s.reply h .badValue

end Sys2Proof.Machine
end

