-- ==== Sys2Proof/Machine/Management.lean ====
section
/-! DEFINITION. Commands of the management agent on what it owns (10_management.md): the manager slot,
the parameter set, counters, notices and soft reset. -/

namespace Sys2Proof.Machine

/-! ### The manager slot (R168 to R171) -/

/-- BAD_REQUEST (R169): a frame whose request code names no management request; a bad header is
answered BAD_FORMAT first. A frame that was passed on while the agent waited, and is to be discarded by
R169, is discarded here (log entry 53). -/
def execBadRequest (s : State) : Result :=
  .next
    (match s.managePassed with
     | none => s
     | some (p, f) =>
       match Header.parse f.payload with
       | none => s.freeClassifier
       | some h =>
         if !s.managerSource h f.src then s.freeClassifier.discardManage p
         else if isRequestCode h.subcode then s
         else
           let t := s.freeClassifier.setManagerPort p
           t.reply h (if h.manageHeaderGood f.payload then .badRequest else .badFormat))

/-- The answer to an ATTACH, with the address then in the slot and the source address (R170, R182). -/
def attachAnswer (h : Header) (c : Code) (slot src : Addr) : Answer :=
  { hdr := { h.answerTo with code := c.value },
    body := be 6 slot.toNat ++ be 6 src.toNat ++ be 4 0 }

/-- The agent takes an ATTACH (R170). -/
def State.attach (s : State) (p : Port) (src : Addr) (h : Header) : State :=
  match s.agent.slot with
  | none =>
    { s with agent := { s.agent with slot := some { addr := src, port := p, seq := 0 } } }.answer
      (attachAnswer h .ok src src)
  | some sl =>
    if sl.addr = src then (s.setManagerPort p).answer (attachAnswer h .ok src src)
    else s.answer (attachAnswer h .managerHeld sl.addr src)

/-- ATTACH (R170). -/
def execAttach (s : State) : Result :=
  .next
    (match s.manageWaiting with
     | some (p, f, h) => if h.subcode = 0x01 then s.freeClassifier.attach p f.src h else s
     | none => s)

/-- A LOAN_EXPIRED notice on its way to the agent. -/
def AgentMsg.isExpiry : AgentMsg → Bool
  | .notice n => n.code == 0x08
  | .status _ | .drainAnswer .. | .resetFinished => false

/-- The LOAN_EXPIRED notices on their way are dropped, so that a manager that attaches later is not told
of expiries that came before (R47; log entry 51). -/
def State.dropExpiries (s : State) : State :=
  let r := settle (s.mail.lmToAgent.filter fun m => !AgentMsg.isExpiry m) s
  { r.2 with mail := { r.2.mail with lmToAgent := r.1 } }

/-- DETACH (R47, R171): answered, the slot is emptied and the list of requests in progress dropped. -/
def execDetach (s : State) : Result :=
  .next (s.manage 0x02 fun h _ t =>
    let u := t.reply h .ok
    State.dropExpiries { u with agent := { u.agent with slot := none, progress := [] } })

/-! ### Reading the part (R175) -/

/-- The part's name in 16 characters (R175, R182). -/
def partName : List Byte :=
  [0x41, 0x72, 0x77, 0x65, 0x6A, 0x6F, 0x20, 0x41, 0x44, 0x2D, 0x32, 0x34, 0x31, 0x36,
   Config.namePadding 0, Config.namePadding 1]

/-- The eleven table sizes of R175. -/
def tableSizes : List Nat := [512, 128, 1024, 256, 512, 1024, 64, 256, 8, 512, 64]

/-- The payload of IDENTIFY (R175, R182). -/
def identifyBytes : List Byte :=
  partName ++ [1, 24, 4, 0] ++ (allPorts.flatMap fun p => be 6 (Config.portAddress p).toNat) ++
  be 2 4096 ++ be 2 9000 ++ tableSizes.flatMap fun n => be 2 n

/-- IDENTIFY (R175). -/
def execIdentify (s : State) : Result :=
  .next (s.manage 0x03 fun h _ t => t.answer (h.data identifyBytes))

/-- A parameter set as a parameter block with every mask bit set (R182). -/
def Params.bytes (q : Params) : List Byte :=
  be 4 1023 ++ be 1 q.budget ++ be 1 q.spinUpLimit ++ be 1 q.pieceLimit ++ be 2 q.deliveryLimit ++
  be 1 q.allowance ++ be 1 q.gatherWindow ++ be 1 q.idleFactor ++ be 1 (if q.idleLong then 1 else 0) ++
  be 1 q.on ++ be 1 q.off ++ be 3 Config.carryMask.toNat ++ be 3 q.keep.toNat ++ be 3 0

/-- Bytes filled up with 0FFh to a length. -/
def padFF (n : Nat) (bs : List Byte) : List Byte := bs ++ List.replicate (n - bs.length) 0xFF

/-- The payload of READ_PARAMS (R175, R182). -/
def State.paramsBytes (s : State) : List Byte :=
  Params.bytes s.agent.params ++ be 1 s.arb.places.length ++ be 1 s.arb.waitOrder.length ++
  padFF 24 (s.arb.waitOrder.map fun b => BitVec.ofNat 8 b.val) ++
  match s.agent.slot with
  | some sl => be 1 sl.port.val ++ be 2 sl.seq.toNat
  | none => be 3 0

/-- READ_PARAMS (R175). -/
def execReadParams (s : State) : Result :=
  .next (s.manage 0x05 fun h _ t => t.answer (h.data t.paramsBytes))

/-! ### Parameters (R174) -/

/-- The tests of a SET_PARAMS, and what follows them (R174). -/
def State.setParams (s : State) (h : Header) (p : ParamBlock) : State :=
  if !s.agent.params.accepts p then s.reply h .paramConflict
  else if p.carries 0 then s.setWait (.budget h.tag p)
  else s.applyParams h.tag p

/-- SET_PARAMS (R174): a carried budget waits for the arbiter's answer (R113). -/
def execSetParams (s : State) : Result :=
  .next (s.manage 0x04 fun h body t =>
    match paramBlock body with
    | some p => t.setParams h p
    | none => t)

/-! ### Counters (R176) -/

/-- Every unit that is asked for its counters, in the order of the answer (R182). -/
def counterUnits : List CounterUnit := allPorts.map .port ++ allBays.map .bay

/-- The place of a unit in the answer to READ_COUNTERS (R182). -/
def CounterUnit.key : CounterUnit → Nat
  | .port p => p.val
  | .bay b => 4 + b.val

/-- What a port gives (R167, R182). R182 gives the four counters no order: that of R167's table is the
model's inference (DEDUCED, log entry 55). -/
def FarmPort.counterBytes (p : FarmPort) : List Byte :=
  be 4 p.admitted ++ be 4 p.rewoundBad ++ be 4 p.rewoundRoom ++ be 4 p.unknownSource ++
  [Config.linkByte p.up, Config.pauseByte p.pausing] ++ be 4 p.fill ++ be 4 p.roomFree ++
  be 2 p.claims

/-- What a drive unit gives (R106, R182). R182 gives the three counters no order: that of R106's table
is the model's inference (DEDUCED, log entry 55). -/
def DriveUnit.counterBytes (u : DriveUnit) : List Byte :=
  be 4 u.mediaErrors ++ be 4 u.timeouts ++ be 4 u.spinUps

/-- What a unit gives when it takes the counter question. -/
def State.counterBytes (s : State) : CounterUnit → List Byte
  | .port p => FarmPort.counterBytes (s.port p)
  | .bay b => DriveUnit.counterBytes (s.unit b)

/-- The counters a unit gives are set to 0 (R176). -/
def State.zeroCounters (s : State) : CounterUnit → State
  | .port p =>
    s.setPort p { s.port p with admitted := 0, rewoundBad := 0, rewoundRoom := 0, unknownSource := 0 }
  | .bay b => s.modUnit b fun u => { u with mediaErrors := 0, timeouts := 0, spinUps := 0 }

/-- READ_COUNTERS (R176): every unit is asked. -/
def execReadCounters (s : State) : Result :=
  .next (s.manage 0x06 fun h _ t => t.setWait (.counters h h.act counterUnits []))

/-- The agent has a unit's counters; with the last of them it answers (R176, R182). -/
def State.gotCounters (s : State) (h : Header) (zero : Bool) (asked : List CounterUnit)
    (got : Tbl (List Byte)) : State :=
  if asked.isEmpty then (s.setWait .free).answer (h.data (got.flatMap Prod.snd))
  else s.setWait (.counters h zero asked got)

/-- COUNTER_QUERY (R176): a unit takes the counter question. -/
def execCounterQuery (u : CounterUnit) (s : State) : Result :=
  .next
    (match s.agent.wait with
     | .counters h zero asked got =>
       if asked.contains u then
         (if zero then s.zeroCounters u else s).gotCounters h zero (asked.filter (· ≠ u))
           (got.set (CounterUnit.key u) (s.counterBytes u))
       else s
     | .free | .status | .budget .. | .drainCount .. | .forgetCount .. => s)

/-! ### Notices (R177) -/

/-- MANAGER_NOTICE (R177): the agent takes the oldest notice of a block, and then what stands behind
it up to the next notice (log entry 8). -/
def execManagerNotice (src : NoticeSource) (s : State) : Result :=
  .next
    (match src with
     | .loanManager =>
       match s.mail.lmToAgent with
       | .notice n :: rest =>
         let r := settle rest (s.takeNotice n)
         { r.2 with mail := { r.2.mail with lmToAgent := r.1 } }
       | _ => s
     | .nodeBlock =>
       match s.mail.nodeToAgent with
       | .notice n :: rest =>
         let r := settle rest (s.takeNotice n)
         { r.2 with mail := { r.2.mail with nodeToAgent := r.1 } }
       | _ => s
     | .driveUnit b =>
       match (s.bmail b).unitToAgent with
       | .notice n :: rest =>
         let r := settle rest (s.takeNotice n)
         r.2.setBmail b { r.2.bmail b with unitToAgent := r.1 }
       | _ => s
     | .service b =>
       match (s.bmail b).svcToAgent with
       | .notice n :: rest =>
         let r := settle rest (s.takeNotice n)
         r.2.setBmail b { r.2.bmail b with svcToAgent := r.1 }
       | _ => s)

/-! ### Soft reset (R178) -/

/-- The drains that stand in the list when a reset is taken (R178). -/
def drainIds (l : List Entry) : List Nat :=
  (l.filter fun e => match e.work with | .drain _ => true | .reset _ _ => false).map Entry.id

/-- An entry joins the list of requests in progress (R172). -/
def State.addEntry (s : State) (tag : BitVec 8) (w : EntryWork) : State :=
  { s with agent := { s.agent with
    progress := s.agent.progress ++ [{ id := s.agent.nextId, tag := tag, work := w }],
    nextId := s.agent.nextId + 1 } }

/-- A soft reset is listed and sent to the loan manager and the request unit (R178). -/
def State.startReset (s : State) (tag : BitVec 8) : State :=
  let t := s.addEntry tag (.reset (drainIds s.agent.progress) false)
  { t with agent := { t.agent with running := some { lmDone := false, ruDone := false } },
           mail := { t.mail with resetLm := true, resetRu := true } }

/-- RESET_PART (R172, R178). -/
def execResetPart (s : State) : Result :=
  .next (s.manage 0x07 fun h _ t =>
    if t.agent.running.isSome ∨ 64 ≤ t.agent.progress.length then t.reply h .busy
    else t.startReset h.tag)

/-- RESET_SHARE_FINISHED (R178): the oldest message of the block, where it is that report. -/
def execResetShareFinished (share : ResetShare) (s : State) : Result :=
  .next
    (match share with
     | .loanManager =>
       match s.mail.lmToAgent with
       | .resetFinished :: rest =>
         let r := settle rest (s.shareDone .loanManager)
         { r.2 with mail := { r.2.mail with lmToAgent := r.1 } }
       | _ => s
     | .requestUnit =>
       match s.mail.ruToAgent with
       | .resetFinished :: rest =>
         let r := settle rest (s.shareDone .requestUnit)
         { r.2 with mail := { r.2.mail with ruToAgent := r.1 } }
       | _ => s)

end Sys2Proof.Machine
end

