-- ==== Sys2Proof/Machine/VolumeRequests.lean ====
section
/-! DEFINITION. Management requests of the loan manager: volumes (R12 to R15, R17), loans (R37, R48) and
bay releases (R137). -/

namespace Sys2Proof.Machine

/-! ### Defining volumes (R12, R13) -/

/-- Check 1 of R12: the field values of a definition. -/
def DefineArgs.valuesGood (a : DefineArgs) : Bool :=
  a.volume ≤ 127 && (VolClass.ofValue a.cls).isSome &&
  1 ≤ a.segments.length && a.segments.length ≤ 4 &&
  a.segments.all (fun g => g.bay < 24 && 1 ≤ g.length) &&
  (a.term == 0 || (5 ≤ a.term && a.term ≤ 3600)) && (a.grace == 0 || a.grace ≤ 600)

/-- A segment of a request on the bay it names, with the disk of the drive unit there, healthy as it
stands when the request is taken (R12 checks 3 to 5, R13; log entry 15). -/
def State.placeSegment (s : State) (g : SegArg) : Option (Segment × Nat) :=
  if hb : g.bay < 24 then
    match s.healthyDisk ⟨g.bay, hb⟩ with
    | some d =>
      some ({ bay := ⟨g.bay, hb⟩, identity := d.serial, base := g.base, length := g.length,
              clear := .none }, d.capacity)
    | none => none
  else none

/-- Every segment of a request on its disk; none where a bay is not healthy (R12 check 3). -/
def State.placeSegments (s : State) : List SegArg → Option (List (Segment × Nat))
  | [] => some []
  | g :: t =>
    match s.placeSegment g, State.placeSegments s t with
    | some x, some xs => some (x :: xs)
    | _, _ => none

/-- Two segments overlap: the same disk, and a block in common (R8). -/
def overlaps (g h : Segment) : Bool :=
  g.identity == h.identity && decide (g.base < h.base + h.length) && decide (h.base < g.base + g.length)

/-- Whether a pair of a list overlaps. -/
def anyOverlap : List Segment → Bool
  | [] => false
  | g :: t => t.any (overlaps g) || anyOverlap t

/-- Every segment of every defined volume (R8). -/
def State.definedSegments (s : State) : List Segment := s.lm.volumes.flatMap fun e => e.2.segments

/-- Check 5 of R12. -/
def State.overlapping (s : State) (segs : List Segment) : Bool :=
  segs.any (fun g => s.definedSegments.any (overlaps g)) || anyOverlap segs

/-- The volume a definition makes (R13). -/
def DefineArgs.toVolume (a : DefineArgs) (c : VolClass) (segs : List Segment) : Volume :=
  { cls := c, wake := a.wake, term := if a.term = 0 then 60 else a.term,
    grace := if a.grace = 0 then 30 else a.grace, state := .idle, segments := segs, loanCount := 0,
    waitList := [] }

/-- The checks of R12 in order, and the new volume of R13 where all pass. -/
def State.judgeDefine (s : State) (a : DefineArgs) : Code ⊕ Volume :=
  if !DefineArgs.valuesGood a then .inl .badValue
  else if (s.volume? a.volume).isSome then .inl .volumeExists
  else
    match s.placeSegments a.segments, VolClass.ofValue a.cls with
    | some placed, some c =>
      if placed.any (fun x => decide (x.2 < x.1.base + x.1.length)) then .inl .outOfRange
      else if s.overlapping (placed.map Prod.fst) then .inl .overlap
      else .inr (DefineArgs.toVolume a c (placed.map Prod.fst))
    | _, _ => .inl .diskUnavailable

/-- The loan manager notes the disks of the bays of a new volume as it has read them, so that the volume is
not impaired at that moment (R13; log entry 15). -/
def State.noteDisks (s : State) (l : List Segment) : State :=
  l.foldl (fun t g =>
    t.setLmBay g.bay { t.lmBay g.bay with reported := t.healthyDisk g.bay }) s

/-- The loan manager takes a definition (R12, R13). -/
def State.define (s : State) (h : Header) (a : DefineArgs) : State :=
  match s.judgeDefine a with
  | .inl c => s.lmStatus h c
  | .inr v => ((s.setVolume a.volume v).noteDisks v.segments).lmStatus h .ok

/-- DEFINE_VOLUME (R12, R13). -/
def execDefineVolume (s : State) : Result :=
  .next (s.manage 0x10 fun h body t =>
    match defineArgs h.volume.toNat body with
    | some a => t.define h a
    | none => t)

/-! ### Deleting, clearing and reading volumes -/

/-- Remove a volume entry (R14). -/
def State.eraseVolume (s : State) (v : Nat) : State :=
  { s with lm := { s.lm with volumes := s.lm.volumes.erase v } }

/-- The loan manager takes a DELETE_VOLUME (R14). -/
def State.deleteVolume (s : State) (h : Header) (v : Nat) : State :=
  if 127 < v then s.lmStatus h .badValue
  else
    match s.volume? v with
    | none => s.lmStatus h .noSuchVolume
    | some vol =>
      if 0 < vol.loanCount ∨ vol.waitList ≠ [] ∨ vol.state = .clearing then s.lmStatus h .volumeInUse
      else (s.eraseVolume v).lmStatus h .ok

/-- DELETE_VOLUME (R14). -/
def execDeleteVolume (s : State) : Result :=
  .next (s.manage 0x11 fun h _ t => t.deleteVolume h h.volume.toNat)

/-- The loan manager takes a CLEAR_VOLUME (R15, R132). -/
def State.clearVolume (s : State) (h : Header) (v : Nat) : State :=
  if 127 < v then s.lmStatus h .badValue
  else
    match s.volume? v with
    | none => s.lmStatus h .noSuchVolume
    | some vol =>
      if vol.state ≠ .clearFailed then s.lmStatus h .wrongState
      else (s.toClearing v).lmStatus h .ok

/-- CLEAR_VOLUME (R15, R132). -/
def execClearVolume (s : State) : Result :=
  .next (s.manage 0x12 fun h _ t => t.clearVolume h h.volume.toNat)

/-- The segments of a READ_VOLUME answer; `pos` is P_i (R6, R17, R182). -/
def State.segmentBytes (s : State) : Nat → List Segment → List Byte
  | _, [] => []
  | pos, g :: t =>
    be 1 g.bay.val ++ [Config.flagByte (s.served g), g.clear.value, 0] ++ be 20 g.identity.toNat ++
    be 4 g.base ++ be 4 g.length ++ be 8 pos ++ State.segmentBytes s (pos + g.length) t

/-- The payload of READ_VOLUME (R17, R182). -/
def State.volumeBytes (s : State) (v : Volume) : List Byte :=
  [v.cls.value, Config.flagByte v.wake, v.state.value, Config.flagByte (s.impaired v)] ++
  be 2 v.term ++ be 2 v.grace ++ be 2 v.loanCount ++ be 2 v.waitList.length ++
  be 1 v.segments.length ++ be 3 0 ++ s.segmentBytes 0 v.segments

/-- The agent reads a volume (R17). -/
def State.readVolume (s : State) (h : Header) (v : Nat) : State :=
  if 127 < v then s.reply h .badValue
  else
    match s.volume? v with
    | none => s.reply h .noSuchVolume
    | some vol => s.answer (h.data (s.volumeBytes vol))

/-- READ_VOLUME (R17). -/
def execReadVolume (s : State) : Result :=
  .next (s.manage 0x13 fun h _ t => t.readVolume h h.volume.toNat)

/-! ### Loans -/

/-- The recall grace of a volume, in seconds (R3). -/
def State.graceOf (s : State) (v : Nat) : Nat :=
  match s.volume? v with
  | some vol => vol.grace
  | none => 0

/-- A HELD loan is recalled (R37). -/
def State.recall (s : State) (hd : BitVec 16) (l : Loan) : State :=
  (s.setLoan (handleIndex hd)
    { l with state := .recalling (s.now + secs (s.graceOf l.volume)) }).placeForNode l.holder
    (recallHeader hd l.volume (s.graceOf l.volume))

/-- The loan manager takes a RECALL_LOAN (R37). -/
def State.recallLoan (s : State) (h : Header) : State :=
  match s.currentLoan h.handle with
  | none => s.lmStatus h .noSuchLoan
  | some l =>
    match l.state with
    | .ending _ => s.lmStatus h .loanEnding
    | .recalling _ => s.lmStatus h .ok
    | .held => (s.recall h.handle l).lmStatus h .ok

/-- RECALL_LOAN (R37). -/
def execRecallLoan (s : State) : Result := .next (s.manage 0x18 fun h _ t => t.recallLoan h)

/-- The time a loan has left: its term in HELD, its grace in RECALLING (R48). -/
def Loan.remaining (l : Loan) (now : Nat) : Nat :=
  match l.state with
  | .held => secondsLeft now l.termDeadline
  | .recalling d => secondsLeft now d
  | .ending _ => 0

/-- The end reason of a loan, 0 where it has none (R180). -/
def Loan.reasonByte (l : Loan) : Byte :=
  match l.state with
  | .ending r => r.value
  | .held | .recalling _ => 0

/-- The answer to READ_LOAN on a free entry (R48, R182). -/
def freeLoanAnswer (h : Header) (gen : Nat) : Answer := h.data (be 1 gen ++ be 15 0)

/-- The answer to READ_LOAN on an entry in use (R48, R182). -/
def State.loanAnswer (s : State) (h : Header) (i : Nat) (l : Loan) : Answer :=
  { hdr := { h.answerTo with code := Code.ok.value, detail := l.state.value,
                             handle := handleOf i (s.generation i) },
    body := be 1 (s.generation i) ++ [l.mode.value, BitVec.ofNat 8 l.volume, Loan.reasonByte l] ++
      be 6 (s.nodeAddr l.holder).toNat ++ be 2 l.outstanding ++ be 4 (Loan.remaining l s.now) }

/-- The agent reads a loan entry (R48). -/
def State.readLoan (s : State) (h : Header) (i : Nat) : State :=
  if 1023 < i then s.reply h .badValue
  else
    match s.loan? i with
    | none => s.answer (freeLoanAnswer h (s.generation i))
    | some l => s.answer (s.loanAnswer h i l)

/-- READ_LOAN (R48). -/
def execReadLoan (s : State) : Result := .next (s.manage 0x19 fun h _ t => t.readLoan h h.valueA.toNat)

/-! ### Releasing a bay -/

/-- The loan manager takes a RELEASE_BAY (R137). -/
def State.releaseBay (s : State) (h : Header) : State :=
  match bayOf h with
  | none => s.lmStatus h .badValue
  | some b =>
    if s.releaseBarred b then s.lmStatus h .wrongState
    else if !h.act && s.bayLent b then s.lmStatus h .volumeInUse
    else (s.beginRelease b).lmStatus h .ok

/-- RELEASE_BAY (R137). -/
def execReleaseBay (s : State) : Result := .next (s.manage 0x2C fun h _ t => t.releaseBay h)

end Sys2Proof.Machine
end

