-- ==== Sys2Proof/Machine/NodeRequests.lean ====
section
/-! DEFINITION. Management requests of the node block (08_render_nodes.md): ADMIT_NODE, READMIT_NODE,
DRAIN_NODE, FORGET_NODE, READ_NODE, and the request unit's answer with a node's outstanding count. -/

namespace Sys2Proof.Machine

/-! ### Admitting and readmitting (R145, R150) -/

/-- A group address: the lowest bit of its first byte is set (R145). -/
def isGroupAddress (a : Addr) : Bool := a.getLsbD 40

/-- The node block takes an ADMIT_NODE (R145). -/
def State.admitNode (s : State) (h : Header) (a : Addr) : State :=
  if a = 0 ∨ isGroupAddress a then s.nodeStatus h .badValue
  else if (s.nodeByAddr a).isSome then s.nodeStatus h .alreadyPresent
  else
    match s.nodes.lowestFree 512 with
    | none => s.nodeStatus h .tableFull
    | some n =>
      (s.setNode n { addr := a, state := .admitted, lastPort := none, outstanding := 0, tags := [],
                     loanWait := 0 }).nodeStatus h .ok

/-- ADMIT_NODE (R145). -/
def execAdmitNode (s : State) : Result := .next (s.manage 0x20 fun h _ t => t.admitNode h h.offset)

/-- The node block takes a READMIT_NODE (R150). -/
def State.readmitNode (s : State) (h : Header) (a : Addr) : State :=
  match s.nodeByAddr a with
  | none => s.nodeStatus h .noSuchNode
  | some (n, e) =>
    match e.state with
    | .halted | .drained => (s.setNode n { e with state := .admitted }).nodeStatus h .ok
    | .admitted => s.nodeStatus h .ok
    | .draining => s.nodeStatus h .wrongState

/-- READMIT_NODE (R150). -/
def execReadmitNode (s : State) : Result :=
  .next (s.manage 0x21 fun h _ t => t.readmitNode h h.offset)

/-! ### Draining and forgetting (R151 to R153) -/

/-- The node block takes a DRAIN_NODE (R151); an ADMITTED node becomes DRAINING and its outstanding
count is asked for. -/
def State.drainNode (s : State) (h : Header) (a : Addr) : State :=
  match s.nodeByAddr a with
  | none => s.nodeStatus h .noSuchNode
  | some (n, e) =>
    match e.state with
    | .halted => s.nodeStatus h .wrongState
    | .drained => s.nodeStatus h .ok
    | .draining => s.addEntry h.tag (.drain a)
    | .admitted => (s.setNode n { e with state := .draining }).setWait (.drainCount h.tag a n)

/-- DRAIN_NODE (R151, R172). -/
def execDrainNode (s : State) : Result :=
  .next (s.manage 0x22 fun h _ t =>
    if 64 ≤ t.agent.progress.length then t.reply h .busy else t.drainNode h h.offset)

/-- The node block takes a FORGET_NODE (R152); the outstanding count of a HALTED or DRAINED node is
asked for. -/
def State.forgetNode (s : State) (h : Header) (a : Addr) : State :=
  match s.nodeByAddr a with
  | none => s.nodeStatus h .noSuchNode
  | some (n, e) =>
    match e.state with
    | .admitted | .draining => s.nodeStatus h .nodeBusy
    | .halted | .drained => s.setWait (.forgetCount h.tag a n)

/-- FORGET_NODE (R152). -/
def execForgetNode (s : State) : Result :=
  .next (s.manage 0x23 fun h _ t => t.forgetNode h h.offset)

/-- The header of a DRAIN_NODE or FORGET_NODE, as its answer repeats it (R182). -/
def nodeRequestHeader (code : Byte) (tag : BitVec 8) (a : Addr) : Header :=
  { Header.blank with kind := 0x30, subcode := code, tag := tag, offset := a }

/-- A drain proceeds on the outstanding count (R80, R151). A node that has been halted meanwhile is
answered WRONG_STATE (log entry 47). -/
def State.drainProceeds (s : State) (tag : BitVec 8) (a : Addr) (n : Nat) : State :=
  let h := nodeRequestHeader 0x22 tag a
  match s.node? n with
  | none => s.nodeStatus h .wrongState
  | some e =>
    match e.state with
    | .draining | .drained =>
      if e.outstanding = 0 then (s.setNode n { e with state := .drained }).nodeStatus h .ok
      else (s.setWait .free).addEntry tag (.drain a)
    | .admitted | .halted => s.nodeStatus h .wrongState

/-- A forget proceeds on the outstanding count: with 0 the loan step is taken and the entry freed
(R152, R153). -/
def State.forgetProceeds (s : State) (tag : BitVec 8) (a : Addr) (n : Nat) : State :=
  let h := nodeRequestHeader 0x23 tag a
  match s.node? n with
  | none => s.nodeStatus h .noSuchNode
  | some e =>
    if e.outstanding = 0 then
      let t := s.forgetLoanStep n
      { t with nodes := t.nodes.erase n }.nodeStatus h .ok
    else s.nodeStatus h .nodeBusy

/-- The request unit answers a question for a node's count when no claim is in flight; its earlier
reports of that node are taken first (R56, R151). -/
def State.countReady (s : State) (n : Nat) : Bool :=
  s.ru.admitting.isNone && !s.mail.quietNodes.contains n

/-- OUTSTANDING_COUNT_ANSWER (R151, R152). -/
def execOutstandingCountAnswer (s : State) : Result :=
  .next
    (match s.agent.wait with
     | .drainCount tag a n => if s.countReady n then s.drainProceeds tag a n else s
     | .forgetCount tag a n => if s.countReady n then s.forgetProceeds tag a n else s
     | .free | .status | .budget .. | .counters .. => s)

/-! ### Reading a node (R154) -/

/-- The tag entry of a READ_NODE answer: kind code and request state, or 0 and 0FFh (R182). -/
def State.tagEntry (s : State) (n : Nat) (e : Node) (t : Nat) : List Byte :=
  if e.tags.contains (BitVec.ofNat 8 t) then
    match s.requestByTag n (BitVec.ofNat 8 t) with
    | some (_, q) => [q.kind.code, q.state.value]
    | none => [0, 0xFF]
  else [0, 0xFF]

/-- The handles of a node's loans, in ascending entry order (R154, R182). -/
def State.nodeHandles (s : State) (n : Nat) : List (BitVec 16) :=
  (s.lm.loans.numbersWhere fun l => l.holder == n).map fun i => handleOf i (s.generation i)

/-- The volumes a node waits for, in record order (R154, R182). -/
def State.nodeWaits (s : State) (n : Nat) : List Nat :=
  (s.lm.waits.filter fun e => e.2.node == n).map fun e => e.2.volume

/-- Drains held for a node (R154). -/
def State.drainsHeld (s : State) (a : Addr) : Nat := (s.agent.progress.filter fun e => e.drains a).length

/-- The payload of READ_NODE (R154, R182). -/
def State.nodeBytes (s : State) (n : Nat) (e : Node) : List Byte :=
  [e.state.value, match e.lastPort with | some p => BitVec.ofNat 8 p.val | none => 0xFF] ++
  be 1 e.outstanding ++ be 1 e.loanWait ++ be 1 (s.drainsHeld e.addr) ++ be 3 0 ++
  ((List.range 16).flatMap fun t => s.tagEntry n e t) ++
  (((s.nodeHandles n).take 8).flatMap fun h => be 2 h.toNat) ++
  be (16 - 2 * ((s.nodeHandles n).take 8).length) 0 ++
  padFF 8 (((s.nodeWaits n).take 8).map fun v => BitVec.ofNat 8 v)

/-- The node block takes a READ_NODE (R154). -/
def State.readNode (s : State) (h : Header) (a : Addr) : State :=
  match s.nodeByAddr a with
  | none => s.nodeStatus h .noSuchNode
  | some (n, e) => (s.setWait .status).nodeTellAgent (.status (h.data (s.nodeBytes n e)))

/-- READ_NODE (R154). -/
def execReadNode (s : State) : Result := .next (s.manage 0x24 fun h _ t => t.readNode h h.offset)

end Sys2Proof.Machine
end

