-- ==== Sys2Proof/Machine/DiskRequests.lean ====
section
/-! DEFINITION. Management requests of the drive units and of the bay service controls: WAKE_DISK,
SLEEP_DISK, ACCEPT_DISK, READ_DISK and ACK_SERVICE. -/

namespace Sys2Proof.Machine

/-! ### Disk requests (R104, R105) -/

/-- A drive unit takes a WAKE_DISK (R104). -/
def State.wakeDisk (s : State) (h : Header) (b : Bay) : State :=
  if (s.unit b).state = .standby then (s.wake b).unitStatus b (h.status .ok)
  else s.unitStatus b (h.status .ok)

/-- WAKE_DISK (R104). -/
def execWakeDisk (s : State) : Result := .next (s.manage 0x28 fun h _ t => t.onBay h fun b u => u.wakeDisk h b)

/-- A READY unit with nothing queued, in hand, staged or listed (R104). -/
def DriveUnit.maySleep (u : DriveUnit) : Bool :=
  u.state == .ready && u.queue.isEmpty && u.hand.isNone && u.staging.isNone && u.engine.list.isEmpty

/-- A drive unit takes a SLEEP_DISK (R104). -/
def State.sleepDisk (s : State) (h : Header) (b : Bay) : State :=
  if DriveUnit.maySleep (s.unit b) then (s.spinDown b).unitStatus b (h.status .ok)
  else if (s.unit b).state = .standby then s.unitStatus b (h.status .ok)
  else s.unitStatus b (h.status .diskBusy)

/-- SLEEP_DISK (R104). -/
def execSleepDisk (s : State) : Result :=
  .next (s.manage 0x29 fun h _ t => t.onBay h fun b u => u.sleepDisk h b)

/-- A drive unit takes an ACCEPT_DISK: in FAULT the link restarts, the disk is identified again and the
change is reported to the loan manager (R105). -/
def State.acceptDisk (s : State) (h : Header) (b : Bay) : State :=
  if (s.unit b).state = .fault then
    ((s.enterIdentifying b).tellLm b (.health .identifying none false)).unitStatus b (h.status .ok)
  else s.unitStatus b (h.status .wrongState)

/-- ACCEPT_DISK (R105). -/
def execAcceptDisk (s : State) : Result :=
  .next (s.manage 0x2A fun h _ t => t.onBay h fun b u => u.acceptDisk h b)

/-! ### Reading a drive unit (R106, R114, R133) -/

/-- Whether a bay holds a place at the arbiter, and its position in the wait order, 0 if none (R114). -/
def State.waitPosition (s : State) (b : Bay) : Nat :=
  if s.arb.waitOrder.contains b then s.arb.waitOrder.idxOf b + 1 else 0

/-- The time a gather timer has left, in steps of 10 ms (R133). -/
def Engine.gatherLeft (e : Engine) (now : Nat) : Nat :=
  match e.state with
  | .gathering d => (d - now) / tens 1
  | .empty | .sweeping => 0

/-- The sweep position READ_DISK returns (R122, R133); 0 outside SWEEPING. -/
def Engine.shownPosition (e : Engine) : Nat :=
  match e.state with
  | .sweeping => e.position.getD 0
  | .empty | .gathering _ => 0

/-- An extent as READ_DISK returns it (R182). -/
def Extent.bytes (x : Extent) : List Byte :=
  be 1 x.vol ++ be 1 x.seg ++ [if x.current then 0 else 1, 0] ++ be 4 x.start ++ be 4 x.length ++
  be 4 x.progress

/-- The clear engine as READ_DISK returns it, with the length of the pending-clear queue (R133, R182). -/
def engineBytes (e : Engine) (now pendingClear : Nat) : List Byte :=
  [e.state.value, Config.flagByte e.closed] ++ be 1 (Engine.gatherLeft e now) ++ be 2 pendingClear ++
  be 4 (Engine.shownPosition e) ++ be 1 e.list.length ++ e.list.flatMap Extent.bytes

/-- The payload of READ_DISK (R106, R114, R133, R182). -/
def State.diskBytes (s : State) (b : Bay) : List Byte :=
  let u := s.unit b
  [u.state.value, Config.flagByte (s.arb.places.contains b)] ++ be 1 (s.waitPosition b) ++
  [Config.flagByte u.params.keepSpinning] ++ identityBytes (u.disk.map Disk.serial) ++
  be 4 (match u.disk with | some d => d.capacity | none => 0) ++ be 1 u.queue.length ++
  [match u.hand with | some j => j.kind.code | none => 0] ++
  be 2 (match u.staging with | some st => st.blocks.length | none => 0) ++ be 1 u.pauseCounter ++
  [Config.flagByte u.idleTimer.isSome] ++
  be 4 (match u.idleTimer with | some d => secondsLeft s.now d | none => 0) ++
  DriveUnit.counterBytes u ++ engineBytes u.engine s.now (s.lmBay b).pendingClear.length

/-- READ_DISK (R106, R114, R133). -/
def execReadDisk (s : State) : Result :=
  .next (s.manage 0x2B fun h _ t => t.onBay h fun b u => u.unitStatus b (h.data (u.diskBytes b)))

/-! ### Acknowledging a press (R135) -/

/-- The service controls take an ACK_SERVICE (R135). -/
def State.ackService (s : State) (h : Header) (b : Bay) : State :=
  (s.setControls b ({ s.controls b with pressedFlag := false }.outputs (s.unit b).state)).svcStatus b
    (h.status .ok)

/-- ACK_SERVICE (R135). -/
def execAckService (s : State) : Result :=
  .next (s.manage 0x2D fun h _ t => t.onBay h fun b u => u.ackService h b)

end Sys2Proof.Machine
end

