-- ==== Sys2Proof/Machine/PowerOn.lean ====
section
/-! DEFINITION. The command POWER_ON (R179): every block takes its power-on state, with the presence,
button and link inputs as they stand. -/

namespace Sys2Proof

/-- A drive unit at power-on: IDENTIFYING where a disk is present, else ABSENT (R82, R86, R179). DEDUCED,
unsafe (log entry 58): R82 and R179 have both timers stopped at power-on, and R86 issues IDENTIFY and starts
the command timer on the entry into IDENTIFYING at power-on; the model follows R86 where a disk is present,
so that its command timer runs, and the idle timer alone is stopped. -/
def DriveUnit.powerOn (present : Bool) : DriveUnit :=
  if present then { DriveUnit.absent with state := .identifying }.issue .identify 0
  else DriveUnit.absent

/-- Service controls at power-on (R134, R179). -/
def Service.powerOn (present button : Bool) : Service :=
  { Service.absent with buttonDown := button, present := present }.outputs
    (DriveUnit.powerOn present).state

namespace Machine

/-- The part after power-on (R179), with the commands that wait. -/
def State.powerOn (present buttons : BitVec 24) (links : BitVec 4) (pending : List Instr) : State :=
  { State.reset with
    ports := allPorts.map fun p => (p.val, FarmPort.powerOn (links.getLsbD p.val))
    units := allBays.map fun b => (b.val, DriveUnit.powerOn (present.getLsbD b.val))
    svc := allBays.map fun b =>
      (b.val, Service.powerOn (present.getLsbD b.val) (buttons.getLsbD b.val))
    pending := pending }

/-- POWER_ON (R179). -/
def execPowerOn (present buttons : BitVec 24) (links : BitVec 4) (s : State) : Result :=
  .next (State.powerOn present buttons links s.pending)

end Machine

end Sys2Proof
end

