-- ==== Sys2Proof/Machine/Clock.lean ====
section
/-! DEFINITION. What a step does on an empty queue: time passes, as far as the timers allow (R33, R72,
R96, R101, R112, R121, R136, R161, R163; log entry 1). -/

namespace Sys2Proof

/-- The moment by which the expiry of a timer is taken: its deadline and its resolution. -/
def latestOf (timer : Option Nat) (resolution : Nat) : List Nat := (timer.map (· + resolution)).toList

/-- The loan timer that acts: the term in HELD, the grace in RECALLING (R33). -/
def Loan.timer (l : Loan) : Option Nat :=
  match l.state with
  | .held => some l.termDeadline
  | .recalling d => some d
  | .ending _ => none

/-- The delivery timer of a staged piece (R72). -/
def Piece.timer (p : Piece) : Option Nat :=
  match p.state with
  | .staged _ _ d => some d
  | .queued | .active | .done | .failed _ | .withdrawn _ => none

/-- The gather timer of an engine (R121). -/
def Engine.timer (e : Engine) : Option Nat :=
  match e.state with
  | .gathering d => some d
  | .empty | .sweeping => none

/-- The timers of a drive unit: command, spin-up limit, idle and gather. -/
def DriveUnit.latest (u : DriveUnit) : List Nat :=
  latestOf u.commandTimer (tens 1) ++ latestOf u.spinUpTimer (tens 1) ++
  latestOf u.idleTimer (tens 1) ++ latestOf u.engine.timer (tens 1)

/-- The timers of a farm port: pause repeat, 1 ms, and a received pause, which ends at its moment. -/
def FarmPort.latest (p : FarmPort) : List Nat :=
  latestOf p.repeatTimer msec ++ latestOf p.receivedPause 0

namespace Machine

/-- The moments by which the expiries of the running timers are taken. -/
def State.latest (s : State) : List Nat :=
  (s.lm.waits.map fun e => e.2.deadline + tens 1) ++
  (s.lm.loans.flatMap fun e => latestOf e.2.timer (tens 1)) ++
  (s.ru.pieces.flatMap fun e => latestOf e.2.timer (tens 1)) ++
  (s.units.flatMap fun e => e.2.latest) ++
  (s.svc.flatMap fun e => latestOf e.2.holdTimer (tens 1)) ++
  s.ports.flatMap fun e => e.2.latest

/-- Time passes: 1 ms, or less where a timer's expiry would come too late; not at all while an expiry
is at its latest moment. -/
def State.tick (s : State) : State :=
  { s with now := max s.now (s.latest.foldl min (s.now + msec)) }

end Machine

end Sys2Proof
end

