-- ==== Sys2Proof/Machine/Dispatch.lean ====
section
/-! DEFINITION. The meaning of every command, one arm per constructor. -/

namespace Sys2Proof.Machine

def exec (i : Instr) (s : State) : Host.Outcome State Fault Refusal :=
  match i with
  | .powerOn present buttons links => Sys2Proof.Machine.execPowerOn present buttons links s
  | .linkDown p => Sys2Proof.Machine.execLinkDown p s
  | .linkUp p => Sys2Proof.Machine.execLinkUp p s
  | .ingressFrame p f => Sys2Proof.Machine.execIngressFrame p f s
  | .pauseRepeatExpiry p => Sys2Proof.Machine.execPauseRepeatExpiry p s
  | .receivedPause p time good => Sys2Proof.Machine.execReceivedPause p time good s
  | .receivedPauseEnd p => Sys2Proof.Machine.execReceivedPauseEnd p s
  | .transmissionEnd p => Sys2Proof.Machine.execTransmissionEnd p s
  | .thresholdsTaken p => Sys2Proof.Machine.execThresholdsTaken p s
  | .classifyFrame => Sys2Proof.Machine.execClassifyFrame s
  | .borrow => Sys2Proof.Machine.execBorrow s
  | .renew => Sys2Proof.Machine.execRenew s
  | .returnLoan => Sys2Proof.Machine.execReturnLoan s
  | .read => Sys2Proof.Machine.execRead s
  | .write => Sys2Proof.Machine.execWrite s
  | .check => Sys2Proof.Machine.execCheck s
  | .abort => Sys2Proof.Machine.execAbort s
  | .loanClaim => Sys2Proof.Machine.execLoanClaim s
  | .claimAnswer => Sys2Proof.Machine.execClaimAnswer s
  | .pieceAppend b => Sys2Proof.Machine.execPieceAppend b s
  | .pieceWithdrawal b => Sys2Proof.Machine.execPieceWithdrawal b s
  | .pieceStartedReport b => Sys2Proof.Machine.execPieceStartedReport b s
  | .pieceStagedReport b => Sys2Proof.Machine.execPieceStagedReport b s
  | .pieceDoneReport b => Sys2Proof.Machine.execPieceDoneReport b s
  | .pieceFailedReport b => Sys2Proof.Machine.execPieceFailedReport b s
  | .pieceWithdrawnReport b => Sys2Proof.Machine.execPieceWithdrawnReport b s
  | .withdrawalAnswer b => Sys2Proof.Machine.execWithdrawalAnswer b s
  | .egressRoom p => Sys2Proof.Machine.execEgressRoom p s
  | .deliveryTimerExpiry piece => Sys2Proof.Machine.execDeliveryTimerExpiry piece s
  | .loanQuiet => Sys2Proof.Machine.execLoanQuiet s
  | .waitTimerExpiry record => Sys2Proof.Machine.execWaitTimerExpiry record s
  | .termExpiry entry => Sys2Proof.Machine.execTermExpiry entry s
  | .graceExpiry entry => Sys2Proof.Machine.execGraceExpiry entry s
  | .healthReport b => Sys2Proof.Machine.execHealthReport b s
  | .extentDone b => Sys2Proof.Machine.execExtentDone b s
  | .extentFailed b => Sys2Proof.Machine.execExtentFailed b s
  | .pendingClearReport b => Sys2Proof.Machine.execPendingClearReport b s
  | .clearExtent b => Sys2Proof.Machine.execClearExtent b s
  | .gatherTimerExpiry b => Sys2Proof.Machine.execGatherTimerExpiry b s
  | .stagingEmptied b => Sys2Proof.Machine.execStagingEmptied b s
  | .identifyCompletion b number o => Sys2Proof.Machine.execIdentifyCompletion b number o s
  | .fetchCompletion b number o => Sys2Proof.Machine.execFetchCompletion b number o s
  | .storeCompletion b number o => Sys2Proof.Machine.execStoreCompletion b number o s
  | .probeCompletion b number o => Sys2Proof.Machine.execProbeCompletion b number o s
  | .zeroCompletion b number o => Sys2Proof.Machine.execZeroCompletion b number o s
  | .spinUpCompletion b number o => Sys2Proof.Machine.execSpinUpCompletion b number o s
  | .spinDownCompletion b number o => Sys2Proof.Machine.execSpinDownCompletion b number o s
  | .commandTimerExpiry b => Sys2Proof.Machine.execCommandTimerExpiry b s
  | .spinUpLimitExpiry b => Sys2Proof.Machine.execSpinUpLimitExpiry b s
  | .linkLost b => Sys2Proof.Machine.execLinkLost b s
  | .idleTimerExpiry b => Sys2Proof.Machine.execIdleTimerExpiry b s
  | .spinUpGrant b => Sys2Proof.Machine.execSpinUpGrant b s
  | .spinUpWanted b => Sys2Proof.Machine.execSpinUpWanted b s
  | .waitWithdrawn b => Sys2Proof.Machine.execWaitWithdrawn b s
  | .grantDeclined b => Sys2Proof.Machine.execGrantDeclined b s
  | .spinUpEnded b => Sys2Proof.Machine.execSpinUpEnded b s
  | .budgetChange => Sys2Proof.Machine.execBudgetChange s
  | .pauseAllowanceChange b => Sys2Proof.Machine.execPauseAllowanceChange b s
  | .keepSpinningChange b => Sys2Proof.Machine.execKeepSpinningChange b s
  | .buttonPress b => Sys2Proof.Machine.execButtonPress b s
  | .buttonRelease b => Sys2Proof.Machine.execButtonRelease b s
  | .holdTimerExpiry b => Sys2Proof.Machine.execHoldTimerExpiry b s
  | .serviceOverride b => Sys2Proof.Machine.execServiceOverride b s
  | .releaseTaken b => Sys2Proof.Machine.execReleaseTaken b s
  | .releaseEndReport b => Sys2Proof.Machine.execReleaseEndReport b s
  | .presenceLost b => Sys2Proof.Machine.execPresenceLost b s
  | .presenceGained b => Sys2Proof.Machine.execPresenceGained b s
  | .nodeQuiet => Sys2Proof.Machine.execNodeQuiet s
  | .outstandingCountAnswer => Sys2Proof.Machine.execOutstandingCountAnswer s
  | .managerNotice from_ => Sys2Proof.Machine.execManagerNotice from_ s
  | .resetShareFinished share => Sys2Proof.Machine.execResetShareFinished share s
  | .badRequest => Sys2Proof.Machine.execBadRequest s
  | .attach => Sys2Proof.Machine.execAttach s
  | .detach => Sys2Proof.Machine.execDetach s
  | .identify => Sys2Proof.Machine.execIdentify s
  | .setParams => Sys2Proof.Machine.execSetParams s
  | .readParams => Sys2Proof.Machine.execReadParams s
  | .readCounters => Sys2Proof.Machine.execReadCounters s
  | .counterQuery u => Sys2Proof.Machine.execCounterQuery u s
  | .resetPart => Sys2Proof.Machine.execResetPart s
  | .loanManagerReset => Sys2Proof.Machine.execLoanManagerReset s
  | .requestUnitReset => Sys2Proof.Machine.execRequestUnitReset s
  | .defineVolume => Sys2Proof.Machine.execDefineVolume s
  | .deleteVolume => Sys2Proof.Machine.execDeleteVolume s
  | .clearVolume => Sys2Proof.Machine.execClearVolume s
  | .readVolume => Sys2Proof.Machine.execReadVolume s
  | .recallLoan => Sys2Proof.Machine.execRecallLoan s
  | .readLoan => Sys2Proof.Machine.execReadLoan s
  | .releaseBay => Sys2Proof.Machine.execReleaseBay s
  | .admitNode => Sys2Proof.Machine.execAdmitNode s
  | .readmitNode => Sys2Proof.Machine.execReadmitNode s
  | .drainNode => Sys2Proof.Machine.execDrainNode s
  | .forgetNode => Sys2Proof.Machine.execForgetNode s
  | .readNode => Sys2Proof.Machine.execReadNode s
  | .wakeDisk => Sys2Proof.Machine.execWakeDisk s
  | .sleepDisk => Sys2Proof.Machine.execSleepDisk s
  | .acceptDisk => Sys2Proof.Machine.execAcceptDisk s
  | .readDisk => Sys2Proof.Machine.execReadDisk s
  | .ackService => Sys2Proof.Machine.execAckService s
  | .portLinkChange p => Sys2Proof.Machine.execPortLinkChange p s
  | .timerLimitChange t => Sys2Proof.Machine.execTimerLimitChange t s

end Sys2Proof.Machine
end

