-- ==== Sys2Proof/Safety.lean ====
section
/-! DEFINITION. The terms claims are made in: which parts of the state a step leaves unchanged, and the
laws of the device as invariants. -/

namespace Sys2Proof.Machine

/-! ### Frames -/

/-- The parts of the state. -/
inductive Part where
  | now | ports | cls | nodes | lm | ru | units | svc | arb | agent | bayMail | portMail | mail | pending
  deriving DecidableEq, Repr

/-- A part is the same in two states. -/
def Part.same (a : Part) (s t : State) : Prop :=
  match a with
  | .now => t.now = s.now
  | .ports => t.ports = s.ports
  | .cls => t.cls = s.cls
  | .nodes => t.nodes = s.nodes
  | .lm => t.lm = s.lm
  | .ru => t.ru = s.ru
  | .units => t.units = s.units
  | .svc => t.svc = s.svc
  | .arb => t.arb = s.arb
  | .agent => t.agent = s.agent
  | .bayMail => t.bayMail = s.bayMail
  | .portMail => t.portMail = s.portMail
  | .mail => t.mail = s.mail
  | .pending => t.pending = s.pending

/-- Every part but those listed is unchanged. -/
def UnchangedBut (l : List Part) (s t : State) : Prop := ∀ a, a ∉ l → a.same s t

/-- Every bay but one is unchanged: its drive unit, its controls, its channels and what the loan
manager keeps for it. -/
def OtherBaysUnchanged (b : Bay) (s t : State) : Prop :=
  ∀ c, c ≠ b → t.unit c = s.unit c ∧ t.controls c = s.controls c ∧ t.bmail c = s.bmail c ∧
    t.lmBay c = s.lmBay c

/-- Every farm port but one is unchanged, with its channels. -/
def OtherPortsUnchanged (p : Port) (s t : State) : Prop :=
  ∀ q, q ≠ p → t.port q = s.port q ∧ t.pmail q = s.pmail q

/-- Only the listed parts change, and of the bays only one. -/
def OnlyBay (l : List Part) (b : Bay) (s t : State) : Prop :=
  UnchangedBut l s t ∧ OtherBaysUnchanged b s t

/-! ### Stops -/

/-- A completion that R95 says a drive port never reports: a FETCH that brings another number of blocks
than it asked for, or a media error outside the blocks of the command. -/
def ImpossibleCompletion (c : Instr) (s : State) : Prop :=
  match c with
  | .fetchCompletion b n o =>
    ∃ start len j, s.flying b n = some (.fetch start len) ∧ (s.unit b).hand = some j ∧
      ((∃ bs, o = .good bs ∧ bs.length ≠ len) ∨ ∃ bs, o = .media bs ∧ len ≤ bs.length)
  | .storeCompletion b n o =>
    ∃ start data j k, s.flying b n = some (.store start data) ∧ (s.unit b).hand = some j ∧
      o = .media k ∧ data.length ≤ k
  | .probeCompletion b n o =>
    ∃ start len j k, s.flying b n = some (.probe start len) ∧ (s.unit b).hand = some j ∧
      o = .media k ∧ len ≤ k
  | .zeroCompletion b n o =>
    ∃ start len x k, s.flying b n = some (.zero start len) ∧ (s.unit b).engine.worked = some x ∧
      o = .media k ∧ len ≤ k
  | _ => False

/-! ### Frames that go out and messages to the agent -/

/-- The transmitter has nothing to send before the egress queue, and may send from it (R161, R163). -/
def FarmPort.clear (p : FarmPort) : Prop :=
  p.up = true ∧ p.wire = .idle ∧ p.pauseOut = [] ∧ p.receivedPause = none

/-- One frame is added to what a port sends: to the tail of its egress queue, where an idle transmitter
begins it. -/
def FarmPort.Sends (p q : FarmPort) (f : OutFrame) : Prop :=
  q.egress = p.egress ++ [f] ∧ (FarmPort.clear p → q.wire = .frame)

/-- The oldest frame has left a port's ingress buffer, with `rest` behind it, and the pause state has
been re-examined at the fill then (R157, R161): a PAUSING port at or below OFF is OPEN, its repeat timer
stopped and a pause frame of time 0 on the wire or waiting for it, and a fill that reaches no threshold
changes nothing of it. Claims and the count of unknown sources are left to the statements. -/
def FarmPort.FrameTaken (p q : FarmPort) (rest : List InFrame) : Prop :=
  let fill := (rest.map InFrame.length).sum
  q.ingress = rest ∧ q.egress = p.egress ∧ q.up = p.up ∧ q.on = p.on ∧ q.off = p.off ∧
  q.receivedPause = p.receivedPause ∧ q.admitted = p.admitted ∧ q.rewoundBad = p.rewoundBad ∧
  q.rewoundRoom = p.rewoundRoom ∧
  (p.up = true → p.pausing = true → fill ≤ p.off * 1024 →
    q.pausing = false ∧ q.repeatTimer = none ∧
    (p.wire = .idle → p.pauseOut = [] → q.wire = .pause 0 ∧ q.pauseOut = []) ∧
    (p.wire ≠ .idle → q.wire = p.wire ∧ q.pauseOut = p.pauseOut ++ [0])) ∧
  (p.up = false ∨ (p.pausing = true ∧ p.off * 1024 < fill) ∨
      (p.pausing = false ∧ fill ≤ p.on * 1024) →
    q.pausing = p.pausing ∧ q.repeatTimer = p.repeatTimer ∧ q.wire = p.wire ∧
    q.pauseOut = p.pauseOut)

/-- The reset entries that the list of requests in progress can be rid of, and the entries that stay
(R178), with `ready` in the list's order. -/
def Entry.Splits (l ready kept : List Entry) : Prop :=
  ready = l.filter (fun e => e.resetReady l) ∧ kept = l.filter (fun e => !e.resetReady l)

/-- The OK answers to reset entries (R178, R182). -/
def resetAnswers (l : List Entry) : List Answer :=
  l.map fun e => { hdr := { Header.blank with kind := 0x31, subcode := 0x07, tag := e.tag }, body := [] }

/-- The answers with a code to the entries of drains of a node (R149, R151, R182). -/
def drainAnswers (l : List Entry) (x : Addr) (c : Code) : List Answer :=
  l.map fun e => { hdr := { Header.blank with kind := 0x31, subcode := 0x22, tag := e.tag, offset := x,
                                              code := c.value }, body := [] }

/-- What stands at the head of a channel to the agent waits for a command of its own (log entry 8). -/
def settledChannel : List AgentMsg → Bool
  | [] => true
  | .notice _ :: _ => true
  | .resetFinished :: _ => true
  | .status _ :: _ => false
  | .drainAnswer _ _ :: _ => false

/-- Every channel to the agent waits for a command at its head (log entry 8). -/
def ChannelLaw (s : State) : Prop :=
  settledChannel s.mail.lmToAgent = true ∧ settledChannel s.mail.ruToAgent = true ∧
  settledChannel s.mail.nodeToAgent = true ∧
  ∀ b, settledChannel (s.bmail b).unitToAgent = true ∧ settledChannel (s.bmail b).svcToAgent = true

/-- A message to the agent that waits for a command of its own (log entry 8). -/
def AgentMsg.waits : AgentMsg → Bool
  | .notice _ => true
  | .resetFinished => true
  | .status _ => false
  | .drainAnswer _ _ => false

/-- The classifier is free, and port `p` is the first eligible one in the order of R159, with `f` its
oldest complete frame and `rest` behind it. -/
def State.Serves (s : State) (p : Port) (f : InFrame) (rest : List InFrame) : Prop :=
  s.cls.passed = none ∧ (s.port p).ingress = f :: rest ∧ (s.port p).eligible = true ∧
  ∃ before after, portOrder s.cls.lastServed = before ++ p :: after ∧
    ∀ q ∈ before, (s.port q).eligible = false

/-- The header of an ANSWER (R181): the kind and tag of the frame it answers, and the answer code. -/
def replyHeader (kind : Byte) (tag : BitVec 8) (c : Code) : Header :=
  { Header.blank with kind := 0x20, tag := tag, subcode := kind, code := c.value }

/-- Every loan but one is unchanged, and so is everything else that the loan manager holds but its
volumes. -/
def OtherLoansUnchanged (i : Nat) (s t : State) : Prop :=
  (∀ j, j ≠ i → t.loan? j = s.loan? j) ∧ t.lm.generations = s.lm.generations ∧
  t.lm.waits = s.lm.waits ∧ t.lm.retry = s.lm.retry ∧ t.lm.bays = s.lm.bays ∧
  t.lm.resetShare = s.lm.resetShare

/-- Every node entry but one is unchanged. -/
def OtherNodesUnchanged (n : Nat) (s t : State) : Prop := ∀ m, m ≠ n → t.node? m = s.node? m

/-- Every volume but one is unchanged. -/
def OtherVolumesUnchanged (v : Nat) (s t : State) : Prop := ∀ w, w ≠ v → t.volume? w = s.volume? w

/-- The command in which the request unit takes a block request of a kind. -/
def requestCommand : ReqKind → Instr
  | .read => .read
  | .write => .write
  | .check => .check

/-- The withdrawals a request's QUEUED pieces on bay `c` are sent, in window order (R69). -/
def State.withdrawals (s : State) (q : Request) (reason : FailReason) (c : Bay) : List RuToUnit :=
  q.pieces.filterMap fun n =>
    match s.piece? n with
    | some pc =>
      if pc.state = .queued ∧ pc.bay = c then some (.withdraw { num := n, serial := pc.serial } reason)
      else none
    | none => none

/-- A piece is DONE (R63). -/
def Piece.isDone (p : Piece) : Bool := p.state == .done

/-- The good count of pieces in window order (R76): the lengths of the leading DONE pieces, and the done
count of the first that is not DONE. -/
def goodCount (ps : List Piece) : Nat :=
  ((ps.takeWhile Piece.isDone).map Piece.length).sum +
  match ps.dropWhile Piece.isDone with
  | [] => 0
  | p :: _ => p.done

/-- The result of a request (R76): the failure reason of the first piece in window order that is not
DONE, else the end cause, else OK. -/
def resultOf (st : ReqState) (ps : List Piece) : Code :=
  match ps.dropWhile Piece.isDone with
  | { state := .failed r, .. } :: _ => r.code
  | { state := .withdrawn r, .. } :: _ => r.code
  | _ => match st with
    | .aborting c => c.code
    | .queued | .running => .ok

/-- Another piece of the request than piece record `n` is not final, so the request does not end with
that piece. -/
def State.GoesOn (s : State) (q : Request) (n : Nat) : Prop :=
  ∃ m ∈ q.pieces, m ≠ n ∧ ∃ p, s.piece? m = some p ∧ p.state.final = false

/-- A piece is STAGED (R63). -/
def Piece.isStaged (p : Piece) : Bool :=
  match p.state with
  | .staged .. => true
  | _ => false

/-- The messages that give back the staging buffers of a request's STAGED pieces on bay `c`, in window
order (R73). -/
def State.discards (s : State) (q : Request) (c : Bay) : List RuToUnit :=
  q.pieces.filterMap fun n =>
    match s.piece? n with
    | some pc =>
      if Piece.isStaged pc ∧ pc.bay = c then some (.emptied { num := n, serial := pc.serial }) else none
    | none => none

/-- Every piece record but one, every request record but one, and what else the request unit holds but
its delivery lists, are unchanged. -/
def OtherWorkUnchanged (n r : Nat) (s t : State) : Prop :=
  (∀ m, m ≠ n → t.piece? m = s.piece? m) ∧ (∀ k, k ≠ r → t.request? k = s.request? k) ∧
  t.ru.admitting = s.ru.admitting ∧ t.ru.deliveryLimit = s.ru.deliveryLimit ∧
  t.ru.resetShare = s.ru.resetShare ∧ t.ru.nextSerial = s.ru.nextSerial

/-- The piece a drive unit is given for a cut of an admitted request (R57, R61): its blocks, and of a
WRITE the data of its own range. -/
def appendedJob (a : Admitting) (c : Cut) (num serial : Nat) : Job :=
  { piece := { num := num, serial := serial }, kind := a.kind, start := c.start, length := c.length,
    data := (a.data.drop (c.window - a.offset)).take c.length, done := 0 }

/-- A request's state after an end cause: an ABORTING request keeps its cause (R53). -/
def endedBy (st : ReqState) (c : EndCause) : ReqState :=
  match st with
  | .aborting d => .aborting d
  | .queued | .running => .aborting c

/-- The channels of bay `b` with messages of the request unit added for its drive unit. -/
def State.toldUnit (s : State) (b : Bay) (ms : List RuToUnit) : BayMail :=
  { s.bmail b with ruToUnit := (s.bmail b).ruToUnit ++ ms }

/-! ### Drive units -/

/-- A command that puts a drive unit into FAULT, and with which cause: a failed IDENTIFY (R86), link loss
and failed completions of a command in flight (R95, R97), a time limit run out (R96, R112), and loss of
the link in a state with a disk (R97). -/
def State.Fails (s : State) (b : Bay) (c : Instr) (cause : FaultCause) : Prop :=
  let u := s.unit b
  match c with
  | .identifyCompletion a n o => a = b ∧ u.inFlight = some (n, .identify) ∧
    ((o = .linkLost ∧ cause = .linkLost) ∨
      ((o = .media ∨ o = .failed ∨ ∃ x, o = .good x 0) ∧ cause = .failedIdentify))
  | .fetchCompletion a n o => a = b ∧ u.hand.isSome = true ∧
    (∃ start len, u.inFlight = some (n, .fetch start len)) ∧
    ((o = .linkLost ∧ cause = .linkLost) ∨ (o = .failed ∧ cause = .failedCompletion))
  | .storeCompletion a n o => a = b ∧ u.hand.isSome = true ∧
    (∃ start data, u.inFlight = some (n, .store start data)) ∧
    ((o = .linkLost ∧ cause = .linkLost) ∨ (o = .failed ∧ cause = .failedCompletion))
  | .probeCompletion a n o => a = b ∧ u.hand.isSome = true ∧
    (∃ start len, u.inFlight = some (n, .probe start len)) ∧
    ((o = .linkLost ∧ cause = .linkLost) ∨ (o = .failed ∧ cause = .failedCompletion))
  | .zeroCompletion a n o => a = b ∧ u.engine.worked.isSome = true ∧
    (∃ start len, u.inFlight = some (n, .zero start len)) ∧
    ((o = .linkLost ∧ cause = .linkLost) ∨ (o = .failed ∧ cause = .failedCompletion))
  | .spinUpCompletion a n o => a = b ∧ u.inFlight = some (n, .spinUp) ∧
    ((o = .linkLost ∧ cause = .linkLost) ∨
      ((o = .failed ∨ ∃ k, o = .media k) ∧ cause = .failedCompletion))
  | .spinDownCompletion a n o => a = b ∧ u.inFlight = some (n, .spinDown) ∧
    ((o = .linkLost ∧ cause = .linkLost) ∨
      ((o = .failed ∨ ∃ k, o = .media k) ∧ cause = .failedCompletion))
  | .commandTimerExpiry a =>
    a = b ∧ (∃ d, u.commandTimer = some d ∧ d ≤ s.now) ∧ cause = .timeLimit
  | .spinUpLimitExpiry a =>
    a = b ∧ (∃ d, u.spinUpTimer = some d ∧ d ≤ s.now) ∧ cause = .timeLimit
  | .linkLost a => a = b ∧ u.state ≠ .absent ∧ u.state ≠ .fault ∧ u.state ≠ .service ∧
    cause = .linkLost
  | _ => False

/-- The unit of a bay becomes `v`, its controls show drive state `st` (R134), and its channels become
`m`; no other bay and no other part changes. -/
def State.BayBecomes (s t : State) (b : Bay) (v : DriveUnit) (st : DriveState) (m : BayMail) : Prop :=
  OnlyBay [.units, .svc, .bayMail] b s t ∧ t.unit b = { v with state := st } ∧
  t.controls b = (s.controls b).outputs st ∧ t.bmail b = m

/-- A drive unit with nothing in flight and no command timer. -/
def DriveUnit.quiet (u : DriveUnit) : DriveUnit :=
  { u with inFlight := none, commandTimer := none, spinUpTimer := none }

/-- A drive unit that has issued a command at moment `now` under the piece limit (R96). -/
def DriveUnit.issuing (u : DriveUnit) (c : DriveCmd) (now : Nat) : DriveUnit :=
  { u with inFlight := some (u.issued, c), issued := u.issued + 1,
           commandTimer := some (now + secs u.params.pieceLimit), spinUpTimer := none }

/-- The report of a CHECK piece in hand that a release ends between its runs (R138). -/
def DriveUnit.handReleased (u : DriveUnit) : List UnitToRu :=
  match u.hand with
  | some j => [.failed j.piece .bayReleased j.done]
  | none => []

/-- A command that ends READY (R89, R138): with no release the unit `v` is READY and chooses its next
command, having sent `m`; under a release it gives up a CHECK piece in hand and spins down. -/
def State.ReadyAs (s : State) (c : Instr) (b : Bay) (v : DriveUnit) (m : BayMail) : Prop :=
  (v.releaseUnderWay = false →
    ∃ t, exec c s = .next (t.choose b) ∧ s.BayBecomes t b (DriveUnit.quiet v) .ready m) ∧
  (v.releaseUnderWay = true →
    ∃ t, exec c s = .next t ∧ s.BayBecomes t b
      { DriveUnit.issuing v .spinDown s.now with hand := none, idleTimer := none } .spinningDown
      { m with unitToRu := m.unitToRu ++ DriveUnit.handReleased v })

/-- A clear engine after the extent being worked has left the list, `rest` being the others (R127): with
no CURRENT extent the sweep ends, and the NEXT extents, if any, begin another, sorted. -/
def EngineAfter (e f : Engine) (rest : List Extent) : Prop :=
  f.closed = e.closed ∧
  ((∃ y ∈ rest, y.current = true) → f.state = e.state ∧ f.list = rest) ∧
  (rest = [] → f.state = .empty ∧ f.list = []) ∧
  (rest ≠ [] → (∀ y ∈ rest, y.current = false) → f.state = e.state ∧
    f.list.Pairwise (fun y z => y.start ≤ z.start) ∧
    f.list.Perm (rest.map fun y => { y with current := true }))

/-- A command that gives the unit of a bay work (R87, R99, R120): the unit becomes `v` and its channels
`m`; a STANDBY unit goes on to WAKE_WAIT and asks for a spin-up, any other chooses. -/
def State.WorkArrives (s : State) (c : Instr) (b : Bay) (v : DriveUnit) (m : BayMail) : Prop :=
  (v.state = .standby →
    ∃ t, exec c s = .next t ∧ s.BayBecomes t b { v with idleTimer := none } .wakeWait
      { m with unitToArb := m.unitToArb ++ [.wanted] }) ∧
  (v.state ≠ .standby →
    ∃ t, exec c s = .next (t.choose b) ∧ OnlyBay [.units, .bayMail] b s t ∧
      t.bmail b = m ∧ t.unit b = v)

/-- The agent has taken a MANAGE frame of a request in the manager's name: the classifier is free and the
manager's last port set (R146, R168). -/
def State.accepted (s : State) (p : Port) : State := s.freeClassifier.setManagerPort p

/-- A well-formed request of the manager waits for the agent, which is free (R146, R168, R169): frame `f`
on port `p` with header `h` and request code `code`. -/
def State.Asks (s : State) (code : Byte) (p : Port) (f : InFrame) (h : Header) : Prop :=
  s.manageWaiting = some (p, f, h) ∧ h.subcode = code ∧ s.managerSource h f.src = true ∧
  requestGood h f.payload = true

/-! ### Management -/

/-- The request code of a command of the management agent (R182). -/
def requestCode : Instr → Option Byte
  | .attach => some 0x01
  | .detach => some 0x02
  | .identify => some 0x03
  | .setParams => some 0x04
  | .readParams => some 0x05
  | .readCounters => some 0x06
  | .resetPart => some 0x07
  | .defineVolume => some 0x10
  | .deleteVolume => some 0x11
  | .clearVolume => some 0x12
  | .readVolume => some 0x13
  | .recallLoan => some 0x18
  | .readLoan => some 0x19
  | .admitNode => some 0x20
  | .readmitNode => some 0x21
  | .drainNode => some 0x22
  | .forgetNode => some 0x23
  | .readNode => some 0x24
  | .wakeDisk => some 0x28
  | .sleepDisk => some 0x29
  | .acceptDisk => some 0x2A
  | .readDisk => some 0x2B
  | .releaseBay => some 0x2C
  | .ackService => some 0x2D
  | _ => none

/-- What a SET_PARAMS that is accepted sends (R162, R174): to each drive unit its limits, allowance and
keep-spinning setting, to the request unit its delivery limit, to each port the pair of thresholds that
stands after the request; `grants` are the spin-up grants sent with it. -/
def State.ParamsSent (s t : State) (q : ParamBlock) (grants : Bay → Nat) : Prop :=
  (∀ b, t.bmail b = { s.bmail b with
    limits := (s.bmail b).limits ++ q.unitLimits,
    allowances := (s.bmail b).allowances ++ (if q.carries 4 then [q.allowance] else []),
    keeps := (s.bmail b).keeps ++ (q.keepFor b).toList,
    grants := (s.bmail b).grants + grants b }) ∧
  t.mail = { s.mail with
    limits := s.mail.limits ++ (if q.carries 3 then [q.deliveryLimit] else []) } ∧
  ∀ p, t.pmail p = { s.pmail p with
    thresholds := (s.pmail p).thresholds ++
      (if q.carries 7 || q.carries 8
       then [((s.agent.params.write q).on, (s.agent.params.write q).off)] else []) }

/-- The segments of a definition on the disks of drive units that are healthy as they stand (R12, R13), with
the capacities of those disks. -/
def State.PlacedOn (s : State) (l : List SegArg) (placed : List (Segment × Nat)) : Prop :=
  List.Forall₂ (fun g x => ∃ (b : Bay) (d : Disk), b.val = g.bay ∧
    (s.unit b).state.healthy = true ∧ (s.unit b).disk = some d ∧
    x = ({ bay := b, identity := d.serial, base := g.base, length := g.length, clear := .none },
      d.capacity)) l placed

/-- The references that a volume entering CLEARING adds to the queue of a bay, in segment order
(R45, R115). -/
def clearRefs (v : Nat) (l : List Segment) (b : Bay) : List SegRef :=
  (l.zipIdx.filter fun x => x.1.bay == b).map fun x => { vol := v, seg := x.2 }

/-- A volume enters CLEARING, before its queues are listed from (R45, R115): every segment is PENDING, its
reference joins the queue of its bay, and a queue that is no longer empty is reported to its drive unit;
all before the first listing (log entry 59). `vol` is the volume as it was but for its loan count. -/
def State.Clears (s t : State) (v : Nat) (vol : Volume) : Prop :=
  t.volume? v = some { vol with
    state := .clearing, segments := vol.segments.map fun g => { g with clear := .pending } } ∧
  OtherVolumesUnchanged v s t ∧
  ∀ b, t.lmBay b = { s.lmBay b with
      pendingClear := (s.lmBay b).pendingClear ++ clearRefs v vol.segments b } ∧
    t.bmail b = { s.bmail b with
      lmToUnit := (s.bmail b).lmToUnit ++
        (if (s.lmBay b).pendingClear = [] ∧ clearRefs v vol.segments b ≠ []
         then [.pendingClear true] else []) }

/-- The queues of a volume's bays are listed from, in segment order (R116). -/
def State.listFor (s : State) (vol : Volume) : State :=
  (vol.segments.map Segment.bay).foldl State.listFromHead s

/-- References fail one by one, and the clear of each one's volume is examined (R116, R117). -/
def State.failRefs (s : State) (l : List SegRef) : State :=
  l.foldl (fun t x => (t.setClear x .failed).examineClear x.vol) s

/-- The notice that ends a clear is on its way, `s` being the state before (R131): with no record waiting
it stands at the tail of the loan manager's channel; else the agent has taken it, with what stood before
it, so that the frames of the grants or removals come after it (log entry 8). -/
def State.ClearTold (s t : State) (waiting : List Nat) (n : Notice) : Prop :=
  (waiting = [] → t.ports = s.ports ∧ t.agent = s.agent ∧
    t.mail = { s.mail with lmToAgent := s.mail.lmToAgent ++ [.notice n] }) ∧
  (waiting ≠ [] → t.mail = { s.mail with lmToAgent := [] } ∧
    ∀ u, u = (s.mail.lmToAgent ++ [AgentMsg.notice n]).foldl State.takeMessage s →
      t.ports = u.ports ∧ t.agent = u.agent)

/-- A segment as READ_VOLUME returns it, at position `pos` of the window (R182). -/
def State.segmentPayload (s : State) (g : Segment) (pos : Nat) : List Byte :=
  be 1 g.bay.val ++ [Config.flagByte (s.served g), g.clear.value, 0] ++ be 20 g.identity.toNat ++
  be 4 g.base ++ be 4 g.length ++ be 8 pos

/-- A drive command touches a disk block. -/
def DriveCmd.touches (c : DriveCmd) (k : Nat) : Prop :=
  match c with
  | .fetch start len => start ≤ k ∧ k < start + len
  | .store start data => start ≤ k ∧ k < start + data.length
  | .probe start len => start ≤ k ∧ k < start + len
  | .zero start len => start ≤ k ∧ k < start + len
  | .identify => False
  | .spinUp => False
  | .spinDown => False

/-! ### Laws of the device -/

/-- The command in flight belongs to the drive state by the table of R83. -/
def commandFits (st : DriveState) (c : Option DriveCmd) : Bool :=
  match st, c with
  | .identifying, some .identify => true
  | .spinningUp, some .spinUp => true
  | .spinningDown, some .spinDown => true
  | .active, some (.fetch _ _) => true
  | .active, some (.store _ _) => true
  | .active, some (.probe _ _) => true
  | .active, some (.zero _ _) => true
  | .absent, none => true
  | .standby, none => true
  | .wakeWait, none => true
  | .ready, none => true
  | .fault, none => true
  | .service, none => true
  | _, _ => false

/-- A drive unit issues only the command its state carries (R83), runs the timer of that command alone
(R96, R112), and its idle timer runs in READY only (R101). -/
def DriveUnit.lawful (u : DriveUnit) : Prop :=
  commandFits u.state (u.inFlight.map Prod.snd) = true ∧
  (u.commandTimer.isSome → u.state ≠ .spinningUp ∧ u.inFlight.isSome) ∧
  (u.spinUpTimer.isSome → u.state = .spinningUp) ∧
  (u.idleTimer.isSome → u.state = .ready)

/-- Every drive unit is lawful. -/
def CommandLaw (s : State) : Prop := ∀ b, DriveUnit.lawful (s.unit b)

/-- Reports on their way that give a place back (R111, R112). -/
def placesReturned (l : List UnitToArb) : Nat :=
  (l.filter fun m => m == .declined || m == .ended).length

/-- What a bay's place consists in at any moment: a grant on its way, the spin-up itself, or a report on
its way that gives the place back (R107, R111, R112). -/
def State.placeTokens (s : State) (b : Bay) : Nat :=
  (s.bmail b).grants + (if (s.unit b).state = .spinningUp then 1 else 0) +
    placesReturned (s.bmail b).unitToArb

/-- The arbiter's law (R107, R110, R113): the count within the budget, no bay twice or in both lists,
each place held by exactly one grant, spin-up or returning report; and a budget presented to the
arbiter lies in its range. -/
def SpinUpLaw (s : State) : Prop :=
  1 ≤ s.arb.budget ∧ s.arb.budget ≤ 8 ∧ s.arb.places.length ≤ s.arb.budget ∧
  (s.arb.places ++ s.arb.waitOrder).Nodup ∧
  (∀ b, s.placeTokens b = if b ∈ s.arb.places then 1 else 0) ∧
  ∀ tag p, s.agent.wait = .budget tag p → 1 ≤ p.budget ∧ p.budget ≤ 8

/-- The bays in SPINNING_UP (R110). -/
def State.spinning (s : State) : List Bay := allBays.filter fun b => (s.unit b).state == .spinningUp

/-- Lock and lamp of every bay stand as the table of R134 gives them. -/
def OutputLaw (s : State) : Prop :=
  ∀ b, (s.controls b).lock = lockFor (s.unit b).state ∧
    (s.controls b).lamp = lampFor (s.controls b).pressedFlag (s.unit b).state

/-- The disk map law (R8): two segments of defined volumes never overlap. -/
def DiskMapLaw (s : State) : Prop :=
  ∀ (v w i j : Nat) (vol wol : Volume) (g h : Segment), s.volume? v = some vol → s.volume? w = some wol →
    vol.segments[i]? = some g → wol.segments[j]? = some h → (v, i) ≠ (w, j) → overlaps g h = false

/-- The law of capacities (R1, R19, R23, R52, R62, R143): every table is in its one form and within its
size. -/
def CapacityLaw (s : State) : Prop :=
  s.nodes.wf 512 = true ∧ s.lm.volumes.wf 128 = true ∧ s.lm.loans.wf 1024 = true ∧
  s.lm.generations.wf 1024 = true ∧ (∀ i, s.generation i < 64) ∧ s.lm.waits.wf 256 = true ∧
  s.ru.requests.wf 512 = true ∧ s.ru.pieces.wf 1024 = true

end Sys2Proof.Machine
end

