-- ==== Sys2Proof/Certificates/Slice0/Obligations.lean ====
section
/-! DEFINITION. The statements about the machine, for the provers. -/

open Sys2Proof Sys2Proof.Machine

/-! ### The machine as a whole -/

/-- The command at the front of the queue is taken, with the queue's rest left waiting (0.6 of
00_scope.md). -/
def Obligations.StepTakesFront : Prop :=
  ∀ (c : Instr) (rest : List Instr) (s : State),
    step { s with pending := c :: rest } = exec c { s with pending := rest }

/-- The model's choice (log entry 1): with no command waiting, time alone passes, at most 1 ms, and no
expiry becomes late by it. -/
def Obligations.IdleStep : Prop :=
  ∀ s : State, s.pending = [] →
    ∃ t, step s = .next t ∧ UnchangedBut [.now] s t ∧ s.now ≤ t.now ∧ t.now ≤ s.now + msec ∧
      (∀ d ∈ s.latest, s.now ≤ d → t.now ≤ d) ∧ ((∀ d ∈ s.latest, s.now < d) → s.now < t.now)

/-- Every command answers a next state and leaves the queue of waiting commands alone, but for a
completion that R95 says a drive port never reports; none is refused. That the machine stops on such a
completion, and on nothing else, is the model's choice (log entry 28): R95 gives it no behaviour. -/
def Obligations.ExecAnswers : Prop :=
  ∀ (c : Instr) (s : State),
    (¬ ImpossibleCompletion c s → ∃ t, exec c s = .next t ∧ t.pending = s.pending) ∧
    ((∃ f, exec c s = .fault f) ↔ ImpossibleCompletion c s) ∧ (∀ r, exec c s ≠ .refused r)

/-- POWER_ON (R179): no table holds an entry, no message is on its way, parameters, thresholds and
allowances are the power-on ones, no share of a soft reset runs, each port takes its link state, each bay
with a disk is IDENTIFYING under the piece limit and each without is ABSENT, and no press is noted. The
clock at 0 and the waiting commands kept are the model's choice (log entries 1 and 3), and so are the
frame-head and write positions of 0 (log entry 4). That a unit with a disk has its first command IDENTIFY
in flight and its command timer running is R86 followed over R82 and R179, which stop both timers, by the
model's inference (log entry 58). -/
def Obligations.PowerOn : Prop :=
  ∀ (present buttons : BitVec 24) (links : BitVec 4) (s : State),
    ∃ t, exec (.powerOn present buttons links) s = .next t ∧ t.pending = s.pending ∧ t.now = 0 ∧
      t.nodes = [] ∧ t.lm.volumes = [] ∧ t.lm.loans = [] ∧ t.lm.waits = [] ∧ t.lm.retry = [] ∧
      (∀ i, t.generation i = 0) ∧ t.ru.requests = [] ∧ t.ru.pieces = [] ∧ t.ru.admitting = none ∧
      t.ru.deliveryLimit = 200 ∧ t.cls = { lastServed := 3, passed := none } ∧
      t.arb = { budget := 4, places := [], waitOrder := [] } ∧ t.agent.slot = none ∧
      t.agent.params = Params.powerOn ∧ t.agent.progress = [] ∧ t.agent.running = none ∧
      t.agent.wait = .free ∧ t.mail = State.reset.mail ∧ t.lm.resetShare = false ∧
      t.ru.resetShare = none ∧
      (∀ p, t.port p = FarmPort.powerOn (links.getLsbD p.val) ∧ t.delivery p = [] ∧ t.pmail p = {}) ∧
      (∀ b, t.bmail b = {} ∧ t.lmBay b = {} ∧ (t.controls b).pressedFlag = false ∧
        (t.controls b).buttonDown = buttons.getLsbD b.val ∧ (t.controls b).holdTimer = none ∧
        (t.controls b).present = present.getLsbD b.val ∧ (t.controls b).lamp = .off) ∧
      (∀ b, present.getLsbD b.val = true →
        t.unit b = { DriveUnit.absent with
          state := .identifying, inFlight := some (0, .identify), issued := 1,
          commandTimer := some (secs 10) } ∧ (t.controls b).lock = .locked) ∧
      ∀ b, present.getLsbD b.val = false →
        t.unit b = DriveUnit.absent ∧ (t.controls b).lock = .unlocked

/-! ### Farm ports -/

/-- Placing a frame in an egress queue (R165): dropped on a port that is DOWN, where an END releases its
claim; on one that is UP an END, and any other frame that fits the general room, goes to the tail, and a
frame that does not fit is dropped. No other port, and nothing else, changes. A frame for a node goes to
its last port, and is discarded where that is absent (R147). That an idle transmitter begins the frame in
the same step is the model's inference (log entry 14). -/
def Obligations.PlacingLaw : Prop :=
  ∀ (s : State) (p : Port) (f : OutFrame),
    UnchangedBut [.ports] s (s.place p f) ∧ OtherPortsUnchanged p s (s.place p f) ∧
    ((s.port p).up = false → f.isEnd = true →
      (s.place p f).port p = { s.port p with claims := (s.port p).claims - 1 }) ∧
    ((s.port p).up = false → f.isEnd = false → (s.place p f).port p = s.port p) ∧
    ((s.port p).up = true → f.isEnd = true ∨ f.length ≤ (s.port p).roomFree →
      FarmPort.Sends (s.port p) ((s.place p f).port p) f ∧
      ((s.place p f).port p).claims = (s.port p).claims ∧
      ((s.place p f).port p).ingress = (s.port p).ingress) ∧
    ((s.port p).up = true → f.isEnd = false → (s.port p).roomFree < f.length →
      (s.place p f).port p = s.port p) ∧
    (∀ n e h, s.node? n = some e →
      (∀ q, e.lastPort = some q →
        s.placeForNode n h = s.place q (OutFrame.build e.addr h (.bytes []))) ∧
      (e.lastPort = none → s.placeForNode n h = s))

/-- LINK_DOWN and LINK_UP (R156): link down empties both buffers, releases the places of the END frames
dropped, opens the pause state and ends a received pause, with counters, thresholds and last served port
kept; link up lets the port take frames and send. Each tells the request unit (R74). A report of the
state the port is in changes nothing. The frame-head and write positions of 0 at link down are the
model's choice (log entry 4). -/
def Obligations.LinkChange : Prop :=
  ∀ (s : State) (p : Port),
    ((s.port p).up = true →
      (∃ t, exec (.linkDown p) s = .next t ∧ UnchangedBut [.ports, .portMail] s t ∧
        (∀ q, q ≠ p → t.port q = s.port q ∧ t.pmail q = s.pmail q) ∧
        t.port p = { s.port p with
          up := false, ingress := [], frameHead := 0, writePos := 0, pausing := false,
          repeatTimer := none, receivedPause := none, egress := [], wire := .idle, pauseOut := [],
          claims := (s.port p).claims - ((s.port p).egress.filter OutFrame.isEnd).length } ∧
        t.pmail p = { s.pmail p with toRu := (s.pmail p).toRu ++ [.linkDown] }) ∧
      exec (.linkUp p) s = .next s) ∧
    ((s.port p).up = false →
      (∃ t, exec (.linkUp p) s = .next t ∧ UnchangedBut [.ports, .portMail] s t ∧
        (∀ q, q ≠ p → t.port q = s.port q ∧ t.pmail q = s.pmail q) ∧
        (t.port p).up = true ∧ (t.port p).ingress = [] ∧ (t.port p).egress = [] ∧
        (t.port p).pausing = false ∧ (t.port p).repeatTimer = none ∧
        (t.port p).claims = (s.port p).claims ∧
        t.pmail p = { s.pmail p with toRu := (s.pmail p).toRu ++ [.linkUp] }) ∧
      exec (.linkDown p) s = .next s)

/-- INGRESS_FRAME (R157, R158, R161, R167): a frame of type B7A6h that fits, is of at most 9,000 bytes of
payload and has a good frame check becomes the newest complete one and is counted admitted, and an OPEN
port whose fill passes ON is PAUSING with its repeat timer 20 ms ahead and a pause frame of the largest
time on the wire or waiting for it; a bad frame check, a payload too long, and a lack of room each leave
the complete frames as they were and are counted; a frame of another type is not counted; a DOWN port
takes nothing. A pause frame acts as RECEIVED_PAUSE does, and with a bad frame check changes nothing
(R163; by the model's inference, log entry 48). -/
def Obligations.IngressFrame : Prop :=
  ∀ (s : State) (p : Port) (f : InFrame),
    ∃ t, exec (.ingressFrame p f) s = .next t ∧ UnchangedBut [.ports] s t ∧
      (∀ q, q ≠ p → t.port q = s.port q) ∧ (t.port p).claims = (s.port p).claims ∧
      (t.port p).egress = (s.port p).egress ∧
      ((s.port p).up = false → t.port p = s.port p) ∧
      ((s.port p).up = true → f.type = .alt → f.payload.length ≤ 9000 →
        (s.port p).fill + f.length ≤ 131072 → f.good = true →
        (t.port p).ingress = (s.port p).ingress ++ [f] ∧
        (t.port p).admitted = bump (s.port p).admitted ∧
        (t.port p).rewoundBad = (s.port p).rewoundBad ∧
        (t.port p).rewoundRoom = (s.port p).rewoundRoom ∧
        (t.port p).fill = (s.port p).fill + f.length ∧
        ((s.port p).pausing = false → (s.port p).off < (s.port p).on →
          ((s.port p).on * 1024 < (s.port p).fill + f.length →
            (t.port p).pausing = true ∧ (t.port p).repeatTimer = some (s.now + 20 * msec) ∧
            ((s.port p).wire = .idle → (s.port p).pauseOut = [] →
              (t.port p).wire = .pause 65535 ∧ (t.port p).pauseOut = []) ∧
            ((s.port p).wire ≠ .idle → (t.port p).wire = (s.port p).wire ∧
              (t.port p).pauseOut = (s.port p).pauseOut ++ [65535])) ∧
          ((s.port p).fill + f.length ≤ (s.port p).on * 1024 →
            (t.port p).pausing = false ∧ (t.port p).repeatTimer = (s.port p).repeatTimer ∧
            (t.port p).wire = (s.port p).wire))) ∧
      ((s.port p).up = true → f.type = .alt → f.payload.length ≤ 9000 →
        (s.port p).fill + f.length ≤ 131072 → f.good = false →
        (t.port p).ingress = (s.port p).ingress ∧ (t.port p).admitted = (s.port p).admitted ∧
        (t.port p).rewoundBad = bump (s.port p).rewoundBad ∧
        (t.port p).rewoundRoom = (s.port p).rewoundRoom) ∧
      ((s.port p).up = true → f.type = .alt → 9000 < f.payload.length →
        (s.port p).fill + 9014 < 131072 →
        (t.port p).ingress = (s.port p).ingress ∧ (t.port p).admitted = (s.port p).admitted ∧
        (t.port p).rewoundBad = bump (s.port p).rewoundBad ∧
        (t.port p).rewoundRoom = (s.port p).rewoundRoom) ∧
      ((s.port p).up = true → f.type = .alt → 131072 < (s.port p).fill + min 9014 f.length →
        (t.port p).ingress = (s.port p).ingress ∧ (t.port p).admitted = (s.port p).admitted ∧
        (t.port p).rewoundBad = (s.port p).rewoundBad ∧
        (t.port p).rewoundRoom = bump (s.port p).rewoundRoom) ∧
      ((s.port p).up = true → f.type = .other →
        (t.port p).ingress = (s.port p).ingress ∧ (t.port p).admitted = (s.port p).admitted ∧
        (t.port p).rewoundBad = (s.port p).rewoundBad ∧
        (t.port p).rewoundRoom = (s.port p).rewoundRoom ∧
        (t.port p).unknownSource = (s.port p).unknownSource) ∧
      (∀ x, f.type = .pause x →
        (f.good = true → exec (.ingressFrame p f) s = exec (.receivedPause p x true) s) ∧
        (f.good = false → t.port p = s.port p))

/-- RECEIVED_PAUSE, RECEIVED_PAUSE_END (R163), PAUSE_REPEAT_EXPIRY (R161) and THRESHOLDS_TAKEN (R162): a
received pause is in force for its time and replaces an older one, time 0 ends it, and at its end the
oldest frame of the queue begins; with a bad frame check it is ignored; the repeat timer's expiry sends
the largest pause time and starts it again; new thresholds are held and the pause state is judged by them
at once. -/
def Obligations.PauseEvents : Prop :=
  ∀ (s : State) (p : Port),
    (∀ n : BitVec 16, (s.port p).up = true → n ≠ 0 →
      ∃ t, exec (.receivedPause p n true) s = .next t ∧ UnchangedBut [.ports] s t ∧
        (∀ q, q ≠ p → t.port q = s.port q) ∧
        t.port p = { s.port p with receivedPause := some (s.now + 512 * n.toNat) }) ∧
    ((s.port p).up = true →
      ∃ t, exec (.receivedPause p 0 true) s = .next t ∧ UnchangedBut [.ports] s t ∧
        (∀ q, q ≠ p → t.port q = s.port q) ∧ (t.port p).receivedPause = none ∧
        (t.port p).egress = (s.port p).egress ∧
        ((s.port p).wire = .idle → (s.port p).pauseOut = [] → (s.port p).egress ≠ [] →
          (t.port p).wire = .frame)) ∧
    (∀ n, exec (.receivedPause p n false) s = .next s) ∧
    (∀ d, (s.port p).receivedPause = some d → d ≤ s.now →
      ∃ t, exec (.receivedPauseEnd p) s = .next t ∧ UnchangedBut [.ports] s t ∧
        (∀ q, q ≠ p → t.port q = s.port q) ∧ (t.port p).receivedPause = none ∧
        (t.port p).egress = (s.port p).egress ∧
        ((s.port p).up = true → (s.port p).wire = .idle → (s.port p).pauseOut = [] →
          (s.port p).egress ≠ [] → (t.port p).wire = .frame)) ∧
    (∀ d, (s.port p).up = true → (s.port p).pausing = true → (s.port p).repeatTimer = some d →
      d ≤ s.now → (s.port p).pauseOut = [] →
      ∃ t, exec (.pauseRepeatExpiry p) s = .next t ∧ UnchangedBut [.ports] s t ∧
        (∀ q, q ≠ p → t.port q = s.port q) ∧ (t.port p).pausing = true ∧
        (t.port p).repeatTimer = some (s.now + 20 * msec) ∧
        (((s.port p).wire = .idle → (t.port p).wire = .pause 65535 ∧ (t.port p).pauseOut = []) ∧
         ((s.port p).wire ≠ .idle →
           (t.port p).wire = (s.port p).wire ∧ (t.port p).pauseOut = [65535]))) ∧
    (∀ on off rest, (s.pmail p).thresholds = (on, off) :: rest → off < on →
      ∃ t, exec (.thresholdsTaken p) s = .next t ∧ UnchangedBut [.ports, .portMail] s t ∧
        (∀ q, q ≠ p → t.port q = s.port q ∧ t.pmail q = s.pmail q) ∧
        t.pmail p = { s.pmail p with thresholds := rest } ∧ (t.port p).on = on ∧
        (t.port p).off = off ∧ (t.port p).ingress = (s.port p).ingress ∧
        (t.port p).egress = (s.port p).egress ∧
        ((s.port p).up = true → (s.port p).pausing = false →
          ((t.port p).pausing = true ↔ on * 1024 < (s.port p).fill)) ∧
        ((s.port p).up = true → (s.port p).pausing = true →
          ((t.port p).pausing = false ↔ (s.port p).fill ≤ off * 1024)) ∧
        ((s.port p).pausing = true → (t.port p).pausing = true →
          (t.port p).repeatTimer = (s.port p).repeatTimer))

/-- TRANSMISSION_END (R164, R165): the oldest frame leaves the queue; an END releases its place, and any
other frame's room is reported to the request unit; a pause frame sent leaves the queue as it stands; and
after either the next frame begins, a waiting pause frame first, else the oldest of the queue unless a
received pause is in force: in the same step, by the model's inference (log entry 14). A frame of the
queue is sent with the port's own address as its source, its own destination, and Ethernet type B7A6h,
and a pause frame with the pause type and its time (R166). -/
def Obligations.TransmissionEnd : Prop :=
  (∀ (s : State) (p : Port),
    (∀ f rest, (s.port p).wire = .frame → (s.port p).egress = f :: rest →
      s.sending p = some { src := Config.portAddress p, dst := some f.dst, type := .alt,
                           payload := f.hdr.encode ++ f.body.toBytes }) ∧
    (∀ x, (s.port p).wire = .pause x →
      s.sending p = some { src := Config.portAddress p, dst := none, type := .pause x,
                           payload := [] }) ∧
    ((s.port p).wire = .idle → s.sending p = none)) ∧
  ∀ (s : State) (p : Port), (s.port p).up = true →
    (∀ f rest, (s.port p).wire = .frame → (s.port p).egress = f :: rest →
      ∃ t, exec (.transmissionEnd p) s = .next t ∧ UnchangedBut [.ports, .portMail] s t ∧
        (∀ q, q ≠ p → t.port q = s.port q ∧ t.pmail q = s.pmail q) ∧ (t.port p).egress = rest ∧
        (t.port p).ingress = (s.port p).ingress ∧
        (f.isEnd = true → (t.port p).claims = (s.port p).claims - 1 ∧ t.pmail p = s.pmail p) ∧
        (f.isEnd = false → (t.port p).claims = (s.port p).claims ∧
          t.pmail p = { s.pmail p with toRu := (s.pmail p).toRu ++ [.room] }) ∧
        (∀ x xs, (s.port p).pauseOut = x :: xs →
          (t.port p).wire = .pause x ∧ (t.port p).pauseOut = xs) ∧
        ((s.port p).pauseOut = [] →
          ((t.port p).wire = .frame ↔ rest ≠ [] ∧ (s.port p).receivedPause = none) ∧
          ((t.port p).wire = .frame ∨ (t.port p).wire = .idle))) ∧
    (∀ x, (s.port p).wire = .pause x →
      ∃ t, exec (.transmissionEnd p) s = .next t ∧ UnchangedBut [.ports] s t ∧
        (∀ q, q ≠ p → t.port q = s.port q) ∧ (t.port p).egress = (s.port p).egress ∧
        (t.port p).claims = (s.port p).claims ∧ (t.port p).ingress = (s.port p).ingress ∧
        (∀ y ys, (s.port p).pauseOut = y :: ys →
          (t.port p).wire = .pause y ∧ (t.port p).pauseOut = ys) ∧
        ((s.port p).pauseOut = [] → (t.port p).pauseOut = [] ∧
          ((t.port p).wire = .frame ↔ (s.port p).egress ≠ [] ∧ (s.port p).receivedPause = none) ∧
          ((t.port p).wire = .frame ∨ (t.port p).wire = .idle)))

/-! ### Messages to the management agent -/

/-- The model's choice (log entry 8): what a block sends to the agent joins the tail of its channel; a
status or drain answer that finds the channel empty is taken at once: the status is answered and the
agent free again; every drain held for the node is answered with the code, in the order they were taken
(R149, R151), and then each soft reset whose shares are reported and that waits for no drain still held,
OK (R178), and these entries leave the list of requests in progress. A block that takes a request returns
a status, for which the agent waits (R172): the loan manager's and the node block's is the answer that
names the request and gives the code, and a drive unit's or the service controls' is the answer of the
request; it goes through the block's channel. The answer to SET_PARAMS names its tag, its request code
and the outcome, and nothing else (R174). An answer goes to the manager's last port while the slot is
filled, and nowhere else (R168, R172). -/
def Obligations.MessagesToAgent : Prop :=
  ∀ (s : State) (m : AgentMsg) (b : Bay) (a : Answer), ChannelLaw s →
    (s.mail.lmToAgent ≠ [] ∨ AgentMsg.waits m = true →
      s.lmTellAgent m = { s with mail := { s.mail with lmToAgent := s.mail.lmToAgent ++ [m] } }) ∧
    (s.mail.ruToAgent ≠ [] ∨ AgentMsg.waits m = true →
      s.ruTellAgent m = { s with mail := { s.mail with ruToAgent := s.mail.ruToAgent ++ [m] } }) ∧
    (s.mail.nodeToAgent ≠ [] ∨ AgentMsg.waits m = true →
      s.nodeTellAgent m =
        { s with mail := { s.mail with nodeToAgent := s.mail.nodeToAgent ++ [m] } }) ∧
    ((s.bmail b).unitToAgent ≠ [] ∨ AgentMsg.waits m = true →
      s.unitTellAgent b m =
        s.setBmail b { s.bmail b with unitToAgent := (s.bmail b).unitToAgent ++ [m] }) ∧
    ((s.bmail b).svcToAgent ≠ [] ∨ AgentMsg.waits m = true →
      s.svcTellAgent b m =
        s.setBmail b { s.bmail b with svcToAgent := (s.bmail b).svcToAgent ++ [m] }) ∧
    (s.mail.lmToAgent = [] → s.lmTellAgent (.status a) = (s.answer a).setWait .free) ∧
    (s.mail.nodeToAgent = [] → s.nodeTellAgent (.status a) = (s.answer a).setWait .free) ∧
    (∀ (x : Addr) (c : Code) (mine left ready kept : List Entry),
      mine = s.agent.progress.filter (fun e => e.drains x) →
      left = s.agent.progress.filter (fun e => !e.drains x) → Entry.Splits left ready kept →
      (s.mail.nodeToAgent = [] → s.nodeTellAgent (.drainAnswer x c) = s.answerDrains x c) ∧
      UnchangedBut [.ports, .agent] s (s.answerDrains x c) ∧
      (s.answerDrains x c).agent = { s.agent with progress := kept } ∧
      (s.answerDrains x c).ports =
        ((drainAnswers mine x c ++ resetAnswers ready).foldl State.answer s).ports) ∧
    (∀ (e : Entry) (l : List Entry) (x : Addr),
      (e.drains x = true ↔ e.work = .drain x) ∧
      (e.resetReady l = true ↔
        ∃ w, e.work = .reset w true ∧ ∀ i ∈ w, ∀ d ∈ l, d.id ≠ i)) ∧
    ((s.bmail b).unitToAgent = [] →
      OnlyBay [.ports, .agent, .bayMail] b s (s.unitTellAgent b (.status a)) ∧
      (s.unitTellAgent b (.status a)).bmail b = s.bmail b ∧
      (s.unitTellAgent b (.status a)).ports = (s.answer a).ports ∧
      (s.unitTellAgent b (.status a)).agent = { s.agent with wait := .free }) ∧
    ((s.bmail b).svcToAgent = [] →
      OnlyBay [.ports, .agent, .bayMail] b s (s.svcTellAgent b (.status a)) ∧
      (s.svcTellAgent b (.status a)).bmail b = s.bmail b ∧
      (s.svcTellAgent b (.status a)).ports = (s.answer a).ports ∧
      (s.svcTellAgent b (.status a)).agent = { s.agent with wait := .free }) ∧
    (∀ (h : Header) (c : Code),
      s.lmStatus h c = (s.setWait .status).lmTellAgent (.status (h.status c)) ∧
      s.nodeStatus h c = (s.setWait .status).nodeTellAgent (.status (h.status c)) ∧
      s.unitStatus b a = (s.setWait .status).unitTellAgent b (.status a) ∧
      s.svcStatus b a = (s.setWait .status).svcTellAgent b (.status a) ∧
      paramsAnswer h.tag c =
        { hdr := { Header.blank with kind := 0x31, tag := h.tag, subcode := 0x04, code := c.value },
          body := [] }) ∧
    (∀ w, s.setWait w = { s with agent := { s.agent with wait := w } }) ∧
    (∀ sl, s.agent.slot = some sl →
      s.answer a = s.place sl.port (OutFrame.build sl.addr a.hdr (.bytes a.body))) ∧
    (s.agent.slot = none → s.answer a = s)

/-! ### The classifier -/

/-- CLASSIFY_FRAME passes a frame on (R146, R147, R159, R160): the oldest frame of the first eligible
port leaves its buffer, a block request claims an END place there, a well-formed frame of a node sets the
node's last port and goes to the loan manager or to the request unit by its kind, and a MANAGE frame goes
to the agent, from the manager, or from any source while the agent waits for a status (R172; how it is
discarded then is log entry 53). With the classifier busy, no port eligible, or a forget of the sender
not finished (log entry 8), nothing changes. As the frame leaves, the pause state is re-examined: a fill
at or below OFF ends PAUSING with a pause frame of time 0 (R161). -/
def Obligations.ClassifyPasses : Prop :=
  ∀ s : State,
    (∀ p f rest, s.Serves p f rest →
      (∀ n e, f.kind ≠ some 0x30 → s.beingForgotten f.src = false →
        s.nodeByAddr f.src = some (n, e) → e.state ≠ .halted → malformed f.payload = none →
        ∃ t, exec .classifyFrame s = .next t ∧ UnchangedBut [.ports, .cls, .nodes] s t ∧
          (∀ q, q ≠ p → t.port q = s.port q) ∧ FarmPort.FrameTaken (s.port p) (t.port p) rest ∧
          (t.port p).unknownSource = (s.port p).unknownSource ∧
          (t.port p).claims = (s.port p).claims + (if f.isBlockRequest then 1 else 0) ∧
          t.cls = { lastServed := p, passed := some {
            dest := if f.kind = some 0x01 ∨ f.kind = some 0x02 ∨ f.kind = some 0x03
              then .loanManager n else .requestUnit n, port := p, frame := f } } ∧
          t.node? n = some { e with lastPort := some p } ∧ ∀ m, m ≠ n → t.node? m = s.node? m) ∧
      (f.kind = some 0x30 →
        s.agent.wait ≠ .free ∨
          (∃ h, Header.parse f.payload = some h ∧ s.managerSource h f.src = true) →
        ∃ t, exec .classifyFrame s = .next t ∧ UnchangedBut [.ports, .cls] s t ∧
          (∀ q, q ≠ p → t.port q = s.port q) ∧ FarmPort.FrameTaken (s.port p) (t.port p) rest ∧
          (t.port p).unknownSource = (s.port p).unknownSource ∧
          (t.port p).claims = (s.port p).claims ∧
          t.cls = { lastServed := p, passed := some { dest := .agent, port := p, frame := f } }) ∧
      (f.kind ≠ some 0x30 → s.beingForgotten f.src = true → exec .classifyFrame s = .next s)) ∧
    (s.cls.passed ≠ none → exec .classifyFrame s = .next s) ∧
    ((∀ p, (s.port p).eligible = false) → exec .classifyFrame s = .next s)

/-- CLASSIFY_FRAME discards a frame (R146, R149, R160, R169): one of an unknown or HALTED sender, or,
with the agent free, a MANAGE frame not from the manager, is counted on its port; a MANAGE frame shorter
than a header is not; a malformed frame halts its node, with the notice for the manager and WRONG_STATE
for the drains held for a DRAINING node, and changes nothing else of the node. No END place stays claimed
for any of them, and the pause state is re-examined as the frame leaves the buffer (R161). -/
def Obligations.ClassifyDiscards : Prop :=
  ∀ (s : State) (p : Port) (f : InFrame) (rest : List InFrame), s.Serves p f rest →
    (f.kind ≠ some 0x30 → s.beingForgotten f.src = false →
      (s.nodeByAddr f.src = none ∨ ∃ n e, s.nodeByAddr f.src = some (n, e) ∧ e.state = .halted) →
      ∃ t, exec .classifyFrame s = .next t ∧ UnchangedBut [.ports, .cls] s t ∧
        (∀ q, q ≠ p → t.port q = s.port q) ∧ FarmPort.FrameTaken (s.port p) (t.port p) rest ∧
        (t.port p).claims = (s.port p).claims ∧
        (t.port p).unknownSource = bump (s.port p).unknownSource ∧
        t.cls = { lastServed := p, passed := none }) ∧
    (∀ h, f.kind = some 0x30 → s.agent.wait = .free → Header.parse f.payload = some h →
      s.managerSource h f.src = false →
      ∃ t, exec .classifyFrame s = .next t ∧ UnchangedBut [.ports, .cls] s t ∧
        (∀ q, q ≠ p → t.port q = s.port q) ∧ FarmPort.FrameTaken (s.port p) (t.port p) rest ∧
        (t.port p).claims = (s.port p).claims ∧
        (t.port p).unknownSource = bump (s.port p).unknownSource ∧
        t.cls = { lastServed := p, passed := none }) ∧
    (f.kind = some 0x30 → s.agent.wait = .free → Header.parse f.payload = none →
      ∃ t, exec .classifyFrame s = .next t ∧ UnchangedBut [.ports, .cls] s t ∧
        (∀ q, q ≠ p → t.port q = s.port q) ∧ FarmPort.FrameTaken (s.port p) (t.port p) rest ∧
        (t.port p).claims = (s.port p).claims ∧
        (t.port p).unknownSource = (s.port p).unknownSource ∧
        t.cls = { lastServed := p, passed := none }) ∧
    (∀ n e c, f.kind ≠ some 0x30 → s.beingForgotten f.src = false → ChannelLaw s →
      s.nodeByAddr f.src = some (n, e) → e.state ≠ .halted → malformed f.payload = some c →
      ∃ t, exec .classifyFrame s = .next t ∧ UnchangedBut [.ports, .cls, .nodes, .mail] s t ∧
        (∀ q, q ≠ p → t.port q = s.port q) ∧ FarmPort.FrameTaken (s.port p) (t.port p) rest ∧
        (t.port p).claims = (s.port p).claims ∧
        (t.port p).unknownSource = (s.port p).unknownSource ∧
        t.cls = { lastServed := p, passed := none } ∧
        t.node? n = some { e with state := .halted } ∧ (∀ m, m ≠ n → t.node? m = s.node? m) ∧
        t.mail = { s.mail with nodeToAgent :=
          s.mail.nodeToAgent ++
            [AgentMsg.notice (.nodeHalted e.addr c p (f.kind.getD Config.absentKind) e.state)] ++
            (if e.state = .draining then [AgentMsg.drainAnswer e.addr .wrongState] else []) })

/-! ### The lending protocol -/

/-- BORROW that passes every check of R25 (R26 to R28): granted at once it fills the lowest free loan
entry, raises the volume's and the node's counts and answers OK with handle and term; else it is refused
UNAVAILABLE_NOW with wait limit 0, or waits at the tail of the volume's list and answers QUEUED with its
position and the limit used; with no entry or no record free it answers POOL_FULL. -/
def Obligations.BorrowAdmitted : Prop :=
  ∀ (s : State) (n : Nat) (h : Header) (e : Node) (m : LoanMode) (vol : Volume),
    s.lendingFrame 0x01 = some (n, h) → s.node? n = some e → LoanMode.ofValue h.code = some m →
    s.borrowCheck n e h.volume.toNat m = none → s.volume? h.volume.toNat = some vol →
    (∀ i, vol.waitList = [] → s.compatible h.volume.toNat m = true →
      s.lm.loans.lowestFree 1024 = some i →
      ∃ t, exec .borrow s = .next t ∧ UnchangedBut [.cls, .lm, .nodes, .ports] s t ∧
        t.cls = { s.cls with passed := none } ∧
        t.loan? i = some { holder := n, volume := h.volume.toNat, mode := m, state := .held,
                           termDeadline := s.now + secs vol.term, outstanding := 0 } ∧
        OtherLoansUnchanged i s t ∧
        t.volume? h.volume.toNat = some { vol with
          loanCount := vol.loanCount + 1,
          state := if vol.state = .idle then .lent else vol.state } ∧
        OtherVolumesUnchanged h.volume.toNat s t ∧
        t.node? n = some { e with loanWait := e.loanWait + 1 } ∧ OtherNodesUnchanged n s t ∧
        t.ports = (s.placeForNode n { replyHeader 0x01 h.tag .ok with
          volume := h.volume, handle := handleOf i (s.generation i),
          valueA := BitVec.ofNat 32 vol.term }).ports) ∧
    (vol.waitList = [] → s.compatible h.volume.toNat m = true →
      s.lm.loans.lowestFree 1024 = none →
      exec .borrow s = .next (s.freeClassifier.placeForNode n
        { replyHeader 0x01 h.tag .poolFull with volume := h.volume })) ∧
    (¬ (vol.waitList = [] ∧ s.compatible h.volume.toNat m = true) → h.valueA = 0 →
      exec .borrow s = .next (s.freeClassifier.placeForNode n
        { replyHeader 0x01 h.tag .unavailableNow with volume := h.volume })) ∧
    (¬ (vol.waitList = [] ∧ s.compatible h.volume.toNat m = true) → h.valueA ≠ 0 →
      s.lm.waits.lowestFree 256 = none →
      exec .borrow s = .next (s.freeClassifier.placeForNode n
        { replyHeader 0x01 h.tag .poolFull with volume := h.volume })) ∧
    (∀ r, ¬ (vol.waitList = [] ∧ s.compatible h.volume.toNat m = true) → h.valueA ≠ 0 →
      s.lm.waits.lowestFree 256 = some r →
      ∃ t, exec .borrow s = .next t ∧ UnchangedBut [.cls, .lm, .nodes, .ports] s t ∧
        t.cls = { s.cls with passed := none } ∧
        t.lm.waits.get r = some { node := n, volume := h.volume.toNat, mode := m,
                                  deadline := s.now + secs (min 600 h.valueA.toNat) } ∧
        (∀ q, q ≠ r → t.lm.waits.get q = s.lm.waits.get q) ∧ t.lm.loans = s.lm.loans ∧
        t.lm.generations = s.lm.generations ∧ t.lm.retry = s.lm.retry ∧ t.lm.bays = s.lm.bays ∧
        t.lm.resetShare = s.lm.resetShare ∧
        t.volume? h.volume.toNat = some { vol with waitList := vol.waitList ++ [r] } ∧
        OtherVolumesUnchanged h.volume.toNat s t ∧
        t.node? n = some { e with loanWait := e.loanWait + 1 } ∧ OtherNodesUnchanged n s t ∧
        t.ports = (s.placeForNode n { replyHeader 0x01 h.tag .queued with
          volume := h.volume, valueA := BitVec.ofNat 32 (vol.waitList.length + 1),
          valueB := BitVec.ofNat 32 (min 600 h.valueA.toNat) }).ports)

/-- BORROW that a check of R25 refuses: the first check that fails gives the code, ALREADY_HELD names the
loan or the waiting position the node has (R28), and no state changes. A volume is impaired where the
bays, as the loan manager last took them by a report or at a definition, do not have a segment of it
served, which is the model's inference (R7, R13; log entry 15). -/
def Obligations.BorrowRefused : Prop :=
  ∀ (s : State) (n : Nat) (h : Header) (e : Node) (m : LoanMode),
    s.lendingFrame 0x01 = some (n, h) → s.node? n = some e → LoanMode.ofValue h.code = some m →
    (s.volume? h.volume.toNat = none →
      exec .borrow s = .next (s.freeClassifier.placeForNode n
        { replyHeader 0x01 h.tag .noSuchVolume with volume := h.volume })) ∧
    ∀ vol, s.volume? h.volume.toNat = some vol →
      (vol.cls.allows m = false →
        exec .borrow s = .next (s.freeClassifier.placeForNode n
          { replyHeader 0x01 h.tag .classForbids with volume := h.volume })) ∧
      (vol.cls.allows m = true → e.state = .draining ∨ e.state = .drained →
        exec .borrow s = .next (s.freeClassifier.placeForNode n
          { replyHeader 0x01 h.tag .draining with volume := h.volume })) ∧
      (vol.cls.allows m = true → e.state ≠ .draining → e.state ≠ .drained →
        (∀ i l, s.loanOn n h.volume.toNat = some (i, l) →
          exec .borrow s = .next (s.freeClassifier.placeForNode n
            { replyHeader 0x01 h.tag .alreadyHeld with
              volume := h.volume, handle := handleOf i (s.generation i),
              detail := l.state.value })) ∧
        (∀ r, s.loanOn n h.volume.toNat = none → s.recordOn n h.volume.toNat = some r →
          exec .borrow s = .next (s.freeClassifier.placeForNode n
            { replyHeader 0x01 h.tag .alreadyHeld with
              volume := h.volume, valueA := BitVec.ofNat 32 (vol.waitList.idxOf r + 1) })) ∧
        (s.loanOn n h.volume.toNat = none → s.recordOn n h.volume.toNat = none → 8 ≤ e.loanWait →
          exec .borrow s = .next (s.freeClassifier.placeForNode n
            { replyHeader 0x01 h.tag .loanLimit with volume := h.volume })) ∧
        (s.loanOn n h.volume.toNat = none → s.recordOn n h.volume.toNat = none → e.loanWait < 8 →
          vol.state = .clearFailed ∨ s.impaired vol = true →
          exec .borrow s = .next (s.freeClassifier.placeForNode n
            { replyHeader 0x01 h.tag .volumeBlocked with volume := h.volume })))

/-- RENEW (R34) and RETURN (R39): refused for a handle that is not the sender's, answered LOAN_ENDING
with the reason for an ENDING loan; a RENEW of a RECALLING loan is answered IN_RECALL with the grace left
and renews nothing, of a HELD loan it sets the term deadline anew; a RETURN ends a HELD or RECALLING loan
with RETURNED and answers the outstanding count, and with requests outstanding the entry stays. -/
def Obligations.RenewAndReturn : Prop :=
  ∀ (s : State) (n : Nat) (h : Header),
    (s.lendingFrame 0x02 = some (n, h) →
      (s.loanOf h.handle n = none →
        exec .renew s = .next (s.freeClassifier.placeForNode n
          { replyHeader 0x02 h.tag .noSuchLoan with handle := h.handle })) ∧
      ∀ l, s.loanOf h.handle n = some l →
        (∀ r, l.state = .ending r →
          exec .renew s = .next (s.freeClassifier.placeForNode n
            { replyHeader 0x02 h.tag .loanEnding with handle := h.handle, detail := r.value })) ∧
        (∀ d, l.state = .recalling d →
          exec .renew s = .next (s.freeClassifier.placeForNode n
            { replyHeader 0x02 h.tag .inRecall with
              handle := h.handle, valueA := BitVec.ofNat 32 ((d - s.now) / secs 1) })) ∧
        (∀ vol, l.state = .held → s.volume? l.volume = some vol →
          ∃ t, exec .renew s = .next t ∧ UnchangedBut [.cls, .lm, .ports] s t ∧
            t.cls = { s.cls with passed := none } ∧
            t.loan? (handleIndex h.handle) =
              some { l with termDeadline := s.now + secs vol.term } ∧
            OtherLoansUnchanged (handleIndex h.handle) s t ∧ t.lm.volumes = s.lm.volumes ∧
            t.ports = (s.placeForNode n { replyHeader 0x02 h.tag .ok with
              handle := h.handle, valueA := BitVec.ofNat 32 vol.term }).ports)) ∧
    (s.lendingFrame 0x03 = some (n, h) →
      (s.loanOf h.handle n = none →
        exec .returnLoan s = .next (s.freeClassifier.placeForNode n
          { replyHeader 0x03 h.tag .noSuchLoan with handle := h.handle })) ∧
      ∀ l, s.loanOf h.handle n = some l →
        (∀ r, l.state = .ending r →
          exec .returnLoan s = .next (s.freeClassifier.placeForNode n
            { replyHeader 0x03 h.tag .loanEnding with handle := h.handle, detail := r.value })) ∧
        (l.state.isEnding = false → 0 < l.outstanding →
          ∃ t, exec .returnLoan s = .next t ∧ UnchangedBut [.cls, .lm, .ports] s t ∧
            t.cls = { s.cls with passed := none } ∧
            t.loan? (handleIndex h.handle) = some { l with state := .ending .returned } ∧
            OtherLoansUnchanged (handleIndex h.handle) s t ∧ t.lm.volumes = s.lm.volumes ∧
            t.ports = (s.placeForNode n { replyHeader 0x03 h.tag .ok with
              handle := h.handle, valueA := BitVec.ofNat 32 l.outstanding }).ports) ∧
        (l.state.isEnding = false → l.outstanding = 0 →
          ∃ u, exec .returnLoan s = .next (u.freeLoan (handleIndex h.handle)) ∧
            UnchangedBut [.cls, .lm, .ports] s u ∧ u.cls = { s.cls with passed := none } ∧
            u.loan? (handleIndex h.handle) = some { l with state := .ending .returned } ∧
            OtherLoansUnchanged (handleIndex h.handle) s u ∧ u.lm.volumes = s.lm.volumes ∧
            u.ports = (s.placeForNode n { replyHeader 0x03 h.tag .ok with
              handle := h.handle, valueA := 0 }).ports))

/-- LOAN_CLAIM (R35): refused NO_SUCH_LOAN or LOAN_ENDING with the loan unchanged; accepted on a HELD
loan, which it renews, and on a RECALLING one, which it does not. The outstanding count rises with the
acceptance. -/
def Obligations.LoanClaim : Prop :=
  ∀ (s : State) (c : Claim), s.mail.claim = some c →
    (s.loanOf c.handle c.node = none →
      exec .loanClaim s = .next { s with
        mail := { s.mail with claim := none, claimAnswer := some (.refused .noSuchLoan) } }) ∧
    ∀ l, s.loanOf c.handle c.node = some l →
      (l.state.isEnding = true →
        exec .loanClaim s = .next { s with
          mail := { s.mail with claim := none, claimAnswer := some (.refused .loanEnding) } }) ∧
      (∀ vol, l.state = .held → s.volume? l.volume = some vol →
        ∃ t, exec .loanClaim s = .next t ∧ UnchangedBut [.lm, .mail] s t ∧
          t.mail = { s.mail with claim := none, claimAnswer := some .accepted } ∧
          t.loan? (handleIndex c.handle) =
            some { l with outstanding := l.outstanding + 1, termDeadline := s.now + secs vol.term } ∧
          OtherLoansUnchanged (handleIndex c.handle) s t ∧ t.lm.volumes = s.lm.volumes) ∧
      (∀ d, l.state = .recalling d →
        ∃ t, exec .loanClaim s = .next t ∧ UnchangedBut [.lm, .mail] s t ∧
          t.mail = { s.mail with claim := none, claimAnswer := some .accepted } ∧
          t.loan? (handleIndex c.handle) = some { l with outstanding := l.outstanding + 1 } ∧
          OtherLoansUnchanged (handleIndex c.handle) s t ∧ t.lm.volumes = s.lm.volumes)

/-- LOAN_QUIET takes the oldest quiet report and frees the entry of an ENDING loan with no outstanding
requests that it names (R44, R45); a report whose handle names no such loan frees nothing. The freeing of
an entry, by this command or in the course of another: its generation rises by one modulo 64, the
holder's count falls, and the volume has a loan less. A LIBRARY or SHOT volume with no loan left is IDLE,
and one with more, or not SCRATCH, is granted from; a SCRATCH volume with none left enters CLEARING and
its bays' queues are listed from; then the grant retry order is served (R30) and the end of a soft
reset's share examined (R43). With nothing waiting that is the whole, stated for itself, and so is the
clearing of one segment that is served, whose extent is sent to the clear engine. The two pending-clear
reports of one event, true and then false, are the model's inference (log entry 16), and so is that every
reference is appended before the first listing (log entry 59). -/
def Obligations.LoanFreed : Prop :=
  (∀ (s taken : State) (h : BitVec 16) (rest : List (BitVec 16)), s.mail.quietLoans = h :: rest →
    taken = { s with mail := { s.mail with quietLoans := rest } } →
    ((∀ l, s.currentLoan h = some l → l.state.isEnding = false ∨ 0 < l.outstanding) →
      exec .loanQuiet s = .next taken) ∧
    ∀ l, s.currentLoan h = some l → l.state.isEnding = true → l.outstanding = 0 →
      exec .loanQuiet s = .next (taken.freeLoan (handleIndex h))) ∧
  ∀ (s : State) (i : Nat),
    (s.loan? i = none → s.freeLoan i = s) ∧
    ∀ l vol e, s.loan? i = some l → s.volume? l.volume = some vol → s.node? l.holder = some e →
      let Freed (t : State) : Prop :=
        t.loan? i = none ∧ (∀ j, j ≠ i → t.loan? j = s.loan? j) ∧
        t.generation i = (s.generation i + 1) % 64 ∧
        (∀ j, j ≠ i → t.generation j = s.generation j) ∧
        t.node? l.holder = some { e with loanWait := e.loanWait - 1 } ∧
        OtherNodesUnchanged l.holder s t ∧ t.lm.waits = s.lm.waits ∧ t.lm.retry = s.lm.retry ∧
        t.lm.resetShare = s.lm.resetShare
      (vol.cls ≠ .scratch ∨ 1 < vol.loanCount →
        ∃ t, UnchangedBut [.lm, .nodes] s t ∧ Freed t ∧ t.lm.bays = s.lm.bays ∧
          t.volume? l.volume = some { vol with
            loanCount := vol.loanCount - 1,
            state := if vol.loanCount - 1 = 0 then .idle else vol.state } ∧
          OtherVolumesUnchanged l.volume s t ∧
          s.freeLoan i = (t.grant l.volume).retryGrants.checkLmReset ∧
          (vol.waitList = [] → s.lm.retry = [] → s.lm.resetShare = false → s.freeLoan i = t)) ∧
      (vol.cls = .scratch → vol.loanCount = 1 →
        ∃ t, UnchangedBut [.lm, .nodes, .bayMail] s t ∧ Freed t ∧
          s.Clears t l.volume { vol with loanCount := 0 } ∧
          s.freeLoan i = (t.listFor vol).retryGrants.checkLmReset) ∧
      ∀ g t, t = s.freeLoan i → vol.cls = .scratch → vol.loanCount = 1 → vol.segments = [g] →
        s.served g = true → (s.lmBay g.bay).pendingClear = [] → (s.lmBay g.bay).listed < 8 →
        s.lm.retry = [] → s.lm.resetShare = false →
        UnchangedBut [.lm, .nodes, .bayMail] s t ∧ Freed t ∧
          t.volume? l.volume = some { vol with
            loanCount := 0, state := .clearing, segments := [{ g with clear := .listed }] } ∧
          OtherVolumesUnchanged l.volume s t ∧
          t.lmBay g.bay = { s.lmBay g.bay with listed := (s.lmBay g.bay).listed + 1 } ∧
          t.bmail g.bay = { s.bmail g.bay with
            lmToUnit := (s.bmail g.bay).lmToUnit ++
              [.pendingClear true, .pendingClear false,
               .extent l.volume 0 g.identity g.base g.length] } ∧
          ∀ c, c ≠ g.bay → t.bmail c = s.bmail c ∧ t.lmBay c = s.lmBay c

/-- TERM_EXPIRY (R36) and GRACE_EXPIRY (R38), no earlier than the deadline: the loan enters ENDING with
EXPIRED or RECALLED, the holder is sent ENDED and, for a term, the manager is told while its slot is
filled (R47), with a notice that the agent places after the notices of the freeing (the model's choice,
log entry 57); with requests outstanding the entry stays, with none it is freed (R44). Before its
deadline, or in another state of the loan, an expiry has no effect. -/
def Obligations.LoanTimers : Prop :=
  ∀ (s : State) (i : Nat) (l : Loan), s.loan? i = some l →
    (l.state = .held → l.termDeadline ≤ s.now → ChannelLaw s →
      ∃ u, UnchangedBut [.lm, .ports, .mail] s u ∧
        u.loan? i = some { l with state := .ending .expired } ∧ OtherLoansUnchanged i s u ∧
        u.lm.volumes = s.lm.volumes ∧
        u.ports = (s.placeForNode l.holder { Header.blank with
          kind := 0x23, subcode := 0x03, handle := handleOf i (s.generation i),
          volume := BitVec.ofNat 8 l.volume, detail := EndReason.expired.value }).ports ∧
        u.mail = { s.mail with lmToAgent := s.mail.lmToAgent ++
          (if s.agent.slot.isSome = true
           then [AgentMsg.notice (.loanExpired (handleOf i (s.generation i)) l.volume l.mode
             (s.nodeAddr l.holder))]
           else []) } ∧
        exec (.termExpiry i) s = .next (if l.outstanding = 0 then u.freeLoan i else u)) ∧
    (l.state ≠ .held ∨ s.now < l.termDeadline → exec (.termExpiry i) s = .next s) ∧
    (∀ d, l.state = .recalling d → d ≤ s.now →
      ∃ u, UnchangedBut [.lm, .ports] s u ∧
        u.loan? i = some { l with state := .ending .recalled } ∧ OtherLoansUnchanged i s u ∧
        u.lm.volumes = s.lm.volumes ∧
        u.ports = (s.placeForNode l.holder { Header.blank with
          kind := 0x23, subcode := 0x03, handle := handleOf i (s.generation i),
          volume := BitVec.ofNat 8 l.volume, detail := EndReason.recalled.value }).ports ∧
        exec (.graceExpiry i) s = .next (if l.outstanding = 0 then u.freeLoan i else u)) ∧
    ((∀ d, l.state = .recalling d → s.now < d) → exec (.graceExpiry i) s = .next s)

/-- WAIT_TIMER_EXPIRY (R31, R32), no earlier than the deadline, removes the record: it is freed and
leaves its wait list, the node's count falls, WAIT_EXPIRED is placed, a volume with an emptied list
leaves the grant retry order (R30), and where the record stood at the head of a list that still holds
records, the new head is granted from (R29). A forget removes its node's records in the same way without
a notice. An expiry of a record that is gone has no effect. -/
def Obligations.WaitExpiry : Prop :=
  (∀ (s : State) (r : Nat), s.lm.waits.get r = none → exec (.waitTimerExpiry r) s = .next s) ∧
  ∀ (s : State) (r : Nat) (w : WaitRec) (vol : Volume) (e : Node),
    s.lm.waits.get r = some w → s.volume? w.volume = some vol → s.node? w.node = some e →
    (w.deadline ≤ s.now → exec (.waitTimerExpiry r) s = .next (s.removeAndGrant r true)) ∧
    (s.now < w.deadline → exec (.waitTimerExpiry r) s = .next s) ∧
    ∀ (notice : Bool) (u : State), u = s.removeRecord r notice →
      UnchangedBut [.lm, .nodes, .ports] s u ∧ u.lm.waits.get r = none ∧
        (∀ q, q ≠ r → u.lm.waits.get q = s.lm.waits.get q) ∧
        u.volume? w.volume = some { vol with waitList := vol.waitList.filter (· ≠ r) } ∧
        OtherVolumesUnchanged w.volume s u ∧
        u.node? w.node = some { e with loanWait := e.loanWait - 1 } ∧
        OtherNodesUnchanged w.node s u ∧
        u.lm.loans = s.lm.loans ∧ u.lm.generations = s.lm.generations ∧ u.lm.bays = s.lm.bays ∧
        u.lm.resetShare = s.lm.resetShare ∧
        u.lm.retry = (if vol.waitList.filter (· ≠ r) = []
          then s.lm.retry.filter (· ≠ w.volume) else s.lm.retry) ∧
        u.ports = (if notice = true
          then (s.placeForNode w.node { Header.blank with
            kind := 0x23, subcode := 0x04, volume := BitVec.ofNat 8 w.volume,
            code := w.mode.value }).ports
          else s.ports) ∧
        s.removeAndGrant r notice =
          (if vol.waitList.head? = some r ∧ 1 < vol.waitList.length then u.grant w.volume else u)

/-- Granting from the head of a wait list (R29, R30): a compatible head record becomes a loan in the
lowest free entry with a GRANTED notice, and granting goes on behind it; at an empty list or an
incompatible head it ends and the volume leaves the grant retry order; with no entry free the volume
stands in that order, at the tail if it is new there. The order is served from its head while an entry is
free and until a volume is left in it for want of one. -/
def Obligations.GrantFromHead : Prop :=
  (∀ s : State,
    (s.lm.retry = [] ∨ s.lm.loans.lowestFree 1024 = none → s.retryGrants = s) ∧
    ∀ v rest, s.lm.retry = v :: rest → s.lm.loans.lowestFree 1024 ≠ none → s.volume? v ≠ none →
      (v ∈ (s.grant v).lm.retry → s.retryGrants = s.grant v) ∧
      (v ∉ (s.grant v).lm.retry → s.retryGrants = (s.grant v).retryGrants)) ∧
  ∀ (s : State) (v : Nat) (vol : Volume), s.volume? v = some vol →
    (vol.waitList = [] →
      s.grant v = { s with lm := { s.lm with retry := s.lm.retry.filter (· ≠ v) } }) ∧
    ∀ r rest w, vol.waitList = r :: rest → vol.waitList.Nodup → s.lm.waits.get r = some w →
      (s.compatible v w.mode = false →
        s.grant v = { s with lm := { s.lm with retry := s.lm.retry.filter (· ≠ v) } }) ∧
      (s.compatible v w.mode = true → s.lm.loans.lowestFree 1024 = none →
        s.grant v = { s with lm := { s.lm with
          retry := if v ∈ s.lm.retry then s.lm.retry else s.lm.retry ++ [v] } }) ∧
      (∀ i, s.compatible v w.mode = true → s.lm.loans.lowestFree 1024 = some i →
        ∃ u, s.grant v = u.grant v ∧ UnchangedBut [.lm, .ports] s u ∧
          u.loan? i = some { holder := w.node, volume := v, mode := w.mode, state := .held,
                             termDeadline := s.now + secs vol.term, outstanding := 0 } ∧
          (∀ j, j ≠ i → u.loan? j = s.loan? j) ∧ u.lm.waits.get r = none ∧
          (∀ q, q ≠ r → u.lm.waits.get q = s.lm.waits.get q) ∧
          u.volume? v = some { vol with
            waitList := rest, loanCount := vol.loanCount + 1,
            state := if vol.state = .idle then .lent else vol.state } ∧
          OtherVolumesUnchanged v s u ∧ u.lm.generations = s.lm.generations ∧
          u.lm.retry = s.lm.retry ∧ u.lm.bays = s.lm.bays ∧
          u.ports = (s.placeForNode w.node { Header.blank with
            kind := 0x23, subcode := 0x01, handle := handleOf i (s.generation i),
            volume := BitVec.ofNat 8 v, code := w.mode.value,
            valueA := BitVec.ofNat 32 vol.term }).ports)

/-- LOAN_MANAGER_RESET (R43): every waiting record is removed with a WAIT_EXPIRED, its node's count
lowered, the grant retry order is empty, each HELD or RECALLING loan is ENDING with RESET and an ENDED
placed while an ENDING one keeps its reason, and those of them with no outstanding request are freed,
records and loans in ascending order of their entries by the model's choice (log entry 17). All removals
come before all endings, and these before all freeings. The share is reported finished once no loan that
it ended is left, at once where none is. -/
def Obligations.LoanManagerReset : Prop :=
  (∀ s : State, s.mail.resetLm = true → s.lm.loans.wf 1024 = true → s.lm.waits.wf 256 = true →
    let expired (a : State) (x : Nat × WaitRec) : State :=
      a.placeForNode x.2.node { Header.blank with
        kind := 0x23, subcode := 0x04, volume := BitVec.ofNat 8 x.2.volume, code := x.2.mode.value }
    let ended (a : State) (x : Nat × Loan) : State :=
      a.placeForNode x.2.holder { Header.blank with
        kind := 0x23, subcode := 0x03, handle := handleOf x.1 (s.generation x.1),
        volume := BitVec.ofNat 8 x.2.volume, detail := EndReason.reset.value }
    let freed (a : State) (i : Nat) : State :=
      match a.loan? i with
      | some l => if l.outstanding = 0 then a.freeLoan i else a
      | none => a
    ∃ u, UnchangedBut [.lm, .nodes, .ports, .mail] s u ∧
      u.mail = { s.mail with resetLm := false } ∧ u.lm.waits = [] ∧ u.lm.retry = [] ∧
      (∀ i, u.loan? i = (s.loan? i).map fun l =>
        if l.state.isEnding then l else { l with state := .ending .reset }) ∧
      ((∀ v vol r, s.volume? v = some vol → r ∈ vol.waitList →
          ∃ w, s.lm.waits.get r = some w ∧ w.volume = v) →
        ∀ v vol, s.volume? v = some vol → u.volume? v = some { vol with waitList := [] }) ∧
      u.lm.generations = s.lm.generations ∧ u.lm.bays = s.lm.bays ∧
      u.lm.resetShare = s.lm.resetShare ∧
      (∀ n, u.node? n = (s.node? n).map fun e =>
        { e with loanWait := e.loanWait - (s.lm.waits.filter fun x => x.2.node == n).length }) ∧
      u.ports = ((s.lm.loans.filter fun x => !x.2.state.isEnding).foldl ended
        (s.lm.waits.foldl expired s)).ports ∧
      ∀ w, w = (s.liveLoans fun _ => true).foldl freed u →
        exec .loanManagerReset s =
          .next (State.checkLmReset { w with lm := { w.lm with resetShare := true } })) ∧
  ∀ s : State, settledChannel s.mail.lmToAgent = true →
    (s.lm.resetShare = true → (∀ e ∈ s.lm.loans, e.2.state ≠ .ending .reset) →
      s.checkLmReset = { s with
        lm := { s.lm with resetShare := false },
        mail := { s.mail with lmToAgent := s.mail.lmToAgent ++ [.resetFinished] } }) ∧
    (s.lm.resetShare = false ∨ (∃ e ∈ s.lm.loans, e.2.state = .ending .reset) →
      s.checkLmReset = s)

/-- The handle of a loan entry (R20): 64 times the entry's index plus its generation, from which both are
read back, as every handle is made of the two it names. -/
def Obligations.HandleLaw : Prop :=
  ∀ (i g : Nat), i < 1024 → g < 64 →
    (handleOf i g).toNat = 64 * i + g ∧ handleIndex (handleOf i g) = i ∧
    handleGen (handleOf i g) = g ∧
    ∀ (h : BitVec 16), handleOf (handleIndex h) (handleGen h) = h ∧ handleIndex h < 1024 ∧
      handleGen h < 64

/-! ### Block requests -/

/-- READ, WRITE and CHECK that pass every check of R55: the request is cut and its claim presented to the
loan manager (R56) with the count of R51, the effective count of R59 and the pieces of R60; nothing else
changes, and while a claim is in flight no further frame of a block request or ABORT is taken. -/
def Obligations.RequestPresented : Prop :=
  ∀ (s : State) (k : ReqKind),
    (∀ n p h data e l v, s.requestFrame k.code = some (n, p, h, data) → s.node? n = some e →
      s.checkLoan n e k h = .inr (l, v) →
      s.checkPieces v (admittingOf n p k h data l v).cuts = none →
      ∃ t a, exec (requestCommand k) s = .next t ∧ UnchangedBut [.cls, .ru, .mail] s t ∧
        t.cls = { s.cls with passed := none } ∧ t.ru = { s.ru with admitting := some a } ∧
        t.mail = { s.mail with claim := some { handle := h.handle, node := n } } ∧
        a.node = n ∧ a.port = p ∧ a.tag = h.tag ∧ a.handle = h.handle ∧ a.volume = l.volume ∧
        a.kind = k ∧ a.offset = h.offset.toNat ∧ a.countField = h.count ∧
        a.toEnd = (k == .check && h.toEnd) ∧
        (k = .read → a.requested = if h.count = 0 then 256 else min 256 h.count.toNat) ∧
        (k = .write → a.requested = h.count.toNat ∧ a.data = blocksOf h.count.toNat data) ∧
        (k = .check → h.toEnd = true →
          a.requested = min (v.window - h.offset.toNat) 4294967295) ∧
        (k = .check → h.toEnd = false →
          a.requested = if h.count = 0 then 65536 else h.count.toNat) ∧
        a.effective = min a.requested (v.window - h.offset.toNat) ∧
        (a.short = true ↔ a.effective < a.requested ∨ (k = .read ∧ 256 < h.count.toNat)) ∧
        a.cuts = v.cut h.offset.toNat a.effective) ∧
    (s.ru.admitting ≠ none → exec (requestCommand k) s = .next s ∧ exec .abort s = .next s)

/-- READ, WRITE and CHECK that a check of R55 refuses: the first check that fails gives the code of one
END on the arrival port, with good and effective count 0 (R58), and no state changes. -/
def Obligations.RequestRefused : Prop :=
  ∀ (s : State) (k : ReqKind) (n : Nat) (p : Port) (h : Header) (data : List Byte) (e : Node),
    s.requestFrame k.code = some (n, p, h, data) → s.node? n = some e →
    let Refused (c : Code) : Prop :=
      exec (requestCommand k) s = .next (s.freeClassifier.place p (OutFrame.build e.addr
        { Header.blank with kind := 0x22, subcode := k.code, tag := h.tag, handle := h.handle,
                            code := c.value } (.bytes [])))
    (e.state = .draining ∨ e.state = .drained → Refused .draining) ∧
    (e.state ≠ .draining → e.state ≠ .drained →
      (h.tag ∈ e.tags → Refused .tagInUse) ∧
      (h.tag ∉ e.tags →
        (s.ru.requests.lowestFree 512 = none → Refused .busy) ∧
        (∀ r, s.ru.requests.lowestFree 512 = some r →
          (s.loanOf h.handle n = none → Refused .noSuchLoan) ∧
          ∀ l, s.loanOf h.handle n = some l →
            (l.state.isEnding = true → Refused .loanEnding) ∧
            (l.state.isEnding = false →
              (k = .write → l.mode = .read → Refused .notPermitted) ∧
              (¬ (k = .write ∧ l.mode = .read) →
                ∀ v, s.volume? l.volume = some v →
                  (v.window ≤ h.offset.toNat → Refused .outOfWindow) ∧
                  (h.offset.toNat < v.window →
                    ∀ cuts, cuts = (admittingOf n p k h data l v).cuts →
                      ((∃ c ∈ cuts, s.cutServed v c = false) → Refused .diskUnavailable) ∧
                      ((∀ c ∈ cuts, s.cutServed v c = true) →
                        (v.wake = false → (∃ c ∈ cuts, (s.unit c.bay).state.asleep = true) →
                          Refused .asleep) ∧
                        (v.wake = true ∨ (∀ c ∈ cuts, (s.unit c.bay).state.asleep = false) →
                          s.hasRoomFor cuts = false → Refused .busy))))))))

/-- The cut of a range of the window into pieces (R60): the pieces' lengths sum to the count, each begins
where the one before ends, each lies in one segment, on its bay, at the block that the window position
names, and ends at the end of the range or of its segment; a piece begins QUEUED with done count 0. A
drive command that is issued for a piece touches no block but the piece's. -/
def Obligations.WindowCut : Prop :=
  (∀ (v : Volume) (o c : Nat), o + c ≤ v.window →
    ((v.cut o c).map Cut.length).sum = c ∧ (v.cut o c).length ≤ v.segments.length ∧
    ∀ (i : Nat) (x : Cut), (v.cut o c)[i]? = some x →
      x.window = o + (((v.cut o c).take i).map Cut.length).sum ∧ 0 < x.length ∧
      ∃ (j : Nat) (g : Segment) (start : Nat), v.segments[j]? = some g ∧
        start = ((v.segments.take j).map Segment.length).sum ∧
        x.bay = g.bay ∧ x.identity = g.identity ∧ start ≤ x.window ∧ x.window < start + g.length ∧
        x.start = g.base + (x.window - start) ∧
        x.length = min (o + c - x.window) (start + g.length - x.window)) ∧
  (∀ (x : Cut) (serial r : Nat),
    x.piece serial r = { serial := serial, request := r, bay := x.bay, start := x.start,
                         length := x.length, window := x.window, state := .queued, done := 0 }) ∧
  ∀ (j : Job) (k : Nat), j.done ≤ j.length → (j.kind = .write → j.data.length = j.length) →
    DriveCmd.touches j.command k → j.start ≤ k ∧ k < j.start + j.length

/-- CLAIM_ANSWER (R56 to R58): accepted, the lowest free request record is filled, each piece takes a
record and is appended to its bay's queue in window order with the identity its segment records, and the
node's tag and count are taken; refused, one END carries the code. The serial numbers of the pieces are
the model's choice (log entry 5), and that the node's tag and count are taken here, while the loan's
count was raised with the claim, its inference (log entry 26). -/
def Obligations.ClaimAnswered : Prop :=
  ∀ (s : State) (a : Admitting), s.ru.admitting = some a →
    (∀ r e, s.mail.claimAnswer = some .accepted → s.ru.requests.lowestFree 512 = some r →
      s.ru.pieces.wf 1024 = true → s.ru.pieces.length + a.cuts.length ≤ 1024 →
      s.node? a.node = some e →
      ∃ t ns, exec .claimAnswer s = .next t ∧ UnchangedBut [.ru, .mail, .bayMail, .nodes] s t ∧
        t.mail = { s.mail with claimAnswer := none } ∧
        t.ru = { s.ru with
          admitting := none, requests := t.ru.requests, pieces := t.ru.pieces,
          nextSerial := s.ru.nextSerial + a.cuts.length } ∧
        ns.length = a.cuts.length ∧ ns.Nodup ∧ (∀ n ∈ ns, s.piece? n = none ∧ n < 1024) ∧
        t.request? r = some {
          node := a.node, tag := a.tag, handle := a.handle, volume := a.volume,
          kind := a.kind, offset := a.offset, countField := a.countField, toEnd := a.toEnd,
          requested := a.requested, effective := a.effective, short := a.short, port := a.port,
          state := .queued, overrun := false, data := a.data, pieces := ns } ∧
        (∀ k, k ≠ r → t.request? k = s.request? k) ∧
        (∀ (i : Nat) (c : Cut), a.cuts[i]? = some c → ∃ n, ns[i]? = some n ∧
          t.piece? n = some {
            serial := s.ru.nextSerial + i, request := r, bay := c.bay,
            start := c.start, length := c.length, window := c.window, state := .queued, done := 0 }) ∧
        (∀ n, n ∉ ns → t.piece? n = s.piece? n) ∧
        (∀ b, t.bmail b = s.toldUnit b
          (((a.cuts.zip ns).zipIdx.filter fun x => x.1.1.bay == b).map fun x =>
            RuToUnit.append (appendedJob a x.1.1 x.1.2 (s.ru.nextSerial + x.2)) x.1.1.identity)) ∧
        t.node? a.node = some { e with tags := e.tags ++ [a.tag], outstanding := e.outstanding + 1 } ∧
        OtherNodesUnchanged a.node s t) ∧
    (∀ c, s.mail.claimAnswer = some (.refused c) →
      ∃ t, exec .claimAnswer s = .next t ∧ UnchangedBut [.ru, .mail, .ports] s t ∧
        t.mail = { s.mail with claimAnswer := none } ∧ t.ru = { s.ru with admitting := none } ∧
        t.ports = (s.place a.port (OutFrame.build (s.nodeAddr a.node)
          { Header.blank with kind := 0x22, subcode := a.kind.code, tag := a.tag,
                              handle := a.handle, code := c.value } (.bytes []))).ports)

/-- ABORT (R77, R78): a tag that names no outstanding request of the node is answered NO_SUCH_TAG on the
arrival port; a request already ABORTING keeps its cause; any other becomes ABORTING with ABORTED, and
each of its QUEUED pieces is sent a withdrawal, in window order by the model's choice (log entry 17). -/
def Obligations.Abort : Prop :=
  ∀ (s : State) (n : Nat) (p : Port) (h : Header) (data : List Byte),
    s.requestFrame 0x13 = some (n, p, h, data) →
    (s.requestByTag n h.tag = none →
      exec .abort s = .next (s.freeClassifier.place p (OutFrame.build (s.nodeAddr n)
        { Header.blank with kind := 0x20, tag := h.tag, subcode := 0x13,
                            code := Code.noSuchTag.value } (.bytes [])))) ∧
    (∀ r q c, s.requestByTag n h.tag = some (r, q) → q.state = .aborting c →
      exec .abort s = .next s.freeClassifier) ∧
    (∀ r q, s.requestByTag n h.tag = some (r, q) → q.state = .queued ∨ q.state = .running →
      ∃ t, exec .abort s = .next t ∧ UnchangedBut [.cls, .ru, .bayMail] s t ∧
        t.cls = { s.cls with passed := none } ∧
        t.ru = { s.ru with
          requests := s.ru.requests.set r { q with state := .aborting .aborted } } ∧
        ∀ c, t.bmail c = s.toldUnit c (s.withdrawals q .aborted c))

/-- Reports of a drive unit on a piece that does not end its request (R53, R63, R65 to R69, R73, R92):
started makes it ACTIVE and a QUEUED request RUNNING; done makes it DONE with its whole length; failed
gives it the reason and done count, OVERRUN and 0 where an overrun request's piece meets a media error; a
STAGED piece that a fault or a removal fails leaves its delivery list with the reason and the blocks
already placed, which may end its request, and the list is delivered from; withdrawn makes it WITHDRAWN;
an answer to a withdrawal, and a report of a piece that is final or gone, change no piece. -/
def Obligations.PieceReports : Prop :=
  ∀ (s : State) (b : Bay) (m : UnitToRu) (rest : List UnitToRu),
    (s.bmail b).unitToRu = m :: rest →
    let Ignored (c : Instr) : Prop :=
      exec c s = .next (s.setBmail b { s.bmail b with unitToRu := rest })
    (∀ r x, m = .answer r x → Ignored (.withdrawalAnswer b)) ∧
    (∀ r, s.pieceOf r = none ∨ (∃ pc, s.pieceOf r = some pc ∧ pc.state.final = true) →
      (m = .started r → Ignored (.pieceStartedReport b)) ∧
      (m = .done r → Ignored (.pieceDoneReport b)) ∧
      (∀ k md, m = .staged r k md → Ignored (.pieceStagedReport b)) ∧
      (∀ f d, m = .failed r f d → Ignored (.pieceFailedReport b)) ∧
      (∀ f, m = .withdrawn r f → Ignored (.pieceWithdrawnReport b))) ∧
    ∀ r pc q, s.pieceOf r = some pc → s.request? pc.request = some q →
      (m = .started r → pc.state = .queued →
        ∃ t, exec (.pieceStartedReport b) s = .next t ∧ OnlyBay [.ru, .bayMail] b s t ∧
          t.bmail b = { s.bmail b with unitToRu := rest } ∧
          t.piece? r.num = some { pc with state := .active } ∧
          t.request? pc.request =
            some { q with state := if q.state = .queued then .running else q.state } ∧
          OtherWorkUnchanged r.num pc.request s t ∧ t.ru.delivery = s.ru.delivery) ∧
      (∀ k md x f d, m = .failed r f d → pc.state = .staged k md x →
        ∃ u, exec (.pieceFailedReport b) s = .next ((u.finishIfFinal pc.request).deliver q.port) ∧
          OnlyBay [.ru, .bayMail] b s u ∧ u.bmail b = { s.bmail b with unitToRu := rest } ∧
          u.piece? r.num = some { pc with state := .failed f } ∧ u.request? pc.request = some q ∧
          OtherWorkUnchanged r.num pc.request s u ∧
          u.delivery q.port = (s.delivery q.port).filter (· ≠ r.num) ∧
          ∀ p, p ≠ q.port → u.delivery p = s.delivery p) ∧
      (s.GoesOn q r.num → pc.state.final = false →
        (m = .done r →
          ∃ t, exec (.pieceDoneReport b) s = .next t ∧ OnlyBay [.ru, .bayMail] b s t ∧
            t.bmail b = { s.bmail b with unitToRu := rest } ∧
            t.piece? r.num = some { pc with state := .done, done := pc.length } ∧
            t.request? pc.request = some q ∧ OtherWorkUnchanged r.num pc.request s t ∧
            t.ru.delivery = s.ru.delivery) ∧
        (∀ f, m = .withdrawn r f →
          ∃ t, exec (.pieceWithdrawnReport b) s = .next t ∧ OnlyBay [.ru, .bayMail] b s t ∧
            t.bmail b = { s.bmail b with unitToRu := rest } ∧
            t.piece? r.num = some { pc with state := .withdrawn f, done := 0 } ∧
            t.request? pc.request = some q ∧ OtherWorkUnchanged r.num pc.request s t ∧
            t.ru.delivery = s.ru.delivery) ∧
        (∀ f d, m = .failed r f d → pc.state = .active ∨ pc.state = .queued →
          ∃ t, exec (.pieceFailedReport b) s = .next t ∧ OnlyBay [.ru, .bayMail] b s t ∧
            t.bmail b = { s.bmail b with unitToRu := rest } ∧
            t.piece? r.num = some (
              if pc.state = .active ∧ q.overrun = true ∧ f = .mediaError
              then { pc with state := .failed .overrun, done := 0 }
              else { pc with state := .failed f, done := d }) ∧
            t.request? pc.request = some { q with
              state := if pc.state = .queued ∧ q.state = .queued then .running else q.state } ∧
            OtherWorkUnchanged r.num pc.request s t ∧ t.ru.delivery = s.ru.delivery))

/-- A request whose every piece is final ends (R75, R76): one END on the arrival port with the result and
good count of R76, the piece and request records free, the tag out of use, the node's and the loan's
counts lowered, "loan quiet" or "node quiet" reported where an ENDING loan or a DRAINING node has come to
0, and a soft reset's share that waits for the request reported finished with the last it waits for
(R79). With a piece that is not final nothing changes. A report that makes a piece final ends the request
in this way, an overrun one too (R73). -/
def Obligations.RequestCompletes : Prop :=
  (∀ (s : State) (k : Nat) (q : Request) (l : Loan) (e : Node) (ps : List Piece),
    s.request? k = some q → (∀ n ∈ q.pieces, ∃ p, s.piece? n = some p ∧ p.state.final = true) →
    ps = q.pieces.filterMap s.piece? → s.currentLoan q.handle = some l → s.node? q.node = some e →
    settledChannel s.mail.ruToAgent = true →
    let t := s.finishIfFinal k
    let left := s.ru.resetShare.map fun w => w.filter (· ≠ k)
    UnchangedBut [.ru, .lm, .nodes, .ports, .mail] s t ∧
    t.ports = (s.place q.port (OutFrame.build e.addr { Header.blank with
      kind := 0x22, subcode := q.kind.code, tag := q.tag, handle := q.handle,
      offset := BitVec.ofNat 48 q.offset, count := q.countField,
      flags := (if q.toEnd then 1 else 0) ||| (if q.short then 2 else 0),
      volume := BitVec.ofNat 8 q.volume, code := (resultOf q.state ps).value,
      valueA := BitVec.ofNat 32 (goodCount ps), valueB := BitVec.ofNat 32 q.effective }
      (.bytes []))).ports ∧
    t.ru = { s.ru with
      requests := t.ru.requests, pieces := t.ru.pieces,
      resetShare := if left = some [] then none else left } ∧
    t.request? k = none ∧ (∀ i, i ≠ k → t.request? i = s.request? i) ∧
    (∀ n ∈ q.pieces, t.piece? n = none) ∧ (∀ n, n ∉ q.pieces → t.piece? n = s.piece? n) ∧
    t.node? q.node = some { e with
      tags := e.tags.filter (· ≠ q.tag), outstanding := e.outstanding - 1 } ∧
    OtherNodesUnchanged q.node s t ∧
    t.loan? (handleIndex q.handle) = some { l with outstanding := l.outstanding - 1 } ∧
    OtherLoansUnchanged (handleIndex q.handle) s t ∧ t.lm.volumes = s.lm.volumes ∧
    t.mail = { s.mail with
      quietLoans := s.mail.quietLoans ++
        (if l.outstanding - 1 = 0 ∧ l.state.isEnding = true then [q.handle] else []),
      quietNodes := s.mail.quietNodes ++
        (if e.outstanding - 1 = 0 ∧ e.state = .draining then [q.node] else []),
      ruToAgent := s.mail.ruToAgent ++ (if left = some [] then [.resetFinished] else []) }) ∧
  (∀ (s : State) (k : Nat) (q : Request), s.request? k = some q →
    (∃ n ∈ q.pieces, ∃ p, s.piece? n = some p ∧ p.state.final = false) → s.finishIfFinal k = s) ∧
  ∀ (s : State) (b : Bay) (m : UnitToRu) (rest : List UnitToRu) (r : PieceRef) (pc : Piece)
      (q : Request) (c : Instr) (st : PieceState) (rst : ReqState) (d d' : Nat) (f : FailReason),
    (s.bmail b).unitToRu = m :: rest → s.pieceOf r = some pc → s.request? pc.request = some q →
    (m = .done r ∧ c = .pieceDoneReport b ∧ pc.state.final = false ∧ st = .done ∧ d = pc.length ∧
        rst = q.state) ∨
      (m = .withdrawn r f ∧ c = .pieceWithdrawnReport b ∧ pc.state.final = false ∧
        st = .withdrawn f ∧ d = 0 ∧ rst = q.state) ∨
      (m = .failed r f d' ∧ c = .pieceFailedReport b ∧ pc.state = .queued ∧ st = .failed f ∧ d = d' ∧
        rst = if q.state = .queued then .running else q.state) ∨
      (m = .failed r f d' ∧ c = .pieceFailedReport b ∧ pc.state = .active ∧ rst = q.state ∧
        (st, d) = if q.overrun = true ∧ f = .mediaError then (.failed .overrun, 0)
          else (.failed f, d')) →
    ∃ u, exec c s = .next (u.finishIfFinal pc.request) ∧ OnlyBay [.ru, .bayMail] b s u ∧
      u.bmail b = { s.bmail b with unitToRu := rest } ∧
      u.piece? r.num = some { pc with state := st, done := d } ∧
      u.request? pc.request = some { q with state := rst } ∧
      OtherWorkUnchanged r.num pc.request s u ∧ u.ru.delivery = s.ru.delivery

/-- Delivery of read data (R64, R70 to R74): a piece whose FETCH is reported becomes STAGED at the tail
of its port's delivery list with its timer set, and the list is delivered from, or is discarded where its
request was overrun; room on the port, and the port going DOWN or UP, deliver from the list too. Its head
is delivered while there is room, two blocks a frame, with the window offset and the count: a frame that
is not the piece's last sets its timer again (R72), and with the last the piece is DONE, or FAILED with
MEDIA_ERROR, leaves the list, gives back its staging buffer and may end its request, and the next piece
follows. That an out-of-date link report delivers by the port as it stands is the model's inference (log
entry 21), and the blocks of a buffer already discarded are its choice, a free value (log entry 9). -/
def Obligations.Delivery : Prop :=
  ∀ (s : State) (p : Port),
    (∀ b r k md rest pc q, (s.bmail b).unitToRu = .staged r k md :: rest → s.pieceOf r = some pc →
      pc.state.final = false → s.request? pc.request = some q →
      (q.overrun = true →
        ∃ t, exec (.pieceStagedReport b) s = .next (t.finishIfFinal pc.request) ∧
          UnchangedBut [.ru, .bayMail] s t ∧
          t.piece? r.num = some { pc with state := .failed .overrun, done := 0 } ∧
          t.request? pc.request = some q ∧ OtherWorkUnchanged r.num pc.request s t ∧
          t.ru.delivery = s.ru.delivery ∧
          ∀ c, t.bmail c = { s.bmail c with
            unitToRu := if c = b then rest else (s.bmail c).unitToRu,
            ruToUnit := (s.bmail c).ruToUnit ++ (if c = pc.bay then [.emptied r] else []) }) ∧
      (q.overrun = false →
        ∃ t, exec (.pieceStagedReport b) s = .next (t.deliver q.port) ∧ OnlyBay [.ru, .bayMail] b s t ∧
          t.bmail b = { s.bmail b with unitToRu := rest } ∧
          t.piece? r.num = some { pc with
            state := .staged k md (s.now + tens s.ru.deliveryLimit) } ∧
          t.request? pc.request = some q ∧ OtherWorkUnchanged r.num pc.request s t ∧
          t.delivery q.port = s.delivery q.port ++ [r.num] ∧
          ∀ j, j ≠ q.port → t.delivery j = s.delivery j)) ∧
    (∀ c m rest, (c = .egressRoom p ∧ m = .room) ∨ (c = .portLinkChange p ∧ m = .linkDown) ∨
        (c = .portLinkChange p ∧ m = .linkUp) → (s.pmail p).toRu = m :: rest →
      exec c s = .next ((s.setPmail p { s.pmail p with toRu := rest }).deliver p)) ∧
    (s.delivery p = [] → s.deliver p = s) ∧
    (∀ n l pc q k md d blocks, s.delivery p = n :: l → s.piece? n = some pc →
      pc.state = .staged k md d → s.request? pc.request = some q →
      blocks = s.stagedBlocks pc.bay { num := n, serial := pc.serial } pc.done (min 2 (k - pc.done)) →
      let sent := s.place p (OutFrame.build (s.nodeAddr q.node) { Header.blank with
        kind := 0x21, tag := q.tag, handle := q.handle, volume := BitVec.ofNat 8 q.volume,
        offset := BitVec.ofNat 48 (pc.window + pc.done),
        count := BitVec.ofNat 16 (min 2 (k - pc.done)) } (.blocks blocks))
      (s.dataRoom p (min 2 (k - pc.done)) = false → s.deliver p = s) ∧
      (pc.done + 2 < k → s.dataRoom p 2 = true →
        ∃ t, s.deliver p = t.deliver p ∧ UnchangedBut [.ports, .ru] s t ∧ t.ports = sent.ports ∧
          t.piece? n = some { pc with
            state := .staged k md (s.now + tens s.ru.deliveryLimit), done := pc.done + 2 } ∧
          t.request? pc.request = some q ∧ OtherWorkUnchanged n pc.request s t ∧
          t.ru.delivery = s.ru.delivery) ∧
      (pc.done < k → k ≤ pc.done + 2 → s.dataRoom p (k - pc.done) = true →
        ∃ t, s.deliver p = (t.finishIfFinal pc.request).deliver p ∧
          UnchangedBut [.ports, .ru, .bayMail] s t ∧ t.ports = sent.ports ∧
          t.piece? n = some { pc with
            state := if md then .failed .mediaError else .done, done := k } ∧
          t.request? pc.request = some q ∧ OtherWorkUnchanged n pc.request s t ∧
          t.delivery p = l.filter (· ≠ n) ∧ (∀ j, j ≠ p → t.delivery j = s.delivery j) ∧
          (∀ c, c ≠ pc.bay → t.bmail c = s.bmail c) ∧
          t.bmail pc.bay = s.toldUnit pc.bay [.emptied { num := n, serial := pc.serial }])) ∧
    (∀ n rest, (s.deliver p).delivery p = n :: rest →
      ∃ pc q k md d, (s.deliver p).piece? n = some pc ∧ pc.state = .staged k md d ∧
        (s.deliver p).request? pc.request = some q ∧
        (s.deliver p).dataRoom p (min 2 (k - pc.done)) = false)

/-- DELIVERY_TIMER_EXPIRY (R72, R73), no earlier than the deadline: the request is ABORTING with OVERRUN
unless it was ABORTING already, each of its STAGED pieces leaves the delivery list FAILED with OVERRUN at
the blocks already placed, its staging buffer given back, and its QUEUED pieces are withdrawn, both in
window order by the model's choice (log entry 17); the request ends where no piece is left, and the
port's list is delivered from. -/
def Obligations.Overrun : Prop :=
  ∀ (s : State) (n : Nat) (pc : Piece) (q : Request) (k : Nat) (md : Bool) (d : Nat),
    s.piece? n = some pc → pc.state = .staged k md d → s.request? pc.request = some q →
    (s.now < d → exec (.deliveryTimerExpiry n) s = .next s) ∧
    (d ≤ s.now → n ∈ q.pieces → q.pieces.Nodup →
      ∃ t, exec (.deliveryTimerExpiry n) s = .next ((t.finishIfFinal pc.request).deliver q.port) ∧
        UnchangedBut [.ru, .bayMail] s t ∧
        (∀ m x, s.piece? m = some x → t.piece? m =
          some (if m ∈ q.pieces ∧ Piece.isStaged x = true then { x with state := .failed .overrun } else x)) ∧
        (∀ m, s.piece? m = none → t.piece? m = none) ∧
        t.request? pc.request = some { q with overrun := true, state := endedBy q.state .overrun } ∧
        (∀ i, i ≠ pc.request → t.request? i = s.request? i) ∧
        t.ru = { s.ru with
          requests := t.ru.requests, pieces := t.ru.pieces, delivery := t.ru.delivery } ∧
        t.delivery q.port = (s.delivery q.port).filter (fun m =>
          !(q.pieces.contains m && (s.piece? m).any Piece.isStaged)) ∧
        (∀ p, p ≠ q.port → t.delivery p = s.delivery p) ∧
        ∀ c, t.bmail c = s.toldUnit c (s.discards q c ++ s.withdrawals q .overrun c))

/-- REQUEST_UNIT_RESET (R79): every request becomes ABORTING with RESET unless it was ABORTING already,
every QUEUED piece is sent a withdrawal, no piece changes yet, and the share waits for the requests in
the table; with none it is reported finished at once. It is not taken while a claim is in flight. The
requests in ascending order of their records, and the pieces of each in window order, are the model's
choice (log entry 17). -/
def Obligations.RequestUnitReset : Prop :=
  ∀ s : State, s.mail.resetRu = true →
    (s.ru.admitting ≠ none → exec .requestUnitReset s = .next s) ∧
    (s.ru.admitting = none → s.ru.requests = [] → ChannelLaw s →
      exec .requestUnitReset s = .next { s with mail := { s.mail with
        resetRu := false, ruToAgent := s.mail.ruToAgent ++ [.resetFinished] } }) ∧
    (s.ru.admitting = none → s.ru.requests ≠ [] → s.ru.requests.wf 512 = true →
      ∃ t, exec .requestUnitReset s = .next t ∧ UnchangedBut [.ru, .bayMail, .mail] s t ∧
        t.mail = { s.mail with resetRu := false } ∧
        t.ru = { s.ru with
          requests := s.ru.requests.map (fun e => (e.1, { e.2 with state := endedBy e.2.state .reset })),
          resetShare := some (s.ru.requests.map Prod.fst) } ∧
        ∀ c, t.bmail c = s.toldUnit c (s.ru.requests.flatMap fun e => s.withdrawals e.2 .reset c))

/-! ### Drive units -/

/-- Messages of the request unit at a drive unit (R87, R88, R92, R99, R139): a piece is refused by an
unhealthy unit or for another disk, withdrawn under a release, else queued, which wakes a STANDBY unit
and lets a READY one choose; a withdrawal takes a queued piece out, and is answered for any other; an
emptied staging buffer frees the unit to choose. That the release is tested before the identity is the
model's inference (log entry 24). -/
def Obligations.PieceCommands : Prop :=
  ∀ (s : State) (b : Bay) (u : DriveUnit) (m : RuToUnit) (rest : List RuToUnit),
    (s.bmail b).ruToUnit = m :: rest → s.unit b = u →
    let taken : BayMail := { s.bmail b with ruToUnit := rest }
    let Reports (c : Instr) (r : UnitToRu) : Prop :=
      ∃ t, exec c s = .next t ∧ OnlyBay [.bayMail] b s t ∧
        t.bmail b = { taken with unitToRu := taken.unitToRu ++ [r] }
    let Chooses (c : Instr) (v : DriveUnit) : Prop :=
      ∃ t, exec c s = .next (t.choose b) ∧ OnlyBay [.units, .bayMail] b s t ∧
        t.bmail b = taken ∧ t.unit b = v
    (∀ j id, m = .append j id →
      (u.state.healthy = false → Reports (.pieceAppend b) (.failed j.piece .diskUnavailable 0)) ∧
      (u.state.healthy = true → u.releaseUnderWay = true →
        Reports (.pieceAppend b) (.withdrawn j.piece .bayReleased)) ∧
      (u.state.healthy = true → u.releaseUnderWay = false → (∀ d, u.disk = some d → d.serial ≠ id) →
        Reports (.pieceAppend b) (.failed j.piece .diskUnavailable 0)) ∧
      (∀ d, u.state.healthy = true → u.releaseUnderWay = false → u.disk = some d → d.serial = id →
        (u.state = .standby →
          ∃ t, exec (.pieceAppend b) s = .next t ∧ s.BayBecomes t b
            { u with queue := u.queue ++ [j], idleTimer := none } .wakeWait
            { taken with unitToArb := taken.unitToArb ++ [.wanted] }) ∧
        (u.state ≠ .standby → u.state ≠ .ready →
          ∃ t, exec (.pieceAppend b) s = .next t ∧ OnlyBay [.units, .bayMail] b s t ∧
            t.bmail b = taken ∧ t.unit b = { u with queue := u.queue ++ [j], idleTimer := none }) ∧
        (u.state = .ready → Chooses (.pieceAppend b) { u with queue := u.queue ++ [j] }))) ∧
    (∀ r f, m = .withdraw r f →
      ((∃ j ∈ u.queue, j.piece = r) →
        ∃ t, exec (.pieceWithdrawal b) s = .next t ∧ OnlyBay [.units, .bayMail] b s t ∧
          t.bmail b = { taken with unitToRu := taken.unitToRu ++ [.withdrawn r f] } ∧
          t.unit b = DriveUnit.idleCheck { u with queue := u.queue.filter (·.piece ≠ r) } s.now) ∧
      ((∀ j ∈ u.queue, j.piece ≠ r) →
        ((∃ j, u.hand = some j ∧ j.piece = r) ∨ (∃ x, u.staging = some x ∧ x.piece = r) →
          Reports (.pieceWithdrawal b) (.answer r true)) ∧
        ((∀ j, u.hand = some j → j.piece ≠ r) → (∀ x, u.staging = some x → x.piece ≠ r) →
          Reports (.pieceWithdrawal b) (.answer r false)))) ∧
    (∀ r, m = .emptied r →
      ((∃ x, u.staging = some x ∧ x.piece = r) →
        Chooses (.stagingEmptied b) { u with staging := none }) ∧
      ((∀ x, u.staging = some x → x.piece ≠ r) →
        exec (.stagingEmptied b) s = .next (s.setBmail b taken)))

/-- The choice of a drive unit (R83, R89, R90, R91, R93, R94, R96, R123): a unit that is not READY, or
has a staged piece, starts nothing and has its idle timer examined; a sweep that is due issues the next
chunk and sets the counter to 0; else the CHECK piece in hand goes on, or the head of the queue is
started, and the counter rises to at most 64. -/
def Obligations.ChoiceLaw : Prop :=
  (∀ (s : State) (b : Bay), (s.unit b).state ≠ .ready → s.choose b = s.idle b) ∧
  (∀ (s : State) (b : Bay) (u : DriveUnit), s.unit b = u → u.state = .ready →
    let Begins (c : DriveCmd) (v : DriveUnit) (r : List UnitToRu) : Prop :=
      s.BayBecomes (s.choose b) b { DriveUnit.issuing v c s.now with idleTimer := none } .active
        { s.bmail b with unitToRu := (s.bmail b).unitToRu ++ r }
    (u.staging ≠ none → s.choose b = s.idle b) ∧
    (u.staging = none → u.engine.state = .sweeping →
      (u.hand = none ∧ u.queue = []) ∨ u.params.allowance ≤ u.pauseCounter →
      ∀ x, u.engine.list.find? (·.current) = some x →
        Begins (.zero (x.start + x.progress) (min 256 (x.length - x.progress)))
          { u with pauseCounter := 0 } []) ∧
    (u.staging = none →
      u.engine.state ≠ .sweeping ∨ (∀ x ∈ u.engine.list, x.current = false) ∨
        ((u.hand ≠ none ∨ u.queue ≠ []) ∧ u.pauseCounter < u.params.allowance) →
      (∀ j, u.hand = some j →
        Begins j.command { u with pauseCounter := min 64 (u.pauseCounter + 1) } []) ∧
      (∀ j rest, u.hand = none → u.queue = j :: rest →
        Begins j.command { u with
          hand := some j, queue := rest, pauseCounter := min 64 (u.pauseCounter + 1) }
          [.started j.piece]) ∧
      (u.hand = none → u.queue = [] → s.choose b = s.idle b))) ∧
  ∀ j : Job,
    (j.kind = .read → j.command = .fetch j.start j.length) ∧
    (j.kind = .write → j.command = .store j.start j.data) ∧
    (j.kind = .check → j.command = .probe (j.start + j.done) (min 256 (j.length - j.done)))

/-- The idle timer and the values a drive unit takes (R90, R100 to R103, R174): the idle time is the
factor, 16 for 0, times 10 s or 5 min, 60 s after power-on; the timer runs with it exactly while the
conditions of R101 hold, and on its expiry, no earlier than its deadline, the unit spins down; a new
allowance is used by a choice at once, a new keep-spinning setting examines the timer, and a timer limit
applies to timers set afterwards. That each TIMER_LIMIT_CHANGE takes one limit is the model's choice (log
entry 35). -/
def Obligations.IdleTimerAndValues : Prop :=
  (∀ (f : Nat) (long : Bool),
    idleTime f long = (if f = 0 then 16 else f) * (if long then 5 * 60000 * msec else 10000 * msec)) ∧
  DriveUnit.absent.params.idleFactor = 6 ∧ DriveUnit.absent.params.idleLong = false ∧
  idleTime 6 false = 60000 * msec ∧
  ∀ (s : State) (b : Bay) (u : DriveUnit), s.unit b = u →
    (OnlyBay [.units] b s (s.idle b) ∧
      (u.state = .ready ∧ u.queue = [] ∧ u.hand = none ∧ u.staging = none ∧ u.engine.list = [] ∧
          u.engine.state = .empty ∧ u.clearWaiting = false ∧ u.params.keepSpinning = false ∧
          u.releaseUnderWay = false →
        (s.idle b).unit b = { u with
          idleTimer := some (u.idleTimer.getD
            (s.now + idleTime u.params.idleFactor u.params.idleLong)) }) ∧
      (¬ (u.state = .ready ∧ u.queue = [] ∧ u.hand = none ∧ u.staging = none ∧ u.engine.list = [] ∧
          u.engine.state = .empty ∧ u.clearWaiting = false ∧ u.params.keepSpinning = false ∧
          u.releaseUnderWay = false) →
        (s.idle b).unit b = { u with idleTimer := none })) ∧
    (∀ d, u.idleTimer = some d →
      (s.now < d → exec (.idleTimerExpiry b) s = .next s) ∧
      (d ≤ s.now → ∃ t, exec (.idleTimerExpiry b) s = .next t ∧
        s.BayBecomes t b { DriveUnit.issuing u .spinDown s.now with idleTimer := none } .spinningDown
          (s.bmail b))) ∧
    (∀ k rest, (s.bmail b).keeps = k :: rest →
      ∃ t, exec (.keepSpinningChange b) s = .next (t.idle b) ∧ OnlyBay [.units, .bayMail] b s t ∧
        t.bmail b = { s.bmail b with keeps := rest } ∧
        t.unit b = { u with params := { u.params with keepSpinning := k } }) ∧
    (∀ a rest, (s.bmail b).allowances = a :: rest →
      ∃ t, exec (.pauseAllowanceChange b) s = .next (t.choose b) ∧ OnlyBay [.units, .bayMail] b s t ∧
        t.bmail b = { s.bmail b with allowances := rest } ∧
        t.unit b = { u with params := { u.params with allowance := a } }) ∧
    (∀ l rest, (s.bmail b).limits = l :: rest →
      ∃ t, exec (.timerLimitChange (.driveUnit b)) s = .next t ∧ OnlyBay [.units, .bayMail] b s t ∧
        t.bmail b = { s.bmail b with limits := rest } ∧
        (∀ n, l = .pieceLimit n → t.unit b = { u with params := { u.params with pieceLimit := n } }) ∧
        (∀ n, l = .spinUpLimit n → t.unit b = { u with params := { u.params with spinUpLimit := n } }) ∧
        (∀ n, l = .gatherWindow n →
          t.unit b = { u with params := { u.params with gatherWindow := n } }) ∧
        (∀ f g, l = .idleTime f g →
          t.unit b = { u with params := { u.params with idleFactor := f, idleLong := g } })) ∧
    (∀ n rest, s.mail.limits = n :: rest →
      exec (.timerLimitChange .requestUnit) s = .next { s with
        mail := { s.mail with limits := rest }, ru := { s.ru with deliveryLimit := n } })

/-- A good IDENTIFY of a disk of 1 block or more (R86, R139, R177): the disk is recorded, its capacity at
most 4,294,967,295, STANDBY entered, and reported to the loan manager and the agent; under a release the
unit goes on to SERVICE, reported in two messages by the model's choice (log entry 56). -/
def Obligations.IdentifyCompletion : Prop :=
  ∀ (s : State) (b : Bay) (u : DriveUnit) (n : Nat) (serial : Serial) (cap : Nat) (d : Disk)
      (m : BayMail),
    s.unit b = u → u.inFlight = some (n, .identify) → settledChannel (s.bmail b).unitToAgent = true →
    0 < cap → d = { serial := serial, capacity := min cap 4294967295 } →
    m = { s.bmail b with
      unitToLm := (s.bmail b).unitToLm ++ [.health .standby (some d) false],
      unitToAgent := (s.bmail b).unitToAgent ++ [.notice (.diskArrived b d)] } →
    (u.releaseUnderWay = false →
      ∃ t, exec (.identifyCompletion b n (.good serial cap)) s = .next t ∧
        s.BayBecomes t b { DriveUnit.quiet u with disk := some d } .standby m) ∧
    (u.releaseUnderWay = true →
      ∃ t, exec (.identifyCompletion b n (.good serial cap)) s = .next t ∧
        s.BayBecomes t b
          { DriveUnit.quiet u with
            disk := some d, releaseUnderWay := false, hand := none, queue := [], idleTimer := none,
            engine := { u.engine with closed := false } } .service
          { m with unitToLm := m.unitToLm ++ [.health .service (some d) false, .releaseEnd] })

/-- What puts a drive unit into FAULT (R86, R95 to R98, R106, R112, R126, R139): the piece in hand, the
queue and the staged piece are reported FAILED with DISK_FAULT, the clear list is reported failed, the
arbiter is told of a wait or place given up, timers stop, and the change is reported to the loan manager
and the agent; a time limit is counted; under a release the unit goes on to SERVICE. Before its deadline
a command timer does nothing, and nor does link loss in ABSENT, FAULT or SERVICE. That the entry from
IDENTIFYING is reported to the loan manager as well is the model's inference (log entry 27), and that a
staged piece fails also under a release is read from R98 against the example of 7.4 (log entry 52). -/
def Obligations.FaultEntered : Prop :=
  ∀ (s : State) (b : Bay) (u : DriveUnit), s.unit b = u →
    (∀ (c : Instr) (cause : FaultCause) (v : DriveUnit) (m : BayMail),
      s.Fails b c cause → settledChannel (s.bmail b).unitToAgent = true →
      v = { DriveUnit.quiet u with
        hand := none, queue := [], staging := none, idleTimer := none,
        engine := { u.engine with state := .empty, list := [] },
        timeouts := if cause = .timeLimit then min 4294967295 (u.timeouts + 1) else u.timeouts } →
      m = { s.bmail b with
        unitToRu := (s.bmail b).unitToRu ++
          (u.hand.toList.map (fun j => UnitToRu.failed j.piece .diskFault j.done)) ++
          (u.queue.map (fun j => UnitToRu.failed j.piece .diskFault 0)) ++
          (u.staging.toList.map (fun x => UnitToRu.failed x.piece .diskFault 0)),
        unitToLm := (s.bmail b).unitToLm ++
          (u.engine.list.map (fun x => UnitToLm.extentFailed x.vol x.seg)) ++
          [.health .fault u.disk false],
        unitToArb := (s.bmail b).unitToArb ++
          (if u.state = .wakeWait then [.withdrawn]
           else if u.state = .spinningUp then [.ended] else []),
        unitToAgent := (s.bmail b).unitToAgent ++
          [.notice (.diskFault b u.state cause (u.disk.map Disk.serial))] } →
      (u.releaseUnderWay = false →
        ∃ t, exec c s = .next t ∧ s.BayBecomes t b v .fault m) ∧
      (u.releaseUnderWay = true →
        ∃ t, exec c s = .next t ∧
          s.BayBecomes t b
            { v with releaseUnderWay := false, engine := { v.engine with closed := false } } .service
            { m with unitToLm := m.unitToLm ++ [.releaseEnd] })) ∧
    ((∀ d, u.commandTimer = some d → s.now < d) → exec (.commandTimerExpiry b) s = .next s) ∧
    ((∀ d, u.spinUpTimer = some d → s.now < d) → exec (.spinUpLimitExpiry b) s = .next s) ∧
    (u.state = .absent ∨ u.state = .fault ∨ u.state = .service → exec (.linkLost b) s = .next s)

/-- Ends of FETCH, STORE and PROBE (R66, R67, R91, R93 to R95, R138): each is reported to the request
unit and the unit chooses again, or spins down under a release; a media error is counted; a CHECK piece
goes on run by run until it is done, its request ends, or the bay is released. A completion of another
command than the one in flight changes nothing. That the release is tested before the end cause of the
request, so that BAY_RELEASED stands where both apply, is the model's inference (log entry 25). -/
def Obligations.TransferCompletions : Prop :=
  ∀ (s : State) (b : Bay) (u : DriveUnit) (n : Nat), s.unit b = u →
    (∀ c j, u.inFlight = some (n, c) → u.hand = some j →
      let counted : DriveUnit :=
        { u with hand := none, mediaErrors := min 4294967295 (u.mediaErrors + 1) }
      let Ends (i : Instr) (v : DriveUnit) (r : UnitToRu) : Prop :=
        s.ReadyAs i b v { s.bmail b with unitToRu := (s.bmail b).unitToRu ++ [r] }
      (∀ start len bs, c = .fetch start len →
        (bs.length = len → Ends (.fetchCompletion b n (.good bs))
          { u with hand := none, staging := some { piece := j.piece, blocks := bs } }
          (.staged j.piece len false)) ∧
        (bs ≠ [] → bs.length < len → Ends (.fetchCompletion b n (.media bs))
          { counted with staging := some { piece := j.piece, blocks := bs } }
          (.staged j.piece bs.length true)) ∧
        (0 < len → Ends (.fetchCompletion b n (.media [])) counted (.failed j.piece .mediaError 0))) ∧
      (∀ start data k, c = .store start data →
        Ends (.storeCompletion b n .good) { u with hand := none } (.done j.piece) ∧
        (k < data.length →
          Ends (.storeCompletion b n (.media k)) counted (.failed j.piece .mediaError k))) ∧
      (∀ start len k, c = .probe start len →
        (k < len →
          Ends (.probeCompletion b n (.media k)) counted (.failed j.piece .mediaError (j.done + k))) ∧
        (j.length ≤ j.done + len →
          Ends (.probeCompletion b n .good) { u with hand := none } (.done j.piece)) ∧
        (j.done + len < j.length →
          (u.releaseUnderWay = true → Ends (.probeCompletion b n .good) { u with hand := none }
            (.failed j.piece .bayReleased (j.done + len))) ∧
          (u.releaseUnderWay = false →
            (∀ e, s.abortCause j.piece = some e →
              Ends (.probeCompletion b n .good) { u with hand := none }
                (.failed j.piece e.reason (j.done + len))) ∧
            (s.abortCause j.piece = none →
              s.ReadyAs (.probeCompletion b n .good) b
                { u with hand := some { j with done := j.done + len } } (s.bmail b)))))) ∧
    ((∀ c, u.inFlight ≠ some (n, c)) → ∀ i x y o,
      i = .identifyCompletion b n x ∨ i = .fetchCompletion b n y ∨ i = .storeCompletion b n o ∨
        i = .probeCompletion b n o ∨ i = .zeroCompletion b n o ∨ i = .spinUpCompletion b n o ∨
        i = .spinDownCompletion b n o →
      exec i s = .next s)

/-- Ends of a ZERO (R119, R124, R125, R127, R128): a chunk raises the progress of the extent being worked
(the first CURRENT one, split off as `bf ++ x :: af`), or with the last chunk reports it done; a media
error, or a release during the chunk, reports it failed; an extent that leaves may end the sweep. That a
release ends a CHECK piece in hand with BAY_RELEASED also after a ZERO is the model's inference (log
entry 10). -/
def Obligations.ZeroCompletion : Prop :=
  ∀ (s : State) (b : Bay) (u : DriveUnit) (n start len : Nat) (bf af : List Extent) (x : Extent),
    s.unit b = u → u.inFlight = some (n, .zero start len) → u.engine.list = bf ++ x :: af →
    (∀ y ∈ bf, y.current = false) → x.current = true →
    (u.engine.closed = false → x.progress + len < x.length →
      s.ReadyAs (.zeroCompletion b n .good) b
        { u with engine := { u.engine with
          list := bf ++ { x with progress := x.progress + len } :: af } } (s.bmail b)) ∧
    ∃ f, EngineAfter u.engine f (bf ++ af) ∧
      (u.engine.closed = false → x.length ≤ x.progress + len →
        s.ReadyAs (.zeroCompletion b n .good) b { u with engine := f }
          { s.bmail b with unitToLm := (s.bmail b).unitToLm ++ [.extentDone x.vol x.seg] }) ∧
      (u.engine.closed = true →
        s.ReadyAs (.zeroCompletion b n .good) b { u with engine := f }
          { s.bmail b with unitToLm := (s.bmail b).unitToLm ++ [.extentFailed x.vol x.seg] }) ∧
      (∀ k, k < len →
        s.ReadyAs (.zeroCompletion b n (.media k)) b
          { u with engine := f, mediaErrors := min 4294967295 (u.mediaErrors + 1) }
          { s.bmail b with unitToLm := (s.bmail b).unitToLm ++ [.extentFailed x.vol x.seg] })

/-- Good ends of SPIN-UP and SPIN-DOWN (R99, R100, R112, R138 to R140): a SPIN-UP is reported to the
arbiter as ended and leaves the unit READY; a SPIN-DOWN leaves it in STANDBY, in WAKE_WAIT asking for a
spin-up where it has work, or under a release in SERVICE with the end of the release reported, after the
health report by the model's choice (log entry 56). -/
def Obligations.SpinCompletions : Prop :=
  ∀ (s : State) (b : Bay) (u : DriveUnit) (n : Nat), s.unit b = u →
    (u.inFlight = some (n, .spinUp) →
      s.ReadyAs (.spinUpCompletion b n .good) b u
        { s.bmail b with unitToArb := (s.bmail b).unitToArb ++ [.ended] }) ∧
    (u.inFlight = some (n, .spinDown) →
      (u.releaseUnderWay = false → u.queue = [] → u.hand = none → u.engine.state ≠ .sweeping →
        ∃ t, exec (.spinDownCompletion b n .good) s = .next t ∧
          s.BayBecomes t b (DriveUnit.quiet u) .standby (s.bmail b)) ∧
      (u.releaseUnderWay = false → u.queue ≠ [] ∨ u.hand ≠ none ∨ u.engine.state = .sweeping →
        ∃ t, exec (.spinDownCompletion b n .good) s = .next t ∧
          s.BayBecomes t b (DriveUnit.quiet u) .wakeWait
            { s.bmail b with unitToArb := (s.bmail b).unitToArb ++ [.wanted] }) ∧
      (u.releaseUnderWay = true → u.state = .spinningDown →
        ∃ t, exec (.spinDownCompletion b n .good) s = .next t ∧
          s.BayBecomes t b
            { DriveUnit.quiet u with
              releaseUnderWay := false, hand := none, queue := [], idleTimer := none,
              engine := { u.engine with closed := false } } .service
            { s.bmail b with
              unitToLm := (s.bmail b).unitToLm ++ [.health .service u.disk false, .releaseEnd] }))

/-! ### Spin-up arbiter, clearing, releases and bays -/

/-- The arbiter and the grant at a drive unit (R107 to R112): a bay that holds no place and does not wait
joins the wait order, and the report of any other is ignored; a withdrawn bay leaves the order; a
declined grant or an ended spin-up gives the place back; then the oldest waiting bays are granted as far
as the budget goes. A granted unit in WAKE_WAIT spins up under its spin-up limit; in any other state it
declines. -/
def Obligations.SpinUpArbiter : Prop :=
  ∀ (s : State) (b : Bay),
    (∀ m rest, (s.bmail b).unitToArb = m :: rest →
      let popped (c : Bay) : BayMail :=
        if c = b then { s.bmail b with unitToArb := rest } else s.bmail c
      let Grants (i : Instr) (a : Arbiter) : Prop :=
        ∃ t, exec i s = .next t ∧ UnchangedBut [.arb, .bayMail] s t ∧
          t.arb = { a with
            places := a.places ++ a.waitOrder.take (a.budget - a.places.length),
            waitOrder := a.waitOrder.drop (a.budget - a.places.length) } ∧
          ∀ c, t.bmail c = { popped c with
            grants := (s.bmail c).grants +
              (a.waitOrder.take (a.budget - a.places.length)).count c }
      let back : Arbiter := { s.arb with places := s.arb.places.filter (· ≠ b) }
      (m = .wanted → b ∉ s.arb.places → b ∉ s.arb.waitOrder →
        Grants (.spinUpWanted b) { s.arb with waitOrder := s.arb.waitOrder ++ [b] }) ∧
      (m = .wanted → b ∈ s.arb.places ∨ b ∈ s.arb.waitOrder →
        ∃ t, exec (.spinUpWanted b) s = .next t ∧ OnlyBay [.bayMail] b s t ∧ t.bmail b = popped b) ∧
      (m = .declined → Grants (.grantDeclined b) back) ∧
      (m = .ended → Grants (.spinUpEnded b) back) ∧
      (m = .withdrawn →
        ∃ t, exec (.waitWithdrawn b) s = .next t ∧ OnlyBay [.arb, .bayMail] b s t ∧
          t.arb = { s.arb with waitOrder := s.arb.waitOrder.filter (· ≠ b) } ∧
          t.bmail b = popped b)) ∧
    (∀ u k, s.unit b = u → (s.bmail b).grants = k + 1 →
      (u.state = .wakeWait →
        ∃ t, exec (.spinUpGrant b) s = .next t ∧
          s.BayBecomes t b
            { u with
              inFlight := some (u.issued, .spinUp), issued := u.issued + 1, commandTimer := none,
              spinUpTimer := some (s.now + secs u.params.spinUpLimit),
              spinUps := min 4294967295 (u.spinUps + 1) } .spinningUp
            { s.bmail b with grants := k }) ∧
      (u.state ≠ .wakeWait →
        ∃ t, exec (.spinUpGrant b) s = .next t ∧ OnlyBay [.bayMail] b s t ∧
          t.bmail b = { s.bmail b with
            grants := k, unitToArb := (s.bmail b).unitToArb ++ [.declined] }))

/-- Extents at a clear engine (R101, R115, R119 to R122): an unhealthy unit, another disk or a closed
engine reports the extent failed; else it joins the list, gathering or at once, and in a sweep among the
CURRENT extents where it starts above the sweep position, else as NEXT; at the end of the gather window
the extents are swept in ascending order; the pending-clear report examines the idle timer. -/
def Obligations.ClearEngine : Prop :=
  ∀ (s : State) (b : Bay) (u : DriveUnit), s.unit b = u →
    (∀ v i id start len rest, (s.bmail b).lmToUnit = .extent v i id start len :: rest →
      let m : BayMail := { s.bmail b with lmToUnit := rest }
      let x (current : Bool) : Extent :=
        { vol := v, seg := i, start := start, length := len, progress := 0, current := current }
      let Joins (e : Engine) : Prop :=
        ∃ t, exec (.clearExtent b) s = .next (t.idle b) ∧ OnlyBay [.units, .bayMail] b s t ∧
          t.bmail b = m ∧ t.unit b = { u with engine := e }
      (u.state.healthy = false ∨ u.engine.closed = true ∨ (∀ d, u.disk = some d → d.serial ≠ id) →
        ∃ t, exec (.clearExtent b) s = .next t ∧ OnlyBay [.bayMail] b s t ∧
          t.bmail b = { m with unitToLm := m.unitToLm ++ [.extentFailed v i] }) ∧
      (u.state.healthy = true → u.engine.closed = false → (∃ d, u.disk = some d ∧ d.serial = id) →
        (u.engine.state = .empty → u.engine.list = [] → u.params.gatherWindow ≠ 0 →
          Joins { u.engine with
            state := .gathering (s.now + tens u.params.gatherWindow), list := [x true] }) ∧
        (u.engine.state = .empty → u.engine.list = [] → u.params.gatherWindow = 0 →
          s.WorkArrives (.clearExtent b) b
            { u with engine := { u.engine with state := .sweeping, list := [x true] } } m) ∧
        (∀ d, u.engine.state = .gathering d →
          Joins { u.engine with list := u.engine.list ++ [x true] }) ∧
        (∀ y, u.engine.state = .sweeping → u.engine.list.find? (·.current) = some y →
          (start ≤ y.start + y.progress →
            Joins { u.engine with list := u.engine.list ++ [x false] }) ∧
          (y.start + y.progress < start → ∀ bf af, u.engine.list = bf ++ af →
            (∀ z ∈ bf, z.current = true ∧ z.start < start) →
            (∀ z, af.head? = some z → z.current = false ∨ start ≤ z.start) →
            s.WorkArrives (.clearExtent b) b
              { u with engine := { u.engine with list := bf ++ x true :: af } } m)))) ∧
    (∀ d, u.engine.state = .gathering d →
      (s.now < d → exec (.gatherTimerExpiry b) s = .next s) ∧
      (d ≤ s.now →
        ∃ l, l.Pairwise (fun y z => y.start ≤ z.start) ∧
          l.Perm (u.engine.list.map fun y => { y with current := true }) ∧
          s.WorkArrives (.gatherTimerExpiry b) b
            { u with engine := { u.engine with state := .sweeping, list := l } } (s.bmail b))) ∧
    (∀ k rest, (s.bmail b).lmToUnit = .pendingClear k :: rest →
      ∃ t, exec (.pendingClearReport b) s = .next (t.idle b) ∧ OnlyBay [.units, .bayMail] b s t ∧
        t.bmail b = { s.bmail b with lmToUnit := rest } ∧ t.unit b = { u with clearWaiting := k })

/-- Clearing at the loan manager (R116 to R118, R130, R131, R137): the outcome of an extent sets its
segment and lowers the bay's LISTED count, after which the volume's clear is examined and the bay's queue
is listed from; a health report is kept (log entry 15), fails the queue of an ABSENT bay, head first, and
ends a release where the removal did; the report of a release's end clears the mark, and
RELEASE_END_REPORT takes a removal's health report whole, by the model's inference (log entry 37). A
clear is decided only when no segment is PENDING or LISTED: with all DONE the volume is IDLE, CLEAR_DONE
is sent and the wait list granted from (R29); else it is CLEAR_FAILED, CLEAR_FAILED is sent and every
record is removed with WAIT_EXPIRED, head first (R31). The notice comes before those frames, for which
the agent takes it in the same event, by the model's choice (log entry 8). Listing goes from the head
while the queue holds a reference and fewer than 8 segments are LISTED: a served segment is LISTED and
its extent sent, one that is not served fails and its volume's clear is examined. -/
def Obligations.LoanManagerReports : Prop :=
  (∀ (s : State) (b : Bay) (m : UnitToLm) (rest : List UnitToLm), (s.bmail b).unitToLm = m :: rest →
    let Ends (i : Instr) (v k : Nat) (st : ClearStatus) : Prop :=
      ∃ t, exec i s = .next ((t.examineClear v).listFromHead b) ∧ OnlyBay [.bayMail, .lm] b s t ∧
        t.bmail b = { s.bmail b with unitToLm := rest } ∧
        t.lmBay b = { s.lmBay b with listed := (s.lmBay b).listed - 1 } ∧
        OtherVolumesUnchanged v s t ∧
        t.lm = { s.lm with volumes := t.lm.volumes, bays := t.lm.bays } ∧
        ∀ e g, s.volume? v = some e → e.segments[k]? = some g →
          t.volume? v = some { e with segments := e.segments.set k { g with clear := st } }
    (∀ v k, m = .extentDone v k → Ends (.extentDone b) v k .done) ∧
    (∀ v k, m = .extentFailed v k → Ends (.extentFailed b) v k .failed) ∧
    (∀ st d r, m = .health st d r → st ≠ .absent ∨ (s.lmBay b).pendingClear = [] →
      ∃ t, exec (.healthReport b) s = .next (t.listFromHead b) ∧ OnlyBay [.bayMail, .lm] b s t ∧
        t.bmail b = { s.bmail b with unitToLm := rest } ∧
        t.lmBay b = { s.lmBay b with
          reported := if st.healthy then d else none,
          releaseOutstanding := if r then false else (s.lmBay b).releaseOutstanding } ∧
        t.lm = { s.lm with bays := t.lm.bays }) ∧
    (∀ d r, m = .health .absent d r → (s.lmBay b).pendingClear ≠ [] →
      ∃ t, OnlyBay [.bayMail, .lm] b s t ∧ t.lm = { s.lm with bays := t.lm.bays } ∧
        t.lmBay b = { s.lmBay b with pendingClear := [], reported := none } ∧
        t.bmail b = { s.bmail b with
          unitToLm := rest, lmToUnit := (s.bmail b).lmToUnit ++ [.pendingClear false] } ∧
        ∀ v, v = t.failRefs (s.lmBay b).pendingClear →
          exec (.healthReport b) s = .next (State.listFromHead
            (if r then v.setLmBay b { v.lmBay b with releaseOutstanding := false } else v) b)) ∧
    (m = .releaseEnd →
      ∃ t, exec (.releaseEndReport b) s = .next t ∧ OnlyBay [.bayMail, .lm] b s t ∧
        t.bmail b = { s.bmail b with unitToLm := rest } ∧
        t.lmBay b = { s.lmBay b with releaseOutstanding := false } ∧
        t.lm = { s.lm with bays := t.lm.bays }) ∧
    (∀ st d, m = .health st d true → exec (.releaseEndReport b) s = exec (.healthReport b) s)) ∧
  (∀ (s : State) (v : Nat) (e : Volume), s.volume? v = some e →
    (e.state ≠ .clearing ∨ (∃ g ∈ e.segments, g.clear = .pending ∨ g.clear = .listed) →
      s.examineClear v = s) ∧
    (e.state = .clearing → settledChannel s.mail.lmToAgent = true →
      let Ended (t : State) (st : VolState) (n : Notice) : Prop :=
        UnchangedBut [.lm, .mail, .ports, .agent] s t ∧ t.lm = { s.lm with volumes := t.lm.volumes } ∧
        t.volume? v = some { e with state := st } ∧ OtherVolumesUnchanged v s t ∧
        s.ClearTold t e.waitList n
      ((∀ g ∈ e.segments, g.clear = .done) →
        ∃ t, Ended t .idle (.clearDone v e.segments.length) ∧ s.examineClear v = t.grant v) ∧
      ((∀ g ∈ e.segments, g.clear ≠ .pending ∧ g.clear ≠ .listed) →
        (∃ g ∈ e.segments, g.clear ≠ .done) →
        ∃ t, Ended t .clearFailed (.clearFailed v e.segments) ∧
          s.examineClear v = e.waitList.foldl (fun a r => a.removeRecord r true) t))) ∧
  ∀ (s : State) (b : Bay),
    (8 ≤ (s.lmBay b).listed ∨ (s.lmBay b).pendingClear = [] → s.listFromHead b = s) ∧
    ∀ x rest g, (s.lmBay b).pendingClear = x :: rest → (s.lmBay b).listed < 8 →
      s.segment? x = some g →
      (s.served g = true →
        ∃ t, s.listFromHead b = t.listFromHead b ∧ OnlyBay [.lm, .bayMail] b s t ∧
          t.lmBay b = { s.lmBay b with pendingClear := rest, listed := (s.lmBay b).listed + 1 } ∧
          OtherVolumesUnchanged x.vol s t ∧
          (∀ e, s.volume? x.vol = some e → t.volume? x.vol = some { e with
            segments := e.segments.set x.seg { g with clear := .listed } }) ∧
          t.lm = { s.lm with volumes := t.lm.volumes, bays := t.lm.bays } ∧
          t.bmail b = { s.bmail b with
            lmToUnit := (s.bmail b).lmToUnit ++ (if rest = [] then [.pendingClear false] else []) ++
              [.extent x.vol x.seg g.identity g.base g.length] }) ∧
      (s.served g = false →
        ∃ t, s.listFromHead b = (t.failRefs [x]).listFromHead b ∧ OnlyBay [.lm, .bayMail] b s t ∧
          t.lm = { s.lm with bays := t.lm.bays } ∧
          t.lmBay b = { s.lmBay b with pendingClear := rest } ∧
          t.bmail b = { s.bmail b with
            lmToUnit := (s.bmail b).lmToUnit ++
              (if rest = [] then [.pendingClear false] else []) })

/-- The button of a bay (R134 to R136): a press sets the service-pressed flag and the hold timer of 6 s
and is notified; a release cancels the timer; at its expiry, no earlier than the deadline, the override
is notified and a forced release presented, but not in ABSENT or SERVICE. -/
def Obligations.Buttons : Prop :=
  ∀ (s : State) (b : Bay) (u : DriveUnit) (c : Service), s.unit b = u → s.controls b = c →
    settledChannel (s.bmail b).svcToAgent = true →
    (c.buttonDown = false →
      ∃ t, exec (.buttonPress b) s = .next t ∧ OnlyBay [.svc, .bayMail] b s t ∧
        t.controls b = { c with
          pressedFlag := true, buttonDown := true, holdTimer := some (s.now + secs 6),
          lock := lockFor u.state, lamp := lampFor true u.state } ∧
        t.bmail b = { s.bmail b with
          svcToAgent := (s.bmail b).svcToAgent ++ [.notice (.servicePressed b u.state)] }) ∧
    (c.buttonDown = true → exec (.buttonPress b) s = .next s) ∧
    (∃ t, exec (.buttonRelease b) s = .next t ∧ OnlyBay [.svc] b s t ∧
      t.controls b = { c with buttonDown := false, holdTimer := none }) ∧
    ((∀ d, c.holdTimer = some d → s.now < d) → exec (.holdTimerExpiry b) s = .next s) ∧
    (∀ d, c.holdTimer = some d → d ≤ s.now →
      ∃ t, exec (.holdTimerExpiry b) s = .next t ∧ OnlyBay [.svc, .bayMail] b s t ∧
        t.controls b = { c with holdTimer := none } ∧
        (u.state = .absent ∨ u.state = .service → t.bmail b = s.bmail b) ∧
        (u.state ≠ .absent → u.state ≠ .service →
          t.bmail b = { s.bmail b with
            overrides := (s.bmail b).overrides + 1,
            svcToAgent := (s.bmail b).svcToAgent ++
              [.notice (.serviceOverride b u.state (u.disk.map Disk.serial))] })) ∧
    (∀ f, lockFor .absent = .unlocked ∧ lockFor .service = .unlocked ∧ lampFor f .absent = .off ∧
      lampFor f .service = .on ∧ ∀ st, st ≠ .absent → st ≠ .service →
        lockFor st = .locked ∧ lampFor f st = if f then .blinking else .off)

/-- The start of a bay release at the loan manager (R41, R117, R137): SERVICE_OVERRIDE and RELEASE_BAY do
not proceed in SERVICE, in ABSENT or with a release outstanding, and RELEASE_BAY without ACT not while a
loan names a volume of the bay. Else the bay is marked; each live loan on its volumes enters ENDING with
BAY_RELEASED, its holder is told, and it is freed at once where it has no outstanding request, in
ascending order of the loan entries by the model's choice (log entry 17); the bay's queue of clears
fails, head first; and the drive unit is told. What comes of it is stated once more in full where no such
loan is quiet and no clear of the bay is pending. -/
def Obligations.ReleaseStart : Prop :=
  (∀ (s : State) (b : Bay),
    let onBay (l : Loan) : Bool := s.volumeOnBay l.volume b
    let ended (a : State) (i : Nat) : State :=
      match a.loan? i with
      | some l =>
        let u := (a.setLoan i { l with state := .ending .bayReleased }).placeForNode l.holder
          { Header.blank with
            kind := 0x23, subcode := 0x03, handle := handleOf i (a.generation i),
            volume := BitVec.ofNat 8 l.volume, detail := 4 }
        if l.outstanding = 0 then u.freeLoan i else u
      | none => a
    ∃ t, OnlyBay [.lm] b s t ∧ t.lm = { s.lm with bays := t.lm.bays } ∧
      t.lmBay b = { s.lmBay b with releaseOutstanding := true } ∧
      (∀ v, v = (s.liveLoans onBay).foldl ended t →
        s.beginRelease b = (v.failPending b).lmSend b .release) ∧
      ((s.lmBay b).pendingClear = [] →
        (∀ i ∈ s.liveLoans onBay, ∀ l, s.loan? i = some l → l.outstanding ≠ 0) →
        let r := s.beginRelease b
        UnchangedBut [.lm, .ports, .bayMail] s r ∧
        r.lmBay b = { s.lmBay b with releaseOutstanding := true } ∧
        r.bmail b = { s.bmail b with lmToUnit := (s.bmail b).lmToUnit ++ [.release] } ∧
        (∀ c, c ≠ b → r.lmBay c = s.lmBay c ∧ r.bmail c = s.bmail c) ∧
        (∀ i, r.loan? i = if i ∈ s.liveLoans onBay
          then (s.loan? i).map (fun l => { l with state := .ending .bayReleased }) else s.loan? i) ∧
        r.lm.volumes = s.lm.volumes ∧ r.lm.waits = s.lm.waits ∧ r.lm.generations = s.lm.generations ∧
        r.ports = ((s.liveLoans onBay).foldl (fun a i =>
          match s.loan? i with
          | some l => a.placeForNode l.holder { Header.blank with
              kind := 0x23, subcode := 0x03, handle := handleOf i (s.generation i),
              volume := BitVec.ofNat 8 l.volume, detail := 4 }
          | none => a) s).ports)) ∧
  (∀ (s : State) (b : Bay),
    ((s.lmBay b).pendingClear = [] → UnchangedBut [.lm] s (s.failPending b) ∧
      ∀ c, (s.failPending b).lmBay c = s.lmBay c) ∧
    ((s.lmBay b).pendingClear ≠ [] →
      ∃ t, OnlyBay [.lm, .bayMail] b s t ∧ t.lm = { s.lm with bays := t.lm.bays } ∧
        t.lmBay b = { s.lmBay b with pendingClear := [] } ∧
        t.bmail b = { s.bmail b with lmToUnit := (s.bmail b).lmToUnit ++ [.pendingClear false] } ∧
        s.failPending b = t.failRefs (s.lmBay b).pendingClear)) ∧
  ∀ (s : State) (b : Bay),
    let Barred : Prop := (s.unit b).state = .service ∨ (s.unit b).state = .absent ∨
      (s.lmBay b).releaseOutstanding = true
    (∀ k, (s.bmail b).overrides = k + 1 →
      let a := s.setBmail b { s.bmail b with overrides := k }
      (Barred → exec (.serviceOverride b) s = .next a) ∧
      (¬ Barred → exec (.serviceOverride b) s = .next (a.beginRelease b))) ∧
    ((s.bmail b).overrides = 0 → exec (.serviceOverride b) s = .next s) ∧
    ∀ p f h, s.Asks 0x2C p f h → ∀ a, a = s.accepted p →
      (24 ≤ h.valueA.toNat → exec .releaseBay s = .next (a.lmStatus h .badValue)) ∧
      (h.valueA.toNat = b.val →
        (Barred → exec .releaseBay s = .next (a.lmStatus h .wrongState)) ∧
        (¬ Barred → h.act = false →
          (∃ e ∈ s.lm.loans, s.volumeOnBay e.2.volume b = true) →
          exec .releaseBay s = .next (a.lmStatus h .volumeInUse)) ∧
        (¬ Barred → h.act = true ∨ (∀ e ∈ s.lm.loans, s.volumeOnBay e.2.volume b = false) →
          exec .releaseBay s = .next ((a.beginRelease b).lmStatus h .ok)))

/-- A release at the drive unit (R128, R138, R140): in ABSENT or SERVICE it ends at once; else the clear
list fails but for the chunk in flight, the engine closes, the queue is withdrawn, and the unit enters
SERVICE at once from STANDBY, WAKE_WAIT or FAULT, spins down from READY, and from any other state does so
when its command has ended. That an entry from a healthy state is two reports, the health report first,
is the model's choice (log entry 56). -/
def Obligations.ReleaseTaken : Prop :=
  ∀ (s : State) (b : Bay) (u v : DriveUnit) (m : BayMail) (rest : List LmToUnit) (left : List Extent)
      (e : Engine),
    s.unit b = u → (s.bmail b).lmToUnit = .release :: rest →
    (u.state = .absent ∨ u.state = .service →
      ∃ t, exec (.releaseTaken b) s = .next t ∧ OnlyBay [.bayMail] b s t ∧
        t.bmail b = { s.bmail b with
          lmToUnit := rest, unitToLm := (s.bmail b).unitToLm ++ [.releaseEnd] }) ∧
    ((∃ bf x af n start len, u.inFlight = some (n, .zero start len) ∧
        u.engine.list = bf ++ x :: af ∧ left = bf ++ af ∧
        (∀ y ∈ bf, y.current = false) ∧ x.current = true ∧
        e = { state := .sweeping, list := [x], closed := true }) ∨
      ((∀ n start len, u.inFlight ≠ some (n, .zero start len)) ∧ left = u.engine.list ∧
        e = { state := .empty, list := [], closed := true }) →
      v = { u with releaseUnderWay := true, queue := [], idleTimer := none, engine := e } →
      m = { s.bmail b with
        lmToUnit := rest,
        unitToLm := (s.bmail b).unitToLm ++
          left.map (fun x => UnitToLm.extentFailed x.vol x.seg),
        unitToRu := (s.bmail b).unitToRu ++
          u.queue.map (fun j => UnitToRu.withdrawn j.piece .bayReleased) } →
      (∀ st, st = .identifying ∨ st = .spinningUp ∨ st = .active ∨ st = .spinningDown → u.state = st →
        ∃ t, exec (.releaseTaken b) s = .next t ∧ OnlyBay [.units, .bayMail] b s t ∧
          t.unit b = v ∧ t.bmail b = m) ∧
      (u.state = .ready →
        ∃ t, exec (.releaseTaken b) s = .next t ∧
          s.BayBecomes t b { DriveUnit.issuing v .spinDown s.now with hand := none } .spinningDown
            { m with unitToRu := m.unitToRu ++ DriveUnit.handReleased u }) ∧
      (u.state = .standby ∨ u.state = .wakeWait ∨ u.state = .fault →
        ∃ t, exec (.releaseTaken b) s = .next t ∧
          s.BayBecomes t b
            { DriveUnit.quiet v with
              releaseUnderWay := false, hand := none,
              engine := { e with closed := false } } .service
            { m with
              unitToArb := m.unitToArb ++ (if u.state = .wakeWait then [.withdrawn] else []),
              unitToLm := m.unitToLm ++
                (if u.state = .fault then [] else [.health .service u.disk false]) ++
                [.releaseEnd] }))

/-- Removal and insertion of a disk (R141, R142): removal fails every piece and extent, tells the
arbiter, clears the disk, ends a release and reports ABSENT, and outside SERVICE the disk's going is
notified; insertion in ABSENT sets the counters to 0 and identifies the disk. -/
def Obligations.Presence : Prop :=
  ∀ (s : State) (b : Bay) (u : DriveUnit), s.unit b = u →
    (u.state = .absent →
      (∃ t, exec (.presenceLost b) s = .next t ∧ OnlyBay [.svc] b s t ∧
        t.controls b = { s.controls b with present := false }) ∧
      (∃ t, exec (.presenceGained b) s = .next t ∧ OnlyBay [.units, .svc] b s t ∧
        t.unit b = { DriveUnit.issuing u .identify s.now with
          state := .identifying, disk := none, pauseCounter := 0, mediaErrors := 0, timeouts := 0,
          spinUps := 0 } ∧
        t.controls b = { s.controls b with
          present := true, lock := .locked, lamp := lampFor (s.controls b).pressedFlag .identifying })) ∧
    (u.state ≠ .absent →
      (∃ t, exec (.presenceGained b) s = .next t ∧ OnlyBay [.svc] b s t ∧
        t.controls b = { s.controls b with present := true }) ∧
      (settledChannel (s.bmail b).unitToAgent = true →
        ∃ t, exec (.presenceLost b) s = .next t ∧ OnlyBay [.units, .svc, .bayMail] b s t ∧
          t.unit b = { DriveUnit.quiet u with
            state := .absent, disk := none, hand := none, queue := [], staging := none,
            idleTimer := none, releaseUnderWay := false,
            engine := { state := .empty, list := [], closed := false } } ∧
          t.controls b = { s.controls b with present := false, lock := .unlocked, lamp := .off } ∧
          t.bmail b = { s.bmail b with
            unitToRu := (s.bmail b).unitToRu ++
              (u.hand.toList.map (fun j => UnitToRu.failed j.piece .diskUnavailable j.done)) ++
              (u.queue.map (fun j => UnitToRu.failed j.piece .diskUnavailable 0)) ++
              (u.staging.toList.map (fun x => UnitToRu.failed x.piece .diskUnavailable 0)),
            unitToLm := (s.bmail b).unitToLm ++
              (u.engine.list.map (fun x => UnitToLm.extentFailed x.vol x.seg)) ++
              [.health .absent none u.releaseUnderWay],
            unitToArb := (s.bmail b).unitToArb ++
              (if u.state = .wakeWait then [.withdrawn]
               else if u.state = .spinningUp then [.ended] else []),
            unitToAgent := (s.bmail b).unitToAgent ++
              (if u.state = .service then []
               else [.notice (.diskGone b u.state (u.disk.map Disk.serial))]) }))

/-! ### Management -/

/-- What every management request shares (R146, R168, R169, R172, R182): while the agent waits nothing is
taken; a request from another source than the slot's is discarded and counted; one of the manager's sets
its last port, and a bad format is answered BAD_FORMAT and an unknown code BAD_REQUEST. A frame shorter
than a header, which the classifier passes on only while the agent waits, is discarded uncounted by
BAD_REQUEST, and so, counted, is one of another source, by the model's inference (log entry 53). The
answer repeats the tag, the code and the header arguments of the request, the ACT flag among them. -/
def Obligations.ManageDiscipline : Prop :=
  (∀ (s : State) (i : Instr), (requestCode i).isSome = true ∨ i = .badRequest →
    (s.managePassed = none → exec i s = .next s) ∧
    (s.manageWaiting = none → i ≠ .badRequest → exec i s = .next s)) ∧
  (∀ (s : State) (p : Port) (f : InFrame), s.managePassed = some (p, f) →
    Header.parse f.payload = none → exec .badRequest s = .next s.freeClassifier) ∧
  (∀ (s : State) (i : Instr) (code : Byte) (p : Port) (f : InFrame) (h : Header),
    s.manageWaiting = some (p, f, h) →
    ((requestCode i = some code ∧ code ≠ 0x01 ∧ h.subcode = code) ∨ i = .badRequest →
      s.managerSource h f.src = false →
      exec i s = .next (s.freeClassifier.setPort p { s.port p with
        unknownSource := min 4294967295 ((s.port p).unknownSource + 1) })) ∧
    (s.managerSource h f.src = true →
      (requestCode i = some code → code ≠ 0x01 → h.subcode = code → requestGood h f.payload = false →
        exec i s = .next ((s.accepted p).answer (h.status .badFormat))) ∧
      (i = .badRequest → isRequestCode h.subcode = true → exec i s = .next s) ∧
      (i = .badRequest → isRequestCode h.subcode = false →
        (h.manageHeaderGood f.payload = false →
          exec i s = .next ((s.accepted p).answer (h.status .badFormat))) ∧
        (h.manageHeaderGood f.payload = true →
          exec i s = .next ((s.accepted p).answer (h.status .badRequest)))))) ∧
  (∀ (s : State) (p : Port) (sl : Slot), s.agent.slot = some sl →
    s.accepted p = { s with
      cls := { s.cls with passed := none },
      agent := { s.agent with slot := some { sl with port := p } } }) ∧
  (∀ (s : State) (p : Port), s.agent.slot = none → s.accepted p = s.freeClassifier) ∧
  ∀ (h : Header) (c : Code) (bs : List Byte),
    h.status c = { hdr := { h.answerTo with code := c.value }, body := [] } ∧
    h.data bs = { hdr := { h.answerTo with code := 0 }, body := bs } ∧
    h.answerTo.kind = 0x31 ∧ h.answerTo.tag = h.tag ∧ h.answerTo.subcode = h.subcode ∧
    (usesVolume h.subcode = true → h.answerTo.volume = h.volume) ∧
    (usesHandle h.subcode = true → h.answerTo.handle = h.handle) ∧
    (usesOffset h.subcode = true → h.answerTo.offset = h.offset) ∧
    (usesValueA h.subcode = true → h.answerTo.valueA = h.valueA) ∧
    (usesAct h.subcode = true → h.answerTo.flags = h.flags &&& 4) ∧
    (usesAct h.subcode = false → h.answerTo.flags = 0) ∧
    (usesAct h.subcode = true ↔ h.subcode ∈ [0x06, 0x2C]) ∧
    (usesVolume h.subcode = true ↔ h.subcode ∈ [0x10, 0x11, 0x12, 0x13]) ∧
    (usesHandle h.subcode = true ↔ h.subcode = 0x18) ∧
    (usesOffset h.subcode = true ↔ h.subcode ∈ [0x20, 0x21, 0x22, 0x23, 0x24]) ∧
    (usesValueA h.subcode = true ↔ h.subcode ∈ [0x19, 0x28, 0x29, 0x2A, 0x2B, 0x2C, 0x2D])

/-- ATTACH, DETACH and the reads of the agent (R17, R48, R168, R170, R171, R175): ATTACH fills an empty
slot, moves the last port of the manager in it, or is answered MANAGER_HELD to that manager; DETACH is
answered and empties the slot and the list of requests in progress, and drops the expiries that wait to
be notified, so that no later manager is told of them (R47; log entry 51); the reads answer with what
they read, in the layouts of R182, and change nothing else. A volume is impaired as the bays last taken,
by a report or at a definition, give it (log entry 15), and the grace of a RECALLING loan is given in
whole seconds rounded down, both by the model's inference (log entry 34). -/
def Obligations.AttachAndReads : Prop :=
  ∀ (s : State) (p : Port) (f : InFrame) (h : Header) (a : State), a = s.accepted p →
    (s.manageWaiting = some (p, f, h) → h.subcode = 0x01 →
      let reply (c : Code) (slot : Addr) : Answer :=
        { hdr := { h.answerTo with code := c.value },
          body := be 6 slot.toNat ++ be 6 f.src.toNat ++ [0, 0, 0, 0] }
      (s.agent.slot = none →
        ∃ t, exec .attach s = .next (t.answer (reply .ok f.src)) ∧ UnchangedBut [.cls, .agent] s t ∧
          t.cls = { s.cls with passed := none } ∧
          t.agent = { s.agent with slot := some { addr := f.src, port := p, seq := 0 } }) ∧
      (∀ sl, s.agent.slot = some sl →
        (sl.addr = f.src → exec .attach s = .next (a.answer (reply .ok f.src))) ∧
        (sl.addr ≠ f.src →
          exec .attach s = .next (s.freeClassifier.answer (reply .managerHeld sl.addr))))) ∧
    (s.Asks 0x02 p f h →
      (∀ m ∈ s.mail.lmToAgent, AgentMsg.waits m = true) →
      ∃ t, exec .detach s = .next t ∧ UnchangedBut [.cls, .agent, .ports, .mail] s t ∧
        t.cls = { s.cls with passed := none } ∧ t.ports = (a.answer (h.status .ok)).ports ∧
        t.agent = { s.agent with slot := none, progress := [] } ∧
        t.mail = { s.mail with
          lmToAgent := s.mail.lmToAgent.filter fun m => !AgentMsg.isExpiry m }) ∧
    (s.Asks 0x03 p f h →
      exec .identify s = .next (a.answer (h.data identifyBytes)) ∧ identifyBytes.length = 70 ∧
      identifyBytes =
        [0x41, 0x72, 0x77, 0x65, 0x6A, 0x6F, 0x20, 0x41, 0x44, 0x2D, 0x32, 0x34, 0x31, 0x36,
          Config.namePadding 0, Config.namePadding 1] ++ [1, 24, 4, 0] ++
        be 6 (Config.portAddress 0).toNat ++ be 6 (Config.portAddress 1).toNat ++
        be 6 (Config.portAddress 2).toNat ++ be 6 (Config.portAddress 3).toNat ++
        be 2 4096 ++ be 2 9000 ++
        be 2 512 ++ be 2 128 ++ be 2 1024 ++ be 2 256 ++ be 2 512 ++ be 2 1024 ++ be 2 64 ++
        be 2 256 ++ be 2 8 ++ be 2 512 ++ be 2 64) ∧
    (s.Asks 0x05 p f h →
      exec .readParams s = .next (a.answer (h.data a.paramsBytes)) ∧
      (s.arb.waitOrder.length ≤ 24 → a.paramsBytes.length = 53) ∧
      (∀ q sl, s.agent.params = q → s.agent.slot = some sl → a.paramsBytes =
        be 4 1023 ++ be 1 q.budget ++ be 1 q.spinUpLimit ++ be 1 q.pieceLimit ++
        be 2 q.deliveryLimit ++ be 1 q.allowance ++ be 1 q.gatherWindow ++ be 1 q.idleFactor ++
        [if q.idleLong then 1 else 0] ++ be 1 q.on ++ be 1 q.off ++
        be 3 Config.carryMask.toNat ++ be 3 q.keep.toNat ++ [0, 0, 0] ++
        be 1 s.arb.places.length ++ be 1 s.arb.waitOrder.length ++
        s.arb.waitOrder.map (fun b => BitVec.ofNat 8 b.val) ++
        List.replicate (24 - s.arb.waitOrder.length) 0xFF ++ be 1 p.val ++ be 2 sl.seq.toNat)) ∧
    (s.Asks 0x13 p f h →
      (127 < h.volume.toNat → exec .readVolume s = .next (a.answer (h.status .badValue))) ∧
      (h.volume.toNat ≤ 127 → s.volume? h.volume.toNat = none →
        exec .readVolume s = .next (a.answer (h.status .noSuchVolume))) ∧
      (∀ v, h.volume.toNat ≤ 127 → s.volume? h.volume.toNat = some v →
        exec .readVolume s = .next (a.answer (h.data (s.volumeBytes v))) ∧
        (s.volumeBytes v).length = 16 + 40 * v.segments.length ∧
        s.volumeBytes v =
          [v.cls.value, Config.flagByte v.wake, v.state.value,
            Config.flagByte (v.segments.any fun g => !g.onDisk (s.lmBay g.bay).reported)] ++
          be 2 v.term ++ be 2 v.grace ++ be 2 v.loanCount ++ be 2 v.waitList.length ++
          be 1 v.segments.length ++ [0, 0, 0] ++
          v.segments.zipIdx.flatMap fun x =>
            s.segmentPayload x.1 ((v.segments.take x.2).map Segment.length).sum)) ∧
    (s.Asks 0x19 p f h →
      (1023 < h.valueA.toNat → exec .readLoan s = .next (a.answer (h.status .badValue))) ∧
      (h.valueA.toNat ≤ 1023 → s.loan? h.valueA.toNat = none →
        exec .readLoan s = .next (a.answer (h.data
          (BitVec.ofNat 8 (s.generation h.valueA.toNat) :: List.replicate 15 0)))) ∧
      (∀ l, h.valueA.toNat ≤ 1023 → s.loan? h.valueA.toNat = some l →
        exec .readLoan s = .next (a.answer {
          hdr := { h.answerTo with
            code := 0, detail := l.state.value,
            handle := handleOf h.valueA.toNat (s.generation h.valueA.toNat) },
          body := [BitVec.ofNat 8 (s.generation h.valueA.toNat), l.mode.value,
              BitVec.ofNat 8 l.volume,
              match l.state with
              | .ending r => r.value
              | .held | .recalling _ => 0] ++
            be 6 (s.nodeAddr l.holder).toNat ++ be 2 l.outstanding ++
            be 4 (match l.state with
              | .held => secondsLeft s.now l.termDeadline
              | .recalling d => secondsLeft s.now d
              | .ending _ => 0) })))

/-- SET_PARAMS, BUDGET_CHANGE, READ_COUNTERS and COUNTER_QUERY (R113, R173, R174, R176): a value out of
its range of R173, or OFF not below ON, is refused; a carried budget waits for the arbiter, which refuses
one below its count; else every carried value is written, sent and answered OK, a raised budget granting
the oldest waiting bays; each unit gives its counters when it takes the question, and with the flag sets
them to 0; the last of them gives the answer, ports before bays, each in the layout of R182, where the
order of the counters is that of the tables of R167 and R106 by the model's inference (log entry 55). The
thresholds sent as a pair (log entry 36) and the counters zeroed by each unit as it takes the question
(log entry 49) are the model's inference, the order of the limits its choice (log entry 35). -/
def Obligations.Parameters : Prop :=
  (∀ q : ParamBlock,
    let threshold (k : Nat) : Prop := 16 ≤ k ∧ k ≤ 120 ∧ k % 8 = 0
    (q.inRange = true ↔
      (q.carries 0 = true → 1 ≤ q.budget ∧ q.budget ≤ 8) ∧
      (q.carries 1 = true → 10 ≤ q.spinUpLimit ∧ q.spinUpLimit ≤ 120) ∧
      (q.carries 2 = true → 1 ≤ q.pieceLimit ∧ q.pieceLimit ≤ 60) ∧
      (q.carries 3 = true → 10 ≤ q.deliveryLimit ∧ q.deliveryLimit ≤ 6000) ∧
      (q.carries 4 = true → 1 ≤ q.allowance ∧ q.allowance ≤ 64) ∧
      (q.carries 5 = true → q.gatherWindow ≤ 255) ∧
      (q.carries 6 = true → q.idleFactor ≤ 15 ∧ q.idleUnit ≤ 1) ∧
      (q.carries 7 = true → threshold q.on) ∧ (q.carries 8 = true → threshold q.off)) ∧
    ∀ i, q.carries i = q.mask.getLsbD i) ∧
  (∀ (s : State) (p : Port) (f : InFrame) (h : Header) (q : ParamBlock) (a : State),
    s.Asks 0x04 p f h → paramBlock (f.payload.drop 48) = some q → a = s.accepted p →
    ((q.inRange = false ∨ (s.agent.params.write q).on ≤ (s.agent.params.write q).off) →
      exec .setParams s = .next (a.answer (h.status .paramConflict))) ∧
    (q.inRange = true → (s.agent.params.write q).off < (s.agent.params.write q).on →
      (q.carries 0 = true → exec .setParams s = .next (a.setWait (.budget h.tag q))) ∧
      (q.carries 0 = false →
        ∃ t, exec .setParams s = .next (t.answer (paramsAnswer h.tag .ok)) ∧
          UnchangedBut [.cls, .agent, .bayMail, .mail, .portMail] s t ∧ t.cls = a.cls ∧
          t.agent = { a.agent with params := s.agent.params.write q } ∧
          s.ParamsSent t q (fun _ => 0)))) ∧
  (∀ (s : State) (tag : BitVec 8) (q : ParamBlock), s.agent.wait = .budget tag q →
    (q.budget < s.arb.places.length →
      exec .budgetChange s = .next ((s.setWait .free).answer (paramsAnswer tag .paramConflict))) ∧
    (s.arb.places.length ≤ q.budget →
      ∃ t k, exec .budgetChange s = .next (t.answer (paramsAnswer tag .ok)) ∧
        UnchangedBut [.arb, .agent, .bayMail, .mail, .portMail] s t ∧
        k = (if s.arb.budget < q.budget then q.budget - s.arb.places.length else 0) ∧
        t.arb = {
          budget := q.budget, places := s.arb.places ++ s.arb.waitOrder.take k,
          waitOrder := s.arb.waitOrder.drop k } ∧
        t.agent = { s.agent with wait := .free, params := s.agent.params.write q } ∧
        s.ParamsSent t q (fun b => (s.arb.waitOrder.take k).count b))) ∧
  (∀ (s : State) (p : Port) (f : InFrame) (h : Header), s.Asks 0x06 p f h →
    exec .readCounters s =
      .next ((s.accepted p).setWait (.counters h h.act (allPorts.map .port ++ allBays.map .bay) []))) ∧
  (∀ (s : State) (h : Header) (zero : Bool) (asked : List CounterUnit) (got : Tbl (List Byte)),
    s.agent.wait = .counters h zero asked got →
    (∀ u, u ∉ asked → exec (.counterQuery u) s = .next s) ∧
    (∀ u bs, u ∈ asked → bs = s.counterBytes u →
      ∃ t, UnchangedBut [.ports, .units] s t ∧
        (asked.filter (· ≠ u) ≠ [] → exec (.counterQuery u) s = .next (t.setWait
          (.counters h zero (asked.filter (· ≠ u)) (got.set (CounterUnit.key u) bs)))) ∧
        (asked.filter (· ≠ u) = [] → exec (.counterQuery u) s = .next ((t.setWait .free).answer
          (h.data ((got.set (CounterUnit.key u) bs).flatMap Prod.snd)))) ∧
        (zero = false → t = s) ∧
        (∀ p, zero = true → u = .port p → OtherPortsUnchanged p s t ∧ t.units = s.units ∧
          t.port p = { s.port p with
            admitted := 0, rewoundBad := 0, rewoundRoom := 0, unknownSource := 0 }) ∧
        (∀ b, zero = true → u = .bay b → OtherBaysUnchanged b s t ∧ t.ports = s.ports ∧
          t.unit b = { s.unit b with mediaErrors := 0, timeouts := 0, spinUps := 0 }))) ∧
  ∀ s : State,
    (∀ p f, s.port p = f → CounterUnit.key (.port p) = p.val ∧ s.counterBytes (.port p) =
      be 4 f.admitted ++ be 4 f.rewoundBad ++ be 4 f.rewoundRoom ++ be 4 f.unknownSource ++
      [Config.linkByte f.up, Config.pauseByte f.pausing] ++
      be 4 (f.ingress.map InFrame.length).sum ++
      be 4 (262144 - 512 * 62 - ((f.egress.filter fun x => !x.isEnd).map OutFrame.length).sum) ++
      be 2 f.claims) ∧
    ∀ b u, s.unit b = u → CounterUnit.key (.bay b) = 4 + b.val ∧
      s.counterBytes (.bay b) = be 4 u.mediaErrors ++ be 4 u.timeouts ++ be 4 u.spinUps

/-- RESET_PART, RESET_SHARE_FINISHED and MANAGER_NOTICE (R172, R177, R178): a reset is answered BUSY
while one runs or with the list full, else listed and sent to both blocks; the reset runs until both
shares are reported, and its entry is answered OK then and leaves the list unless a drain it waits for
still stands; the oldest notice of a block is stamped with the sequence number and placed at the
manager's last port, or discarded with the slot empty. Stated where what follows the message in its
channel waits for a command of its own (log entry 8). -/
def Obligations.SoftResetAndNotices : Prop :=
  (∀ (s : State) (p : Port) (f : InFrame) (h : Header) (a : State),
    s.Asks 0x07 p f h → a = s.accepted p →
    (s.agent.running.isSome = true ∨ 64 ≤ s.agent.progress.length →
      exec .resetPart s = .next (a.answer (h.status .busy))) ∧
    (s.agent.running = none → s.agent.progress.length < 64 →
      exec .resetPart s = .next { a with
        agent := { a.agent with
          progress := s.agent.progress ++ [{
            id := s.agent.nextId, tag := h.tag, work := .reset (drainIds s.agent.progress) false }],
          nextId := s.agent.nextId + 1, running := some { lmDone := false, ruDone := false } },
        mail := { s.mail with resetLm := true, resetRu := true } })) ∧
  (∀ (s : State) (r : Running) (rest : List AgentMsg), s.agent.running = some r →
    settledChannel rest = true →
    (s.mail.lmToAgent = .resetFinished :: rest → r.ruDone = false →
      exec (.resetShareFinished .loanManager) s = .next { s with
        agent := { s.agent with running := some { r with lmDone := true } },
        mail := { s.mail with lmToAgent := rest } }) ∧
    (s.mail.ruToAgent = .resetFinished :: rest → r.lmDone = false →
      exec (.resetShareFinished .requestUnit) s = .next { s with
        agent := { s.agent with running := some { r with ruDone := true } },
        mail := { s.mail with ruToAgent := rest } }) ∧
    (∀ c, (c = .loanManager ∧ s.mail.lmToAgent = .resetFinished :: rest ∧ r.ruDone = true) ∨
        (c = .requestUnit ∧ s.mail.ruToAgent = .resetFinished :: rest ∧ r.lmDone = true) →
      ∃ t, exec (.resetShareFinished c) s = .next t ∧ UnchangedBut [.ports, .agent, .mail] s t ∧
        t.mail = (if c = .loanManager then { s.mail with lmToAgent := rest }
          else { s.mail with ruToAgent := rest }) ∧
        ∀ marked ready kept, Entry.Splits marked ready kept →
          marked = s.agent.progress.map (fun e => { e with work := match e.work with
            | .reset w _ => .reset w true
            | .drain x => .drain x }) →
          t.agent = { s.agent with running := none, progress := kept } ∧
          t.ports = ((resetAnswers ready).foldl State.answer s).ports)) ∧
  (∀ (s : State) (n : Notice),
    (s.agent.slot = none → s.takeMessage (.notice n) = s) ∧
    (∀ sl, s.agent.slot = some sl →
      s.takeMessage (.notice n) = { s.place sl.port (OutFrame.build sl.addr { n.content.1 with
          kind := 0x32, subcode := n.code, sequence := sl.seq } (.bytes n.content.2)) with
        agent := { s.agent with slot := some { sl with seq := sl.seq + 1 } } }) ∧
    ∀ rest, s.mail.lmToAgent = .resetFinished :: rest → settledChannel rest = true →
      exec (.resetShareFinished .loanManager) s = .next
        { s.takeMessage .resetFinished with mail := { s.mail with lmToAgent := rest } }) ∧
  ∀ (s : State) (n : Notice) (rest : List AgentMsg) (src : NoticeSource) (b : Bay) (m : Mail) (k : BayMail),
    settledChannel rest = true →
    (src = .loanManager ∧ s.mail.lmToAgent = .notice n :: rest ∧ k = s.bmail b ∧
        m = { s.mail with lmToAgent := rest }) ∨
      (src = .nodeBlock ∧ s.mail.nodeToAgent = .notice n :: rest ∧ k = s.bmail b ∧
        m = { s.mail with nodeToAgent := rest }) ∨
      (src = .driveUnit b ∧ (s.bmail b).unitToAgent = .notice n :: rest ∧ m = s.mail ∧
        k = { s.bmail b with unitToAgent := rest }) ∨
      (src = .service b ∧ (s.bmail b).svcToAgent = .notice n :: rest ∧ m = s.mail ∧
        k = { s.bmail b with svcToAgent := rest }) →
    ∃ t, exec (.managerNotice src) s = .next t ∧
      UnchangedBut [.ports, .agent, .mail, .bayMail] s t ∧ OtherBaysUnchanged b s t ∧
      t.mail = m ∧ t.bmail b = k ∧
      (s.agent.slot = none → t.ports = s.ports ∧ t.agent = s.agent) ∧
      ∀ sl, s.agent.slot = some sl →
        t.ports = (s.place sl.port (OutFrame.build sl.addr { n.content.1 with
          kind := 0x32, subcode := n.code, sequence := sl.seq } (.bytes n.content.2))).ports ∧
        t.agent = { s.agent with slot := some { sl with seq := sl.seq + 1 } }

/-- DEFINE_VOLUME, DELETE_VOLUME, CLEAR_VOLUME and RECALL_LOAN (R8, R12 to R15, R37): each check in its
order gives its status and changes nothing; a good definition makes the volume of R13; a volume with no
loan, no wait and no clear running is deleted; a CLEAR_FAILED volume enters CLEARING with every segment
PENDING and the queues of its bays listed from, where a segment that is not served fails at once; a HELD
loan is recalled with a RECALL notice. The checks of a definition read the drive units as they stand; the
new volume is not impaired at that moment, for the loan manager notes the disks it has read until the
next report of their bays, which is in part the model's inference (log entry 15). That both references of
a bay with two segments are appended before it is listed from is its inference too (log entry 59). -/
def Obligations.VolumeRequests : Prop :=
  (∀ d : DefineArgs, DefineArgs.valuesGood d = true ↔
    d.volume ≤ 127 ∧ (d.cls = 1 ∨ d.cls = 2 ∨ d.cls = 3) ∧ 1 ≤ d.segments.length ∧
    d.segments.length ≤ 4 ∧ (∀ g ∈ d.segments, g.bay ≤ 23 ∧ 1 ≤ g.length) ∧
    (d.term = 0 ∨ (5 ≤ d.term ∧ d.term ≤ 3600)) ∧ (d.grace = 0 ∨ (1 ≤ d.grace ∧ d.grace ≤ 600))) ∧
  ∀ (s : State) (p : Port) (f : InFrame) (h : Header) (a : State), a = s.accepted p →
    (∀ d, s.Asks 0x10 p f h → defineArgs h.volume.toNat (f.payload.drop 48) = some d →
      let Answers (c : Code) : Prop := exec .defineVolume s = .next (a.lmStatus h c)
      (DefineArgs.valuesGood d = false → Answers .badValue) ∧
      (DefineArgs.valuesGood d = true →
        ((s.volume? d.volume).isSome = true → Answers .volumeExists) ∧
        (s.volume? d.volume = none →
          ((∃ g ∈ d.segments, ∀ b : Bay, b.val = g.bay →
              (s.unit b).state.healthy = false ∨ (s.unit b).disk = none) →
            Answers .diskUnavailable) ∧
          ∀ placed, s.PlacedOn d.segments placed →
            ((∃ x ∈ placed, x.2 < x.1.base + x.1.length) → Answers .outOfRange) ∧
            ((∀ x ∈ placed, x.1.base + x.1.length ≤ x.2) →
              ((∃ x ∈ placed, ∃ y ∈ s.definedSegments, overlaps x.1 y = true) ∨
                  ¬ (placed.map Prod.fst).Pairwise (fun x y => overlaps x y = false) →
                Answers .overlap) ∧
              ((∀ x ∈ placed, ∀ y ∈ s.definedSegments, overlaps x.1 y = false) →
                (placed.map Prod.fst).Pairwise (fun x y => overlaps x y = false) →
                ∀ c, VolClass.ofValue d.cls = some c →
                ∃ t, exec .defineVolume s = .next (t.lmStatus h .ok) ∧
                  UnchangedBut [.cls, .agent, .lm] s t ∧ t.agent = a.agent ∧ t.cls = a.cls ∧
                  t.lm = { s.lm with volumes := t.lm.volumes, bays := t.lm.bays } ∧
                  (∀ x ∈ placed, t.lmBay x.1.bay =
                    { s.lmBay x.1.bay with reported := (s.unit x.1.bay).disk }) ∧
                  (∀ b, (∀ x ∈ placed, x.1.bay ≠ b) → t.lmBay b = s.lmBay b) ∧
                  OtherVolumesUnchanged d.volume s t ∧
                  (∀ v, t.volume? d.volume = some v → t.impaired v = false) ∧
                  t.volume? d.volume = some {
                    cls := c, wake := d.wake, term := if d.term = 0 then 60 else d.term,
                    grace := if d.grace = 0 then 30 else d.grace, state := .idle,
                    segments := placed.map Prod.fst, loanCount := 0, waitList := [] }))))) ∧
    (s.Asks 0x11 p f h →
      let Answers (c : Code) : Prop := exec .deleteVolume s = .next (a.lmStatus h c)
      (127 < h.volume.toNat → Answers .badValue) ∧
      (h.volume.toNat ≤ 127 →
        (s.volume? h.volume.toNat = none → Answers .noSuchVolume) ∧
        ∀ v, s.volume? h.volume.toNat = some v →
          (0 < v.loanCount ∨ v.waitList ≠ [] ∨ v.state = .clearing → Answers .volumeInUse) ∧
          (v.loanCount = 0 → v.waitList = [] → v.state ≠ .clearing →
            ∃ t, exec .deleteVolume s = .next (t.lmStatus h .ok) ∧
              UnchangedBut [.cls, .agent, .lm] s t ∧ t.agent = a.agent ∧ t.cls = a.cls ∧
              t.lm = { s.lm with volumes := t.lm.volumes } ∧
              OtherVolumesUnchanged h.volume.toNat s t ∧ t.volume? h.volume.toNat = none))) ∧
    (s.Asks 0x12 p f h →
      let Answers (c : Code) : Prop := exec .clearVolume s = .next (a.lmStatus h c)
      (127 < h.volume.toNat → Answers .badValue) ∧
      (h.volume.toNat ≤ 127 →
        (s.volume? h.volume.toNat = none → Answers .noSuchVolume) ∧
        ∀ v, s.volume? h.volume.toNat = some v →
          (v.state ≠ .clearFailed → Answers .wrongState) ∧
          (v.state = .clearFailed →
            ∃ t, exec .clearVolume s = .next ((t.listFor v).lmStatus h .ok) ∧
              UnchangedBut [.cls, .agent, .lm, .bayMail] s t ∧ t.agent = a.agent ∧ t.cls = a.cls ∧
              t.lm = { s.lm with volumes := t.lm.volumes, bays := t.lm.bays } ∧
              s.Clears t h.volume.toNat v ∧
              ((∀ g ∈ v.segments, 8 ≤ (s.lmBay g.bay).listed) → t.listFor v = t)))) ∧
    (s.Asks 0x18 p f h →
      (s.currentLoan h.handle = none → exec .recallLoan s = .next (a.lmStatus h .noSuchLoan)) ∧
      ∀ l, s.currentLoan h.handle = some l →
        (∀ r, l.state = .ending r → exec .recallLoan s = .next (a.lmStatus h .loanEnding)) ∧
        (∀ d, l.state = .recalling d → exec .recallLoan s = .next (a.lmStatus h .ok)) ∧
        (∀ v, l.state = .held → s.volume? l.volume = some v →
          ∃ t, exec .recallLoan s = .next (t.lmStatus h .ok) ∧
            UnchangedBut [.cls, .agent, .lm, .ports] s t ∧ t.agent = a.agent ∧ t.cls = a.cls ∧
            t.lm.volumes = s.lm.volumes ∧ OtherLoansUnchanged (handleIndex h.handle) s t ∧
            t.loan? (handleIndex h.handle) =
              some { l with state := .recalling (s.now + secs v.grace) } ∧
            t.ports = (s.placeForNode l.holder { Header.blank with
              kind := 0x23, subcode := 0x02, handle := h.handle, volume := BitVec.ofNat 8 l.volume,
              valueA := BitVec.ofNat 32 v.grace }).ports))

/-- The requests of the node block (R145, R150 to R154, R172, R75, R80): admission into the lowest free
entry after its tests; readmission; a drain that finds requests outstanding is listed, else the node is
DRAINED; a forget with nothing outstanding removes the node's waiting records, ends and frees its loans,
and frees the entry (R42), once more in full for a node with no loan and no wait; that it frees those
already ENDING, whose quiet reports are on their way, is the model's inference (log entry 18); READ_NODE
answers in the layout of R154 and R182, its handles in the order those give, its waiting volumes by
ascending record, which is the model's choice (log entry 33); a node that falls quiet in DRAINING is
DRAINED and its drains are answered, but while the count for a drain is asked for that count decides.
That the count waits for a claim in flight and for the node's quiet reports is in part the model's
inference (log entry 32), as is the answer to a drain whose node was halted (log entry 47); records and
loans in ascending order are its choice (log entry 17). Each refusal changes nothing. -/
def Obligations.NodeRequests : Prop :=
  (∀ (s : State) (p : Port) (f : InFrame) (h : Header) (a : State), a = s.accepted p →
    let Writes (i : Instr) (n : Nat) (e : Node) : Prop :=
      ∃ t, exec i s = .next (t.nodeStatus h .ok) ∧ UnchangedBut [.cls, .agent, .nodes] s t ∧
        t.agent = a.agent ∧ t.cls = a.cls ∧ t.node? n = some e ∧ OtherNodesUnchanged n s t
    (s.Asks 0x20 p f h →
      (h.offset = 0 ∨ h.offset.getLsbD 40 = true →
        exec .admitNode s = .next (a.nodeStatus h .badValue)) ∧
      (h.offset ≠ 0 → h.offset.getLsbD 40 = false →
        ((s.nodeByAddr h.offset).isSome = true →
          exec .admitNode s = .next (a.nodeStatus h .alreadyPresent)) ∧
        (s.nodeByAddr h.offset = none →
          ((∀ n, n < 512 → (s.node? n).isSome = true) →
            exec .admitNode s = .next (a.nodeStatus h .tableFull)) ∧
          ∀ n, n < 512 → s.node? n = none → (∀ m, m < n → (s.node? m).isSome = true) →
            Writes .admitNode n {
              addr := h.offset, state := .admitted, lastPort := none, outstanding := 0, tags := [],
              loanWait := 0 }))) ∧
    (s.Asks 0x21 p f h →
      (s.nodeByAddr h.offset = none → exec .readmitNode s = .next (a.nodeStatus h .noSuchNode)) ∧
      ∀ n e, s.nodeByAddr h.offset = some (n, e) →
        (e.state = .halted ∨ e.state = .drained →
          Writes .readmitNode n { e with state := .admitted }) ∧
        (e.state = .admitted → exec .readmitNode s = .next (a.nodeStatus h .ok)) ∧
        (e.state = .draining → exec .readmitNode s = .next (a.nodeStatus h .wrongState))) ∧
    (s.Asks 0x22 p f h →
      (64 ≤ s.agent.progress.length → exec .drainNode s = .next (a.answer (h.status .busy))) ∧
      (s.agent.progress.length < 64 →
        (s.nodeByAddr h.offset = none → exec .drainNode s = .next (a.nodeStatus h .noSuchNode)) ∧
        ∀ n e, s.nodeByAddr h.offset = some (n, e) →
          (e.state = .halted → exec .drainNode s = .next (a.nodeStatus h .wrongState)) ∧
          (e.state = .drained → exec .drainNode s = .next (a.nodeStatus h .ok)) ∧
          (e.state = .draining → exec .drainNode s = .next { a with
            agent := { a.agent with
              progress := s.agent.progress ++ [{
                id := s.agent.nextId, tag := h.tag, work := .drain h.offset }],
              nextId := s.agent.nextId + 1 } }) ∧
          (e.state = .admitted →
            exec .drainNode s = .next ((a.setNode n { e with state := .draining }).setWait
              (.drainCount h.tag h.offset n))))) ∧
    (s.Asks 0x23 p f h →
      (s.nodeByAddr h.offset = none → exec .forgetNode s = .next (a.nodeStatus h .noSuchNode)) ∧
      ∀ n e, s.nodeByAddr h.offset = some (n, e) →
        (e.state = .admitted ∨ e.state = .draining →
          exec .forgetNode s = .next (a.nodeStatus h .nodeBusy)) ∧
        (e.state = .halted ∨ e.state = .drained →
          exec .forgetNode s = .next (a.setWait (.forgetCount h.tag h.offset n)))) ∧
    (s.Asks 0x24 p f h →
      (s.nodeByAddr h.offset = none → exec .readNode s = .next (a.nodeStatus h .noSuchNode)) ∧
      ∀ n e, s.nodeByAddr h.offset = some (n, e) →
        exec .readNode s =
          .next ((a.setWait .status).nodeTellAgent (.status (h.data (a.nodeBytes n e)))) ∧
        (a.nodeBytes n e).length = 64 ∧
        ∀ hs ws, hs = (s.lm.loans.filter fun x => x.2.holder == n).map
            (fun x => handleOf x.1 (s.generation x.1)) →
          ws = (s.lm.waits.filter fun x => x.2.node == n).map (fun x => BitVec.ofNat 8 x.2.volume) →
          a.nodeBytes n e =
            ([e.state.value, match e.lastPort with | some j => BitVec.ofNat 8 j.val | none => 0xFF] :
              List Byte) ++
            be 1 e.outstanding ++ be 1 e.loanWait ++
            be 1 (s.agent.progress.filter fun x => x.work == .drain e.addr).length ++ be 3 0 ++
            ((List.range 16).flatMap fun j =>
              match (if BitVec.ofNat 8 j ∈ e.tags then s.requestByTag n (BitVec.ofNat 8 j) else none) with
              | some (_, q) => [q.kind.code, q.state.value]
              | none => [(0 : Byte), 0xFF]) ++
            ((hs.take 8).flatMap fun x => be 2 x.toNat) ++
            List.replicate (16 - 2 * (hs.take 8).length) (0 : Byte) ++
            ws.take 8 ++ List.replicate (8 - (ws.take 8).length) (0xFF : Byte))) ∧
  (∀ (s : State) (tag : BitVec 8) (x : Addr) (n : Nat) (e : Node), s.node? n = some e →
    (s.ru.admitting ≠ none ∨ n ∈ s.mail.quietNodes →
      s.agent.wait = .drainCount tag x n ∨ s.agent.wait = .forgetCount tag x n →
      exec .outstandingCountAnswer s = .next s) ∧
    (s.ru.admitting = none → n ∉ s.mail.quietNodes →
      let reply (code : Byte) : Header :=
        { Header.blank with kind := 0x30, subcode := code, tag := tag, offset := x }
      (s.agent.wait = .drainCount tag x n → e.state = .halted →
        exec .outstandingCountAnswer s = .next (s.nodeStatus (reply 0x22) .wrongState)) ∧
      (s.agent.wait = .drainCount tag x n → e.state = .draining →
        (e.outstanding = 0 → exec .outstandingCountAnswer s =
          .next ((s.setNode n { e with state := .drained }).nodeStatus (reply 0x22) .ok)) ∧
        (e.outstanding ≠ 0 → exec .outstandingCountAnswer s = .next { s with
          agent := { s.agent with
            wait := .free, nextId := s.agent.nextId + 1,
            progress := s.agent.progress ++ [{
              id := s.agent.nextId, tag := tag, work := .drain x }] } })) ∧
      (s.agent.wait = .forgetCount tag x n →
        (e.outstanding ≠ 0 → exec .outstandingCountAnswer s =
          .next (s.nodeStatus (reply 0x23) .nodeBusy)) ∧
        (e.outstanding = 0 →
          ∃ u v, u = (s.lm.waits.numbersWhere fun w => w.node == n).foldl
              (fun t r => t.removeAndGrant r false) s ∧
            v.lm = { u.lm with loans := v.lm.loans } ∧ UnchangedBut [.lm] u v ∧
            (∀ i, v.loan? i = (u.loan? i).map fun l =>
              if l.holder = n ∧ l.state.isEnding = false then { l with state := .ending .forgotten }
              else l) ∧
            ∀ w, w = (u.lm.loans.numbersWhere fun l => l.holder == n).foldl
                (fun t i => t.freeLoan i) v →
              exec .outstandingCountAnswer s =
                .next ({ w with nodes := w.nodes.erase n }.nodeStatus (reply 0x23) .ok)) ∧
        (e.outstanding = 0 → (∀ r ∈ s.lm.waits, r.2.node ≠ n) → (∀ l ∈ s.lm.loans, l.2.holder ≠ n) →
          ∃ t, exec .outstandingCountAnswer s = .next (t.nodeStatus (reply 0x23) .ok) ∧
            UnchangedBut [.nodes, .lm] s t ∧ t.lm = s.lm ∧ t.node? n = none ∧
            OtherNodesUnchanged n s t)))) ∧
  (∀ (s : State) (n : Nat) (e : Node) (rest : List Nat), s.mail.quietNodes = n :: rest →
    s.node? n = some e →
    (e.state ≠ .draining ∨ (∃ tag x, s.agent.wait = .drainCount tag x n) →
      exec .nodeQuiet s = .next { s with mail := { s.mail with quietNodes := rest } }) ∧
    (e.state = .draining → (∀ tag x, s.agent.wait ≠ .drainCount tag x n) →
      ∃ t, exec .nodeQuiet s = .next (t.nodeTellAgent (.drainAnswer e.addr .ok)) ∧
        UnchangedBut [.nodes, .mail] s t ∧ t.mail = { s.mail with quietNodes := rest } ∧
        t.node? n = some { e with state := .drained } ∧ OtherNodesUnchanged n s t))

/-- The requests of a bay (R104 to R106, R114, R133 to R135): a bay above 23 is answered BAD_VALUE;
WAKE_DISK wakes a STANDBY unit; SLEEP_DISK spins down a READY unit with nothing to do; ACCEPT_DISK
identifies a faulted disk again; READ_DISK answers with the unit as it stands, in the layout of R182,
where the order of the three counters is that of the table of R106 (log entry 55), the rests of the idle
and gather timers are rounded down, what the unit has not reads 0 and the keep-spinning setting is the
one it has taken (log entry 34), and every block of the staged piece is counted until the emptied report
(log entry 23), all by the model's inference; ACK_SERVICE clears the service-pressed flag. -/
def Obligations.DiskRequests : Prop :=
  ∀ (s : State) (p : Port) (f : InFrame) (h : Header) (a : State), a = s.accepted p →
    (∀ i code, requestCode i = some code → code ∈ [0x28, 0x29, 0x2A, 0x2B, 0x2D] →
      s.Asks code p f h → 24 ≤ h.valueA.toNat → exec i s = .next (a.answer (h.status .badValue))) ∧
    ∀ (b : Bay) (u : DriveUnit), h.valueA.toNat = b.val → s.unit b = u →
      let Same (i : Instr) (c : Code) : Prop := exec i s = .next (a.unitStatus b (h.status c))
      let Becomes (i : Instr) (v : DriveUnit) (st : DriveState) (m : BayMail) : Prop :=
        ∃ t, exec i s = .next (t.unitStatus b (h.status .ok)) ∧ a.BayBecomes t b v st m
      (s.Asks 0x28 p f h →
        (u.state = .standby → Becomes .wakeDisk u .wakeWait
          { s.bmail b with unitToArb := (s.bmail b).unitToArb ++ [.wanted] }) ∧
        (u.state ≠ .standby → Same .wakeDisk .ok)) ∧
      (s.Asks 0x29 p f h →
        (u.state = .ready → u.queue = [] → u.hand = none → u.staging = none → u.engine.list = [] →
          Becomes .sleepDisk { DriveUnit.issuing u .spinDown s.now with idleTimer := none }
            .spinningDown (s.bmail b)) ∧
        (u.state = .standby → Same .sleepDisk .ok) ∧
        (u.state ≠ .standby → u.state ≠ .ready ∨ u.queue ≠ [] ∨ u.hand ≠ none ∨ u.staging ≠ none ∨
          u.engine.list ≠ [] → Same .sleepDisk .diskBusy)) ∧
      (s.Asks 0x2A p f h →
        (u.state = .fault → Becomes .acceptDisk
          { DriveUnit.issuing u .identify s.now with disk := none, pauseCounter := 0 } .identifying
          { s.bmail b with unitToLm := (s.bmail b).unitToLm ++ [.health .identifying none false] }) ∧
        (u.state ≠ .fault → Same .acceptDisk .wrongState)) ∧
      (s.Asks 0x2B p f h →
        exec .readDisk s = .next (a.unitStatus b (h.data (s.diskBytes b))) ∧
        (s.diskBytes b).length = 60 + 16 * u.engine.list.length ∧
        s.diskBytes b =
          [u.state.value, Config.flagByte (s.arb.places.contains b)] ++
          be 1 (if b ∈ s.arb.waitOrder then s.arb.waitOrder.idxOf b + 1 else 0) ++
          [Config.flagByte u.params.keepSpinning] ++
          (match u.disk with
            | some d => be 20 d.serial.toNat ++ be 4 d.capacity
            | none => List.replicate 24 0) ++
          be 1 u.queue.length ++ [match u.hand with | some j => j.kind.code | none => 0] ++
          be 2 (match u.staging with | some st => st.blocks.length | none => 0) ++
          be 1 u.pauseCounter ++ [Config.flagByte u.idleTimer.isSome] ++
          be 4 (match u.idleTimer with | some d => (d - s.now) / secs 1 | none => 0) ++
          be 4 u.mediaErrors ++ be 4 u.timeouts ++ be 4 u.spinUps ++
          [u.engine.state.value, Config.flagByte u.engine.closed] ++
          be 1 (match u.engine.state with | .gathering d => (d - s.now) / tens 1 | _ => 0) ++
          be 2 (s.lmBay b).pendingClear.length ++
          be 4 (if u.engine.state = .sweeping then u.engine.position.getD 0 else 0) ++
          be 1 u.engine.list.length ++ u.engine.list.flatMap fun x =>
            be 1 x.vol ++ be 1 x.seg ++ [if x.current then 0 else 1, 0] ++ be 4 x.start ++
            be 4 x.length ++ be 4 x.progress) ∧
      (s.Asks 0x2D p f h →
        ∃ t, exec .ackService s = .next (t.svcStatus b (h.status .ok)) ∧ OnlyBay [.svc] b a t ∧
          t.controls b = { s.controls b with
            pressedFlag := false, lock := lockFor u.state, lamp := lampFor false u.state })

/-! ### Laws every step keeps -/

/-- Every step keeps the law of drive commands (R83, R96, R101, R112), the table of lock and lamp (R134),
and the law of the channels to the agent (the model's choice, log entry 8). -/
def Obligations.DriveLawsKept : Prop :=
  ∀ s t : State, step s = .next t →
    (CommandLaw s → CommandLaw t) ∧ (OutputLaw s → OutputLaw t) ∧ (ChannelLaw s → ChannelLaw t)

/-- Every step keeps the arbiter's law (R107 to R113): each place is held by exactly one grant on its
way, spin-up or report that gives it back; so never more bays spin up than the budget allows. -/
def Obligations.SpinUpLawKept : Prop :=
  ∀ s t : State, CommandLaw s → SpinUpLaw s → step s = .next t →
    SpinUpLaw t ∧ t.spinning.length ≤ t.arb.budget

/-- Every step keeps the disk map law (R8): no two segments of defined volumes overlap. -/
def Obligations.DiskMapLawKept : Prop :=
  ∀ s t : State, DiskMapLaw s → step s = .next t → DiskMapLaw t

/-- Every step keeps every table in its one form and within its size, and every generation below 64 (R1,
R19, R23, R52, R62, R143). -/
def Obligations.CapacityLawKept : Prop :=
  ∀ s t : State, CapacityLaw s → step s = .next t → CapacityLaw t

/-- The common header (R180): it takes 48 bytes, the bytes of any header, with any payload behind them,
are read back as that header, and the first 48 bytes of any longer frame are those of the header read
from it. -/
def Obligations.HeaderRoundTrip : Prop :=
  (∀ (h : Header) (rest : List Byte),
    h.encode.length = 48 ∧ Header.parse (h.encode ++ rest) = some h) ∧
  (∀ (bs : List Byte) (h : Header), Header.parse bs = some h → h.encode = bs.take 48) ∧
  ∀ bs : List Byte, Header.parse bs = none ↔ bs.length < 48

/-- The state after reset (R179; log entry 3) is the power-on state of a part with no disk present, every
button released and every link DOWN, with no command waiting, and it meets every law. -/
def Obligations.ResetLawful : Prop :=
  State.reset = State.powerOn 0 0 0 [] ∧ State.reset.pending = [] ∧ CommandLaw State.reset ∧
  OutputLaw State.reset ∧ ChannelLaw State.reset ∧ SpinUpLaw State.reset ∧
  DiskMapLaw State.reset ∧ CapacityLaw State.reset
end

