-- ==== Sys2Proof/Laws/Table.lean ====
section
/-! SUPPORT. The laws of numbered tables: what reading finds after a write or a free, and that every
operation keeps the one form. -/

namespace Sys2Proof

variable {α : Type}

@[simp] theorem Tbl.get_set_self (t : Tbl α) (i : Nat) (a : α) : (t.set i a).get i = some a := by
  induction t with
  | nil => simp [Tbl.set, Tbl.get]
  | cons e t ih =>
    obtain ⟨k, b⟩ := e
    simp only [Tbl.set]
    split
    · simp [Tbl.get]
    · split
      · simp [Tbl.get]
      · rename_i _ h; simp [Tbl.get, h, ih]

theorem Tbl.get_set_ne (t : Tbl α) (i : Nat) (a : α) (j : Nat) (h : j ≠ i) :
    (t.set i a).get j = t.get j := by
  induction t with
  | nil => simp [Tbl.set, Tbl.get, h]
  | cons e t ih =>
    obtain ⟨k, b⟩ := e
    simp only [Tbl.set]
    split
    · simp [Tbl.get, h]
    · split
      · rename_i hk; subst hk; simp [Tbl.get, h]
      · by_cases hj : j = k
        · simp [Tbl.get, hj]
        · simp [Tbl.get, hj, ih]

@[simp] theorem Tbl.getD_set_self (t : Tbl α) (i : Nat) (a d : α) : (t.set i a).getD i d = a := by
  simp [Tbl.getD]

theorem Tbl.getD_set_ne (t : Tbl α) (i : Nat) (a : α) (j : Nat) (d : α) (h : j ≠ i) :
    (t.set i a).getD j d = t.getD j d := by
  simp [Tbl.getD, Tbl.get_set_ne t i a j h]

@[simp] theorem Tbl.get_erase_self (t : Tbl α) (i : Nat) : (t.erase i).get i = none := by
  induction t with
  | nil => rfl
  | cons e t ih =>
    obtain ⟨k, b⟩ := e
    by_cases h : k = i
    · subst h; simpa [Tbl.erase] using ih
    · have : (Tbl.erase ((k, b) :: t) i) = (k, b) :: Tbl.erase t i := by simp [Tbl.erase, h]
      rw [this]; simp [Tbl.get, Ne.symm h, ih]

theorem Tbl.get_erase_ne (t : Tbl α) (i j : Nat) (h : j ≠ i) : (t.erase i).get j = t.get j := by
  induction t with
  | nil => rfl
  | cons e t ih =>
    obtain ⟨k, b⟩ := e
    by_cases hk : k = i
    · subst hk
      have : (Tbl.erase ((k, b) :: t) k) = Tbl.erase t k := by simp [Tbl.erase]
      rw [this]; simp [Tbl.get, h, ih]
    · have : (Tbl.erase ((k, b) :: t) i) = (k, b) :: Tbl.erase t i := by simp [Tbl.erase, hk]
      rw [this]; simp only [Tbl.get, ih]

theorem Tbl.mem_of_get (t : Tbl α) (i : Nat) (a : α) (h : t.get i = some a) : (i, a) ∈ t := by
  induction t with
  | nil => simp [Tbl.get] at h
  | cons e t ih =>
    obtain ⟨k, b⟩ := e
    simp only [Tbl.get] at h
    split at h
    · rename_i hk; subst hk; simp_all
    · exact List.mem_cons_of_mem _ (ih h)

theorem Tbl.mem_numbers_of_get (t : Tbl α) (i : Nat) (a : α) (h : t.get i = some a) :
    i ∈ t.numbers :=
  List.mem_map_of_mem (f := Prod.fst) (t.mem_of_get i a h)

theorem Tbl.mem_set (t : Tbl α) (i : Nat) (a : α) (e : Nat × α) (h : e ∈ t.set i a) :
    e = (i, a) ∨ e ∈ t := by
  induction t with
  | nil => simp [Tbl.set] at h; exact .inl h
  | cons f t ih =>
    obtain ⟨k, b⟩ := f
    simp only [Tbl.set] at h
    split at h
    · simpa using h
    · split at h
      · rcases List.mem_cons.1 h with h | h
        · exact .inl h
        · exact .inr (List.mem_cons_of_mem _ h)
      · rcases List.mem_cons.1 h with h | h
        · exact .inr (h ▸ List.mem_cons_self)
        · exact (ih h).imp id (List.mem_cons_of_mem _)

/-- A write keeps the numbers strictly rising. -/
theorem Tbl.set_pairwise (t : Tbl α) (i : Nat) (a : α) (h : t.numbers.Pairwise (· < ·)) :
    (t.set i a).numbers.Pairwise (· < ·) := by
  induction t with
  | nil => simp [Tbl.set, Tbl.numbers]
  | cons f t ih =>
    obtain ⟨k, b⟩ := f
    simp only [Tbl.numbers, List.map_cons, List.pairwise_cons] at h ih ⊢
    simp only [Tbl.set]
    split
    · rename_i hik
      simp only [List.map_cons, List.pairwise_cons]
      refine ⟨fun x hx => ?_, h⟩
      rcases List.mem_cons.1 hx with hx | hx
      · omega
      · have := h.1 x hx; omega
    · split
      · rename_i _ hik; subst hik
        simpa only [List.map_cons, List.pairwise_cons] using h
      · rename_i h1 h2
        simp only [List.map_cons, List.pairwise_cons]
        refine ⟨fun x hx => ?_, ih h.2⟩
        obtain ⟨e, he, rfl⟩ := List.mem_map.1 hx
        rcases Tbl.mem_set t i a e he with rfl | he
        · simp only; omega
        · exact h.1 _ (List.mem_map_of_mem he)

/-- A write below the size keeps a table in its one form. -/
theorem Tbl.set_wf (t : Tbl α) (i : Nat) (a : α) (n : Nat) (h : t.wf n = true) (hi : i < n) :
    (t.set i a).wf n = true := by
  simp only [Tbl.wf, Bool.and_eq_true, decide_eq_true_eq, List.all_eq_true] at h ⊢
  refine ⟨Tbl.set_pairwise t i a h.1, fun x hx => ?_⟩
  obtain ⟨e, he, rfl⟩ := List.mem_map.1 hx
  rcases Tbl.mem_set t i a e he with rfl | he
  · exact hi
  · exact h.2 _ (List.mem_map_of_mem he)

/-- A free keeps a table in its one form. -/
theorem Tbl.erase_wf (t : Tbl α) (i n : Nat) (h : t.wf n = true) : (t.erase i).wf n = true := by
  simp only [Tbl.wf, Bool.and_eq_true, decide_eq_true_eq, List.all_eq_true] at h ⊢
  have hs : List.Sublist (t.erase i).numbers t.numbers := List.Sublist.map _ List.filter_sublist
  exact ⟨h.1.sublist hs, fun x hx => h.2 x (hs.subset hx)⟩

/-- An update of every entry keeps a table in its one form. -/
theorem Tbl.update_wf (t : Tbl α) (f : α → α) (n : Nat) (h : t.wf n = true) :
    (t.update f).wf n = true := by
  have : (t.update f).numbers = t.numbers := by simp [Tbl.update, Tbl.numbers]
  simpa [Tbl.wf, this] using h

theorem Tbl.freeFrom_spec (t : Tbl α) (fuel i j : Nat) (h : t.freeFrom fuel i = some j) :
    i ≤ j ∧ j < i + fuel ∧ t.get j = none ∧ ∀ k, i ≤ k → k < j → (t.get k).isSome := by
  induction fuel generalizing i with
  | zero => simp [Tbl.freeFrom] at h
  | succ fuel ih =>
    simp only [Tbl.freeFrom] at h
    split at h
    · rename_i hn
      obtain rfl : i = j := by simpa using h
      refine ⟨le_refl _, by omega, by simpa using hn, fun k _ _ => by omega⟩
    · rename_i hn
      obtain ⟨h1, h2, h3, h4⟩ := ih (i + 1) h
      refine ⟨by omega, by omega, h3, fun k hk hkj => ?_⟩
      rcases Nat.eq_or_lt_of_le hk with rfl | hlt
      · simpa [Option.isSome_iff_ne_none] using hn
      · exact h4 k (by omega) hkj

/-- The lowest free entry is below the size, free, and every lower entry is in use. -/
theorem Tbl.lowestFree_spec (t : Tbl α) (n j : Nat) (h : t.lowestFree n = some j) :
    j < n ∧ t.get j = none ∧ ∀ k, k < j → (t.get k).isSome := by
  obtain ⟨_, h2, h3, h4⟩ := Tbl.freeFrom_spec t n 0 j h
  exact ⟨by omega, h3, fun k hk => h4 k (Nat.zero_le _) hk⟩

/-- An entry in use of a table in its one form has a number below the size. -/
theorem Tbl.lt_of_get (t : Tbl α) (n i : Nat) (a : α) (h : t.wf n = true) (hg : t.get i = some a) :
    i < n := by
  simp only [Tbl.wf, Bool.and_eq_true, List.all_eq_true, decide_eq_true_eq] at h
  exact h.2 _ (Tbl.mem_numbers_of_get t i a hg)

end Sys2Proof
end

