-- ==== Sys2Proof/Laws/State.lean ====
section
/-! SUPPORT. What each writer of one part of the state leaves of every field, and what each reader finds
after a writer. -/

namespace Sys2Proof.Machine

variable (s : State)

/-! ### setPort -/

@[simp] theorem State.setPort_now (p : Port) (x : FarmPort) : (s.setPort p x).now = s.now := rfl
@[simp] theorem State.setPort_cls (p : Port) (x : FarmPort) : (s.setPort p x).cls = s.cls := rfl
@[simp] theorem State.setPort_nodes (p : Port) (x : FarmPort) : (s.setPort p x).nodes = s.nodes := rfl
@[simp] theorem State.setPort_lm (p : Port) (x : FarmPort) : (s.setPort p x).lm = s.lm := rfl
@[simp] theorem State.setPort_ru (p : Port) (x : FarmPort) : (s.setPort p x).ru = s.ru := rfl
@[simp] theorem State.setPort_units (p : Port) (x : FarmPort) : (s.setPort p x).units = s.units := rfl
@[simp] theorem State.setPort_svc (p : Port) (x : FarmPort) : (s.setPort p x).svc = s.svc := rfl
@[simp] theorem State.setPort_arb (p : Port) (x : FarmPort) : (s.setPort p x).arb = s.arb := rfl
@[simp] theorem State.setPort_agent (p : Port) (x : FarmPort) : (s.setPort p x).agent = s.agent := rfl
@[simp] theorem State.setPort_bayMail (p : Port) (x : FarmPort) : (s.setPort p x).bayMail = s.bayMail := rfl
@[simp] theorem State.setPort_portMail (p : Port) (x : FarmPort) : (s.setPort p x).portMail = s.portMail := rfl
@[simp] theorem State.setPort_mail (p : Port) (x : FarmPort) : (s.setPort p x).mail = s.mail := rfl
@[simp] theorem State.setPort_pending (p : Port) (x : FarmPort) : (s.setPort p x).pending = s.pending := rfl

/-! ### setUnit -/

@[simp] theorem State.setUnit_now (b : Bay) (x : DriveUnit) : (s.setUnit b x).now = s.now := rfl
@[simp] theorem State.setUnit_ports (b : Bay) (x : DriveUnit) : (s.setUnit b x).ports = s.ports := rfl
@[simp] theorem State.setUnit_cls (b : Bay) (x : DriveUnit) : (s.setUnit b x).cls = s.cls := rfl
@[simp] theorem State.setUnit_nodes (b : Bay) (x : DriveUnit) : (s.setUnit b x).nodes = s.nodes := rfl
@[simp] theorem State.setUnit_lm (b : Bay) (x : DriveUnit) : (s.setUnit b x).lm = s.lm := rfl
@[simp] theorem State.setUnit_ru (b : Bay) (x : DriveUnit) : (s.setUnit b x).ru = s.ru := rfl
@[simp] theorem State.setUnit_svc (b : Bay) (x : DriveUnit) : (s.setUnit b x).svc = s.svc := rfl
@[simp] theorem State.setUnit_arb (b : Bay) (x : DriveUnit) : (s.setUnit b x).arb = s.arb := rfl
@[simp] theorem State.setUnit_agent (b : Bay) (x : DriveUnit) : (s.setUnit b x).agent = s.agent := rfl
@[simp] theorem State.setUnit_bayMail (b : Bay) (x : DriveUnit) : (s.setUnit b x).bayMail = s.bayMail := rfl
@[simp] theorem State.setUnit_portMail (b : Bay) (x : DriveUnit) : (s.setUnit b x).portMail = s.portMail := rfl
@[simp] theorem State.setUnit_mail (b : Bay) (x : DriveUnit) : (s.setUnit b x).mail = s.mail := rfl
@[simp] theorem State.setUnit_pending (b : Bay) (x : DriveUnit) : (s.setUnit b x).pending = s.pending := rfl

/-! ### setControls -/

@[simp] theorem State.setControls_now (b : Bay) (x : Service) : (s.setControls b x).now = s.now := rfl
@[simp] theorem State.setControls_ports (b : Bay) (x : Service) : (s.setControls b x).ports = s.ports := rfl
@[simp] theorem State.setControls_cls (b : Bay) (x : Service) : (s.setControls b x).cls = s.cls := rfl
@[simp] theorem State.setControls_nodes (b : Bay) (x : Service) : (s.setControls b x).nodes = s.nodes := rfl
@[simp] theorem State.setControls_lm (b : Bay) (x : Service) : (s.setControls b x).lm = s.lm := rfl
@[simp] theorem State.setControls_ru (b : Bay) (x : Service) : (s.setControls b x).ru = s.ru := rfl
@[simp] theorem State.setControls_units (b : Bay) (x : Service) : (s.setControls b x).units = s.units := rfl
@[simp] theorem State.setControls_arb (b : Bay) (x : Service) : (s.setControls b x).arb = s.arb := rfl
@[simp] theorem State.setControls_agent (b : Bay) (x : Service) : (s.setControls b x).agent = s.agent := rfl
@[simp] theorem State.setControls_bayMail (b : Bay) (x : Service) : (s.setControls b x).bayMail = s.bayMail := rfl
@[simp] theorem State.setControls_portMail (b : Bay) (x : Service) : (s.setControls b x).portMail = s.portMail := rfl
@[simp] theorem State.setControls_mail (b : Bay) (x : Service) : (s.setControls b x).mail = s.mail := rfl
@[simp] theorem State.setControls_pending (b : Bay) (x : Service) : (s.setControls b x).pending = s.pending := rfl

/-! ### setBmail -/

@[simp] theorem State.setBmail_now (b : Bay) (x : BayMail) : (s.setBmail b x).now = s.now := rfl
@[simp] theorem State.setBmail_ports (b : Bay) (x : BayMail) : (s.setBmail b x).ports = s.ports := rfl
@[simp] theorem State.setBmail_cls (b : Bay) (x : BayMail) : (s.setBmail b x).cls = s.cls := rfl
@[simp] theorem State.setBmail_nodes (b : Bay) (x : BayMail) : (s.setBmail b x).nodes = s.nodes := rfl
@[simp] theorem State.setBmail_lm (b : Bay) (x : BayMail) : (s.setBmail b x).lm = s.lm := rfl
@[simp] theorem State.setBmail_ru (b : Bay) (x : BayMail) : (s.setBmail b x).ru = s.ru := rfl
@[simp] theorem State.setBmail_units (b : Bay) (x : BayMail) : (s.setBmail b x).units = s.units := rfl
@[simp] theorem State.setBmail_svc (b : Bay) (x : BayMail) : (s.setBmail b x).svc = s.svc := rfl
@[simp] theorem State.setBmail_arb (b : Bay) (x : BayMail) : (s.setBmail b x).arb = s.arb := rfl
@[simp] theorem State.setBmail_agent (b : Bay) (x : BayMail) : (s.setBmail b x).agent = s.agent := rfl
@[simp] theorem State.setBmail_portMail (b : Bay) (x : BayMail) : (s.setBmail b x).portMail = s.portMail := rfl
@[simp] theorem State.setBmail_mail (b : Bay) (x : BayMail) : (s.setBmail b x).mail = s.mail := rfl
@[simp] theorem State.setBmail_pending (b : Bay) (x : BayMail) : (s.setBmail b x).pending = s.pending := rfl

/-! ### setPmail -/

@[simp] theorem State.setPmail_now (p : Port) (x : PortMail) : (s.setPmail p x).now = s.now := rfl
@[simp] theorem State.setPmail_ports (p : Port) (x : PortMail) : (s.setPmail p x).ports = s.ports := rfl
@[simp] theorem State.setPmail_cls (p : Port) (x : PortMail) : (s.setPmail p x).cls = s.cls := rfl
@[simp] theorem State.setPmail_nodes (p : Port) (x : PortMail) : (s.setPmail p x).nodes = s.nodes := rfl
@[simp] theorem State.setPmail_lm (p : Port) (x : PortMail) : (s.setPmail p x).lm = s.lm := rfl
@[simp] theorem State.setPmail_ru (p : Port) (x : PortMail) : (s.setPmail p x).ru = s.ru := rfl
@[simp] theorem State.setPmail_units (p : Port) (x : PortMail) : (s.setPmail p x).units = s.units := rfl
@[simp] theorem State.setPmail_svc (p : Port) (x : PortMail) : (s.setPmail p x).svc = s.svc := rfl
@[simp] theorem State.setPmail_arb (p : Port) (x : PortMail) : (s.setPmail p x).arb = s.arb := rfl
@[simp] theorem State.setPmail_agent (p : Port) (x : PortMail) : (s.setPmail p x).agent = s.agent := rfl
@[simp] theorem State.setPmail_bayMail (p : Port) (x : PortMail) : (s.setPmail p x).bayMail = s.bayMail := rfl
@[simp] theorem State.setPmail_mail (p : Port) (x : PortMail) : (s.setPmail p x).mail = s.mail := rfl
@[simp] theorem State.setPmail_pending (p : Port) (x : PortMail) : (s.setPmail p x).pending = s.pending := rfl

/-! ### setLmBay -/

@[simp] theorem State.setLmBay_now (b : Bay) (x : LmBay) : (s.setLmBay b x).now = s.now := rfl
@[simp] theorem State.setLmBay_ports (b : Bay) (x : LmBay) : (s.setLmBay b x).ports = s.ports := rfl
@[simp] theorem State.setLmBay_cls (b : Bay) (x : LmBay) : (s.setLmBay b x).cls = s.cls := rfl
@[simp] theorem State.setLmBay_nodes (b : Bay) (x : LmBay) : (s.setLmBay b x).nodes = s.nodes := rfl
@[simp] theorem State.setLmBay_ru (b : Bay) (x : LmBay) : (s.setLmBay b x).ru = s.ru := rfl
@[simp] theorem State.setLmBay_units (b : Bay) (x : LmBay) : (s.setLmBay b x).units = s.units := rfl
@[simp] theorem State.setLmBay_svc (b : Bay) (x : LmBay) : (s.setLmBay b x).svc = s.svc := rfl
@[simp] theorem State.setLmBay_arb (b : Bay) (x : LmBay) : (s.setLmBay b x).arb = s.arb := rfl
@[simp] theorem State.setLmBay_agent (b : Bay) (x : LmBay) : (s.setLmBay b x).agent = s.agent := rfl
@[simp] theorem State.setLmBay_bayMail (b : Bay) (x : LmBay) : (s.setLmBay b x).bayMail = s.bayMail := rfl
@[simp] theorem State.setLmBay_portMail (b : Bay) (x : LmBay) : (s.setLmBay b x).portMail = s.portMail := rfl
@[simp] theorem State.setLmBay_mail (b : Bay) (x : LmBay) : (s.setLmBay b x).mail = s.mail := rfl
@[simp] theorem State.setLmBay_pending (b : Bay) (x : LmBay) : (s.setLmBay b x).pending = s.pending := rfl

/-! ### setNode -/

@[simp] theorem State.setNode_now (n : Nat) (x : Node) : (s.setNode n x).now = s.now := rfl
@[simp] theorem State.setNode_ports (n : Nat) (x : Node) : (s.setNode n x).ports = s.ports := rfl
@[simp] theorem State.setNode_cls (n : Nat) (x : Node) : (s.setNode n x).cls = s.cls := rfl
@[simp] theorem State.setNode_lm (n : Nat) (x : Node) : (s.setNode n x).lm = s.lm := rfl
@[simp] theorem State.setNode_ru (n : Nat) (x : Node) : (s.setNode n x).ru = s.ru := rfl
@[simp] theorem State.setNode_units (n : Nat) (x : Node) : (s.setNode n x).units = s.units := rfl
@[simp] theorem State.setNode_svc (n : Nat) (x : Node) : (s.setNode n x).svc = s.svc := rfl
@[simp] theorem State.setNode_arb (n : Nat) (x : Node) : (s.setNode n x).arb = s.arb := rfl
@[simp] theorem State.setNode_agent (n : Nat) (x : Node) : (s.setNode n x).agent = s.agent := rfl
@[simp] theorem State.setNode_bayMail (n : Nat) (x : Node) : (s.setNode n x).bayMail = s.bayMail := rfl
@[simp] theorem State.setNode_portMail (n : Nat) (x : Node) : (s.setNode n x).portMail = s.portMail := rfl
@[simp] theorem State.setNode_mail (n : Nat) (x : Node) : (s.setNode n x).mail = s.mail := rfl
@[simp] theorem State.setNode_pending (n : Nat) (x : Node) : (s.setNode n x).pending = s.pending := rfl

/-! ### setVolume -/

@[simp] theorem State.setVolume_now (v : Nat) (x : Volume) : (s.setVolume v x).now = s.now := rfl
@[simp] theorem State.setVolume_ports (v : Nat) (x : Volume) : (s.setVolume v x).ports = s.ports := rfl
@[simp] theorem State.setVolume_cls (v : Nat) (x : Volume) : (s.setVolume v x).cls = s.cls := rfl
@[simp] theorem State.setVolume_nodes (v : Nat) (x : Volume) : (s.setVolume v x).nodes = s.nodes := rfl
@[simp] theorem State.setVolume_ru (v : Nat) (x : Volume) : (s.setVolume v x).ru = s.ru := rfl
@[simp] theorem State.setVolume_units (v : Nat) (x : Volume) : (s.setVolume v x).units = s.units := rfl
@[simp] theorem State.setVolume_svc (v : Nat) (x : Volume) : (s.setVolume v x).svc = s.svc := rfl
@[simp] theorem State.setVolume_arb (v : Nat) (x : Volume) : (s.setVolume v x).arb = s.arb := rfl
@[simp] theorem State.setVolume_agent (v : Nat) (x : Volume) : (s.setVolume v x).agent = s.agent := rfl
@[simp] theorem State.setVolume_bayMail (v : Nat) (x : Volume) : (s.setVolume v x).bayMail = s.bayMail := rfl
@[simp] theorem State.setVolume_portMail (v : Nat) (x : Volume) : (s.setVolume v x).portMail = s.portMail := rfl
@[simp] theorem State.setVolume_mail (v : Nat) (x : Volume) : (s.setVolume v x).mail = s.mail := rfl
@[simp] theorem State.setVolume_pending (v : Nat) (x : Volume) : (s.setVolume v x).pending = s.pending := rfl

/-! ### setLoan -/

@[simp] theorem State.setLoan_now (i : Nat) (x : Loan) : (s.setLoan i x).now = s.now := rfl
@[simp] theorem State.setLoan_ports (i : Nat) (x : Loan) : (s.setLoan i x).ports = s.ports := rfl
@[simp] theorem State.setLoan_cls (i : Nat) (x : Loan) : (s.setLoan i x).cls = s.cls := rfl
@[simp] theorem State.setLoan_nodes (i : Nat) (x : Loan) : (s.setLoan i x).nodes = s.nodes := rfl
@[simp] theorem State.setLoan_ru (i : Nat) (x : Loan) : (s.setLoan i x).ru = s.ru := rfl
@[simp] theorem State.setLoan_units (i : Nat) (x : Loan) : (s.setLoan i x).units = s.units := rfl
@[simp] theorem State.setLoan_svc (i : Nat) (x : Loan) : (s.setLoan i x).svc = s.svc := rfl
@[simp] theorem State.setLoan_arb (i : Nat) (x : Loan) : (s.setLoan i x).arb = s.arb := rfl
@[simp] theorem State.setLoan_agent (i : Nat) (x : Loan) : (s.setLoan i x).agent = s.agent := rfl
@[simp] theorem State.setLoan_bayMail (i : Nat) (x : Loan) : (s.setLoan i x).bayMail = s.bayMail := rfl
@[simp] theorem State.setLoan_portMail (i : Nat) (x : Loan) : (s.setLoan i x).portMail = s.portMail := rfl
@[simp] theorem State.setLoan_mail (i : Nat) (x : Loan) : (s.setLoan i x).mail = s.mail := rfl
@[simp] theorem State.setLoan_pending (i : Nat) (x : Loan) : (s.setLoan i x).pending = s.pending := rfl

/-! ### setGeneration -/

@[simp] theorem State.setGeneration_now (i g : Nat) : (s.setGeneration i g).now = s.now := rfl
@[simp] theorem State.setGeneration_ports (i g : Nat) : (s.setGeneration i g).ports = s.ports := rfl
@[simp] theorem State.setGeneration_cls (i g : Nat) : (s.setGeneration i g).cls = s.cls := rfl
@[simp] theorem State.setGeneration_nodes (i g : Nat) : (s.setGeneration i g).nodes = s.nodes := rfl
@[simp] theorem State.setGeneration_ru (i g : Nat) : (s.setGeneration i g).ru = s.ru := rfl
@[simp] theorem State.setGeneration_units (i g : Nat) : (s.setGeneration i g).units = s.units := rfl
@[simp] theorem State.setGeneration_svc (i g : Nat) : (s.setGeneration i g).svc = s.svc := rfl
@[simp] theorem State.setGeneration_arb (i g : Nat) : (s.setGeneration i g).arb = s.arb := rfl
@[simp] theorem State.setGeneration_agent (i g : Nat) : (s.setGeneration i g).agent = s.agent := rfl
@[simp] theorem State.setGeneration_bayMail (i g : Nat) : (s.setGeneration i g).bayMail = s.bayMail := rfl
@[simp] theorem State.setGeneration_portMail (i g : Nat) : (s.setGeneration i g).portMail = s.portMail := rfl
@[simp] theorem State.setGeneration_mail (i g : Nat) : (s.setGeneration i g).mail = s.mail := rfl
@[simp] theorem State.setGeneration_pending (i g : Nat) : (s.setGeneration i g).pending = s.pending := rfl

/-! ### setRecord -/

@[simp] theorem State.setRecord_now (r : Nat) (x : WaitRec) : (s.setRecord r x).now = s.now := rfl
@[simp] theorem State.setRecord_ports (r : Nat) (x : WaitRec) : (s.setRecord r x).ports = s.ports := rfl
@[simp] theorem State.setRecord_cls (r : Nat) (x : WaitRec) : (s.setRecord r x).cls = s.cls := rfl
@[simp] theorem State.setRecord_nodes (r : Nat) (x : WaitRec) : (s.setRecord r x).nodes = s.nodes := rfl
@[simp] theorem State.setRecord_ru (r : Nat) (x : WaitRec) : (s.setRecord r x).ru = s.ru := rfl
@[simp] theorem State.setRecord_units (r : Nat) (x : WaitRec) : (s.setRecord r x).units = s.units := rfl
@[simp] theorem State.setRecord_svc (r : Nat) (x : WaitRec) : (s.setRecord r x).svc = s.svc := rfl
@[simp] theorem State.setRecord_arb (r : Nat) (x : WaitRec) : (s.setRecord r x).arb = s.arb := rfl
@[simp] theorem State.setRecord_agent (r : Nat) (x : WaitRec) : (s.setRecord r x).agent = s.agent := rfl
@[simp] theorem State.setRecord_bayMail (r : Nat) (x : WaitRec) : (s.setRecord r x).bayMail = s.bayMail := rfl
@[simp] theorem State.setRecord_portMail (r : Nat) (x : WaitRec) : (s.setRecord r x).portMail = s.portMail := rfl
@[simp] theorem State.setRecord_mail (r : Nat) (x : WaitRec) : (s.setRecord r x).mail = s.mail := rfl
@[simp] theorem State.setRecord_pending (r : Nat) (x : WaitRec) : (s.setRecord r x).pending = s.pending := rfl

/-! ### setRequest -/

@[simp] theorem State.setRequest_now (r : Nat) (x : Request) : (s.setRequest r x).now = s.now := rfl
@[simp] theorem State.setRequest_ports (r : Nat) (x : Request) : (s.setRequest r x).ports = s.ports := rfl
@[simp] theorem State.setRequest_cls (r : Nat) (x : Request) : (s.setRequest r x).cls = s.cls := rfl
@[simp] theorem State.setRequest_nodes (r : Nat) (x : Request) : (s.setRequest r x).nodes = s.nodes := rfl
@[simp] theorem State.setRequest_lm (r : Nat) (x : Request) : (s.setRequest r x).lm = s.lm := rfl
@[simp] theorem State.setRequest_units (r : Nat) (x : Request) : (s.setRequest r x).units = s.units := rfl
@[simp] theorem State.setRequest_svc (r : Nat) (x : Request) : (s.setRequest r x).svc = s.svc := rfl
@[simp] theorem State.setRequest_arb (r : Nat) (x : Request) : (s.setRequest r x).arb = s.arb := rfl
@[simp] theorem State.setRequest_agent (r : Nat) (x : Request) : (s.setRequest r x).agent = s.agent := rfl
@[simp] theorem State.setRequest_bayMail (r : Nat) (x : Request) : (s.setRequest r x).bayMail = s.bayMail := rfl
@[simp] theorem State.setRequest_portMail (r : Nat) (x : Request) : (s.setRequest r x).portMail = s.portMail := rfl
@[simp] theorem State.setRequest_mail (r : Nat) (x : Request) : (s.setRequest r x).mail = s.mail := rfl
@[simp] theorem State.setRequest_pending (r : Nat) (x : Request) : (s.setRequest r x).pending = s.pending := rfl

/-! ### setPiece -/

@[simp] theorem State.setPiece_now (n : Nat) (x : Piece) : (s.setPiece n x).now = s.now := rfl
@[simp] theorem State.setPiece_ports (n : Nat) (x : Piece) : (s.setPiece n x).ports = s.ports := rfl
@[simp] theorem State.setPiece_cls (n : Nat) (x : Piece) : (s.setPiece n x).cls = s.cls := rfl
@[simp] theorem State.setPiece_nodes (n : Nat) (x : Piece) : (s.setPiece n x).nodes = s.nodes := rfl
@[simp] theorem State.setPiece_lm (n : Nat) (x : Piece) : (s.setPiece n x).lm = s.lm := rfl
@[simp] theorem State.setPiece_units (n : Nat) (x : Piece) : (s.setPiece n x).units = s.units := rfl
@[simp] theorem State.setPiece_svc (n : Nat) (x : Piece) : (s.setPiece n x).svc = s.svc := rfl
@[simp] theorem State.setPiece_arb (n : Nat) (x : Piece) : (s.setPiece n x).arb = s.arb := rfl
@[simp] theorem State.setPiece_agent (n : Nat) (x : Piece) : (s.setPiece n x).agent = s.agent := rfl
@[simp] theorem State.setPiece_bayMail (n : Nat) (x : Piece) : (s.setPiece n x).bayMail = s.bayMail := rfl
@[simp] theorem State.setPiece_portMail (n : Nat) (x : Piece) : (s.setPiece n x).portMail = s.portMail := rfl
@[simp] theorem State.setPiece_mail (n : Nat) (x : Piece) : (s.setPiece n x).mail = s.mail := rfl
@[simp] theorem State.setPiece_pending (n : Nat) (x : Piece) : (s.setPiece n x).pending = s.pending := rfl

/-! ### setDelivery -/

@[simp] theorem State.setDelivery_now (p : Port) (x : List Nat) : (s.setDelivery p x).now = s.now := rfl
@[simp] theorem State.setDelivery_ports (p : Port) (x : List Nat) : (s.setDelivery p x).ports = s.ports := rfl
@[simp] theorem State.setDelivery_cls (p : Port) (x : List Nat) : (s.setDelivery p x).cls = s.cls := rfl
@[simp] theorem State.setDelivery_nodes (p : Port) (x : List Nat) : (s.setDelivery p x).nodes = s.nodes := rfl
@[simp] theorem State.setDelivery_lm (p : Port) (x : List Nat) : (s.setDelivery p x).lm = s.lm := rfl
@[simp] theorem State.setDelivery_units (p : Port) (x : List Nat) : (s.setDelivery p x).units = s.units := rfl
@[simp] theorem State.setDelivery_svc (p : Port) (x : List Nat) : (s.setDelivery p x).svc = s.svc := rfl
@[simp] theorem State.setDelivery_arb (p : Port) (x : List Nat) : (s.setDelivery p x).arb = s.arb := rfl
@[simp] theorem State.setDelivery_agent (p : Port) (x : List Nat) : (s.setDelivery p x).agent = s.agent := rfl
@[simp] theorem State.setDelivery_bayMail (p : Port) (x : List Nat) : (s.setDelivery p x).bayMail = s.bayMail := rfl
@[simp] theorem State.setDelivery_portMail (p : Port) (x : List Nat) : (s.setDelivery p x).portMail = s.portMail := rfl
@[simp] theorem State.setDelivery_mail (p : Port) (x : List Nat) : (s.setDelivery p x).mail = s.mail := rfl
@[simp] theorem State.setDelivery_pending (p : Port) (x : List Nat) : (s.setDelivery p x).pending = s.pending := rfl

/-! ### setWait -/

@[simp] theorem State.setWait_now (x : AgentWait) : (s.setWait x).now = s.now := rfl
@[simp] theorem State.setWait_ports (x : AgentWait) : (s.setWait x).ports = s.ports := rfl
@[simp] theorem State.setWait_cls (x : AgentWait) : (s.setWait x).cls = s.cls := rfl
@[simp] theorem State.setWait_nodes (x : AgentWait) : (s.setWait x).nodes = s.nodes := rfl
@[simp] theorem State.setWait_lm (x : AgentWait) : (s.setWait x).lm = s.lm := rfl
@[simp] theorem State.setWait_ru (x : AgentWait) : (s.setWait x).ru = s.ru := rfl
@[simp] theorem State.setWait_units (x : AgentWait) : (s.setWait x).units = s.units := rfl
@[simp] theorem State.setWait_svc (x : AgentWait) : (s.setWait x).svc = s.svc := rfl
@[simp] theorem State.setWait_arb (x : AgentWait) : (s.setWait x).arb = s.arb := rfl
@[simp] theorem State.setWait_bayMail (x : AgentWait) : (s.setWait x).bayMail = s.bayMail := rfl
@[simp] theorem State.setWait_portMail (x : AgentWait) : (s.setWait x).portMail = s.portMail := rfl
@[simp] theorem State.setWait_mail (x : AgentWait) : (s.setWait x).mail = s.mail := rfl
@[simp] theorem State.setWait_pending (x : AgentWait) : (s.setWait x).pending = s.pending := rfl

/-! ### setArb -/

@[simp] theorem State.setArb_now (x : Arbiter) : (s.setArb x).now = s.now := rfl
@[simp] theorem State.setArb_ports (x : Arbiter) : (s.setArb x).ports = s.ports := rfl
@[simp] theorem State.setArb_cls (x : Arbiter) : (s.setArb x).cls = s.cls := rfl
@[simp] theorem State.setArb_nodes (x : Arbiter) : (s.setArb x).nodes = s.nodes := rfl
@[simp] theorem State.setArb_lm (x : Arbiter) : (s.setArb x).lm = s.lm := rfl
@[simp] theorem State.setArb_ru (x : Arbiter) : (s.setArb x).ru = s.ru := rfl
@[simp] theorem State.setArb_units (x : Arbiter) : (s.setArb x).units = s.units := rfl
@[simp] theorem State.setArb_svc (x : Arbiter) : (s.setArb x).svc = s.svc := rfl
@[simp] theorem State.setArb_agent (x : Arbiter) : (s.setArb x).agent = s.agent := rfl
@[simp] theorem State.setArb_bayMail (x : Arbiter) : (s.setArb x).bayMail = s.bayMail := rfl
@[simp] theorem State.setArb_portMail (x : Arbiter) : (s.setArb x).portMail = s.portMail := rfl
@[simp] theorem State.setArb_mail (x : Arbiter) : (s.setArb x).mail = s.mail := rfl
@[simp] theorem State.setArb_pending (x : Arbiter) : (s.setArb x).pending = s.pending := rfl

/-! ### Readers after a writer of another part -/

@[simp] theorem State.setPort_unit (p : Port) (x : FarmPort) (c : Bay) : (s.setPort p x).unit c = s.unit c := rfl
@[simp] theorem State.setPort_controls (p : Port) (x : FarmPort) (c : Bay) : (s.setPort p x).controls c = s.controls c := rfl
@[simp] theorem State.setPort_bmail (p : Port) (x : FarmPort) (c : Bay) : (s.setPort p x).bmail c = s.bmail c := rfl
@[simp] theorem State.setPort_pmail (p : Port) (x : FarmPort) (q : Port) : (s.setPort p x).pmail q = s.pmail q := rfl
@[simp] theorem State.setPort_lmBay (p : Port) (x : FarmPort) (c : Bay) : (s.setPort p x).lmBay c = s.lmBay c := rfl
@[simp] theorem State.setPort_node (p : Port) (x : FarmPort) (m : Nat) : (s.setPort p x).node? m = s.node? m := rfl
@[simp] theorem State.setPort_volume (p : Port) (x : FarmPort) (w : Nat) : (s.setPort p x).volume? w = s.volume? w := rfl
@[simp] theorem State.setPort_loan (p : Port) (x : FarmPort) (j : Nat) : (s.setPort p x).loan? j = s.loan? j := rfl
@[simp] theorem State.setPort_generation (p : Port) (x : FarmPort) (j : Nat) : (s.setPort p x).generation j = s.generation j := rfl
@[simp] theorem State.setPort_request (p : Port) (x : FarmPort) (q : Nat) : (s.setPort p x).request? q = s.request? q := rfl
@[simp] theorem State.setPort_piece (p : Port) (x : FarmPort) (m : Nat) : (s.setPort p x).piece? m = s.piece? m := rfl
@[simp] theorem State.setPort_delivery (p : Port) (x : FarmPort) (q : Port) : (s.setPort p x).delivery q = s.delivery q := rfl
@[simp] theorem State.setUnit_port (b : Bay) (x : DriveUnit) (q : Port) : (s.setUnit b x).port q = s.port q := rfl
@[simp] theorem State.setUnit_controls (b : Bay) (x : DriveUnit) (c : Bay) : (s.setUnit b x).controls c = s.controls c := rfl
@[simp] theorem State.setUnit_bmail (b : Bay) (x : DriveUnit) (c : Bay) : (s.setUnit b x).bmail c = s.bmail c := rfl
@[simp] theorem State.setUnit_pmail (b : Bay) (x : DriveUnit) (q : Port) : (s.setUnit b x).pmail q = s.pmail q := rfl
@[simp] theorem State.setUnit_lmBay (b : Bay) (x : DriveUnit) (c : Bay) : (s.setUnit b x).lmBay c = s.lmBay c := rfl
@[simp] theorem State.setUnit_node (b : Bay) (x : DriveUnit) (m : Nat) : (s.setUnit b x).node? m = s.node? m := rfl
@[simp] theorem State.setUnit_volume (b : Bay) (x : DriveUnit) (w : Nat) : (s.setUnit b x).volume? w = s.volume? w := rfl
@[simp] theorem State.setUnit_loan (b : Bay) (x : DriveUnit) (j : Nat) : (s.setUnit b x).loan? j = s.loan? j := rfl
@[simp] theorem State.setUnit_generation (b : Bay) (x : DriveUnit) (j : Nat) : (s.setUnit b x).generation j = s.generation j := rfl
@[simp] theorem State.setUnit_request (b : Bay) (x : DriveUnit) (q : Nat) : (s.setUnit b x).request? q = s.request? q := rfl
@[simp] theorem State.setUnit_piece (b : Bay) (x : DriveUnit) (m : Nat) : (s.setUnit b x).piece? m = s.piece? m := rfl
@[simp] theorem State.setUnit_delivery (b : Bay) (x : DriveUnit) (q : Port) : (s.setUnit b x).delivery q = s.delivery q := rfl
@[simp] theorem State.setControls_port (b : Bay) (x : Service) (q : Port) : (s.setControls b x).port q = s.port q := rfl
@[simp] theorem State.setControls_unit (b : Bay) (x : Service) (c : Bay) : (s.setControls b x).unit c = s.unit c := rfl
@[simp] theorem State.setControls_bmail (b : Bay) (x : Service) (c : Bay) : (s.setControls b x).bmail c = s.bmail c := rfl
@[simp] theorem State.setControls_pmail (b : Bay) (x : Service) (q : Port) : (s.setControls b x).pmail q = s.pmail q := rfl
@[simp] theorem State.setControls_lmBay (b : Bay) (x : Service) (c : Bay) : (s.setControls b x).lmBay c = s.lmBay c := rfl
@[simp] theorem State.setControls_node (b : Bay) (x : Service) (m : Nat) : (s.setControls b x).node? m = s.node? m := rfl
@[simp] theorem State.setControls_volume (b : Bay) (x : Service) (w : Nat) : (s.setControls b x).volume? w = s.volume? w := rfl
@[simp] theorem State.setControls_loan (b : Bay) (x : Service) (j : Nat) : (s.setControls b x).loan? j = s.loan? j := rfl
@[simp] theorem State.setControls_generation (b : Bay) (x : Service) (j : Nat) : (s.setControls b x).generation j = s.generation j := rfl
@[simp] theorem State.setControls_request (b : Bay) (x : Service) (q : Nat) : (s.setControls b x).request? q = s.request? q := rfl
@[simp] theorem State.setControls_piece (b : Bay) (x : Service) (m : Nat) : (s.setControls b x).piece? m = s.piece? m := rfl
@[simp] theorem State.setControls_delivery (b : Bay) (x : Service) (q : Port) : (s.setControls b x).delivery q = s.delivery q := rfl
@[simp] theorem State.setBmail_port (b : Bay) (x : BayMail) (q : Port) : (s.setBmail b x).port q = s.port q := rfl
@[simp] theorem State.setBmail_unit (b : Bay) (x : BayMail) (c : Bay) : (s.setBmail b x).unit c = s.unit c := rfl
@[simp] theorem State.setBmail_controls (b : Bay) (x : BayMail) (c : Bay) : (s.setBmail b x).controls c = s.controls c := rfl
@[simp] theorem State.setBmail_pmail (b : Bay) (x : BayMail) (q : Port) : (s.setBmail b x).pmail q = s.pmail q := rfl
@[simp] theorem State.setBmail_lmBay (b : Bay) (x : BayMail) (c : Bay) : (s.setBmail b x).lmBay c = s.lmBay c := rfl
@[simp] theorem State.setBmail_node (b : Bay) (x : BayMail) (m : Nat) : (s.setBmail b x).node? m = s.node? m := rfl
@[simp] theorem State.setBmail_volume (b : Bay) (x : BayMail) (w : Nat) : (s.setBmail b x).volume? w = s.volume? w := rfl
@[simp] theorem State.setBmail_loan (b : Bay) (x : BayMail) (j : Nat) : (s.setBmail b x).loan? j = s.loan? j := rfl
@[simp] theorem State.setBmail_generation (b : Bay) (x : BayMail) (j : Nat) : (s.setBmail b x).generation j = s.generation j := rfl
@[simp] theorem State.setBmail_request (b : Bay) (x : BayMail) (q : Nat) : (s.setBmail b x).request? q = s.request? q := rfl
@[simp] theorem State.setBmail_piece (b : Bay) (x : BayMail) (m : Nat) : (s.setBmail b x).piece? m = s.piece? m := rfl
@[simp] theorem State.setBmail_delivery (b : Bay) (x : BayMail) (q : Port) : (s.setBmail b x).delivery q = s.delivery q := rfl
@[simp] theorem State.setPmail_port (p : Port) (x : PortMail) (q : Port) : (s.setPmail p x).port q = s.port q := rfl
@[simp] theorem State.setPmail_unit (p : Port) (x : PortMail) (c : Bay) : (s.setPmail p x).unit c = s.unit c := rfl
@[simp] theorem State.setPmail_controls (p : Port) (x : PortMail) (c : Bay) : (s.setPmail p x).controls c = s.controls c := rfl
@[simp] theorem State.setPmail_bmail (p : Port) (x : PortMail) (c : Bay) : (s.setPmail p x).bmail c = s.bmail c := rfl
@[simp] theorem State.setPmail_lmBay (p : Port) (x : PortMail) (c : Bay) : (s.setPmail p x).lmBay c = s.lmBay c := rfl
@[simp] theorem State.setPmail_node (p : Port) (x : PortMail) (m : Nat) : (s.setPmail p x).node? m = s.node? m := rfl
@[simp] theorem State.setPmail_volume (p : Port) (x : PortMail) (w : Nat) : (s.setPmail p x).volume? w = s.volume? w := rfl
@[simp] theorem State.setPmail_loan (p : Port) (x : PortMail) (j : Nat) : (s.setPmail p x).loan? j = s.loan? j := rfl
@[simp] theorem State.setPmail_generation (p : Port) (x : PortMail) (j : Nat) : (s.setPmail p x).generation j = s.generation j := rfl
@[simp] theorem State.setPmail_request (p : Port) (x : PortMail) (q : Nat) : (s.setPmail p x).request? q = s.request? q := rfl
@[simp] theorem State.setPmail_piece (p : Port) (x : PortMail) (m : Nat) : (s.setPmail p x).piece? m = s.piece? m := rfl
@[simp] theorem State.setPmail_delivery (p : Port) (x : PortMail) (q : Port) : (s.setPmail p x).delivery q = s.delivery q := rfl
@[simp] theorem State.setLmBay_port (b : Bay) (x : LmBay) (q : Port) : (s.setLmBay b x).port q = s.port q := rfl
@[simp] theorem State.setLmBay_unit (b : Bay) (x : LmBay) (c : Bay) : (s.setLmBay b x).unit c = s.unit c := rfl
@[simp] theorem State.setLmBay_controls (b : Bay) (x : LmBay) (c : Bay) : (s.setLmBay b x).controls c = s.controls c := rfl
@[simp] theorem State.setLmBay_bmail (b : Bay) (x : LmBay) (c : Bay) : (s.setLmBay b x).bmail c = s.bmail c := rfl
@[simp] theorem State.setLmBay_pmail (b : Bay) (x : LmBay) (q : Port) : (s.setLmBay b x).pmail q = s.pmail q := rfl
@[simp] theorem State.setLmBay_node (b : Bay) (x : LmBay) (m : Nat) : (s.setLmBay b x).node? m = s.node? m := rfl
@[simp] theorem State.setLmBay_volume (b : Bay) (x : LmBay) (w : Nat) : (s.setLmBay b x).volume? w = s.volume? w := rfl
@[simp] theorem State.setLmBay_loan (b : Bay) (x : LmBay) (j : Nat) : (s.setLmBay b x).loan? j = s.loan? j := rfl
@[simp] theorem State.setLmBay_generation (b : Bay) (x : LmBay) (j : Nat) : (s.setLmBay b x).generation j = s.generation j := rfl
@[simp] theorem State.setLmBay_request (b : Bay) (x : LmBay) (q : Nat) : (s.setLmBay b x).request? q = s.request? q := rfl
@[simp] theorem State.setLmBay_piece (b : Bay) (x : LmBay) (m : Nat) : (s.setLmBay b x).piece? m = s.piece? m := rfl
@[simp] theorem State.setLmBay_delivery (b : Bay) (x : LmBay) (q : Port) : (s.setLmBay b x).delivery q = s.delivery q := rfl
@[simp] theorem State.setNode_port (n : Nat) (x : Node) (q : Port) : (s.setNode n x).port q = s.port q := rfl
@[simp] theorem State.setNode_unit (n : Nat) (x : Node) (c : Bay) : (s.setNode n x).unit c = s.unit c := rfl
@[simp] theorem State.setNode_controls (n : Nat) (x : Node) (c : Bay) : (s.setNode n x).controls c = s.controls c := rfl
@[simp] theorem State.setNode_bmail (n : Nat) (x : Node) (c : Bay) : (s.setNode n x).bmail c = s.bmail c := rfl
@[simp] theorem State.setNode_pmail (n : Nat) (x : Node) (q : Port) : (s.setNode n x).pmail q = s.pmail q := rfl
@[simp] theorem State.setNode_lmBay (n : Nat) (x : Node) (c : Bay) : (s.setNode n x).lmBay c = s.lmBay c := rfl
@[simp] theorem State.setNode_volume (n : Nat) (x : Node) (w : Nat) : (s.setNode n x).volume? w = s.volume? w := rfl
@[simp] theorem State.setNode_loan (n : Nat) (x : Node) (j : Nat) : (s.setNode n x).loan? j = s.loan? j := rfl
@[simp] theorem State.setNode_generation (n : Nat) (x : Node) (j : Nat) : (s.setNode n x).generation j = s.generation j := rfl
@[simp] theorem State.setNode_request (n : Nat) (x : Node) (q : Nat) : (s.setNode n x).request? q = s.request? q := rfl
@[simp] theorem State.setNode_piece (n : Nat) (x : Node) (m : Nat) : (s.setNode n x).piece? m = s.piece? m := rfl
@[simp] theorem State.setNode_delivery (n : Nat) (x : Node) (q : Port) : (s.setNode n x).delivery q = s.delivery q := rfl
@[simp] theorem State.setVolume_port (v : Nat) (x : Volume) (q : Port) : (s.setVolume v x).port q = s.port q := rfl
@[simp] theorem State.setVolume_unit (v : Nat) (x : Volume) (c : Bay) : (s.setVolume v x).unit c = s.unit c := rfl
@[simp] theorem State.setVolume_controls (v : Nat) (x : Volume) (c : Bay) : (s.setVolume v x).controls c = s.controls c := rfl
@[simp] theorem State.setVolume_bmail (v : Nat) (x : Volume) (c : Bay) : (s.setVolume v x).bmail c = s.bmail c := rfl
@[simp] theorem State.setVolume_pmail (v : Nat) (x : Volume) (q : Port) : (s.setVolume v x).pmail q = s.pmail q := rfl
@[simp] theorem State.setVolume_lmBay (v : Nat) (x : Volume) (c : Bay) : (s.setVolume v x).lmBay c = s.lmBay c := rfl
@[simp] theorem State.setVolume_node (v : Nat) (x : Volume) (m : Nat) : (s.setVolume v x).node? m = s.node? m := rfl
@[simp] theorem State.setVolume_loan (v : Nat) (x : Volume) (j : Nat) : (s.setVolume v x).loan? j = s.loan? j := rfl
@[simp] theorem State.setVolume_generation (v : Nat) (x : Volume) (j : Nat) : (s.setVolume v x).generation j = s.generation j := rfl
@[simp] theorem State.setVolume_request (v : Nat) (x : Volume) (q : Nat) : (s.setVolume v x).request? q = s.request? q := rfl
@[simp] theorem State.setVolume_piece (v : Nat) (x : Volume) (m : Nat) : (s.setVolume v x).piece? m = s.piece? m := rfl
@[simp] theorem State.setVolume_delivery (v : Nat) (x : Volume) (q : Port) : (s.setVolume v x).delivery q = s.delivery q := rfl
@[simp] theorem State.setLoan_port (i : Nat) (x : Loan) (q : Port) : (s.setLoan i x).port q = s.port q := rfl
@[simp] theorem State.setLoan_unit (i : Nat) (x : Loan) (c : Bay) : (s.setLoan i x).unit c = s.unit c := rfl
@[simp] theorem State.setLoan_controls (i : Nat) (x : Loan) (c : Bay) : (s.setLoan i x).controls c = s.controls c := rfl
@[simp] theorem State.setLoan_bmail (i : Nat) (x : Loan) (c : Bay) : (s.setLoan i x).bmail c = s.bmail c := rfl
@[simp] theorem State.setLoan_pmail (i : Nat) (x : Loan) (q : Port) : (s.setLoan i x).pmail q = s.pmail q := rfl
@[simp] theorem State.setLoan_lmBay (i : Nat) (x : Loan) (c : Bay) : (s.setLoan i x).lmBay c = s.lmBay c := rfl
@[simp] theorem State.setLoan_node (i : Nat) (x : Loan) (m : Nat) : (s.setLoan i x).node? m = s.node? m := rfl
@[simp] theorem State.setLoan_volume (i : Nat) (x : Loan) (w : Nat) : (s.setLoan i x).volume? w = s.volume? w := rfl
@[simp] theorem State.setLoan_generation (i : Nat) (x : Loan) (j : Nat) : (s.setLoan i x).generation j = s.generation j := rfl
@[simp] theorem State.setLoan_request (i : Nat) (x : Loan) (q : Nat) : (s.setLoan i x).request? q = s.request? q := rfl
@[simp] theorem State.setLoan_piece (i : Nat) (x : Loan) (m : Nat) : (s.setLoan i x).piece? m = s.piece? m := rfl
@[simp] theorem State.setLoan_delivery (i : Nat) (x : Loan) (q : Port) : (s.setLoan i x).delivery q = s.delivery q := rfl
@[simp] theorem State.setGeneration_port (i g : Nat) (q : Port) : (s.setGeneration i g).port q = s.port q := rfl
@[simp] theorem State.setGeneration_unit (i g : Nat) (c : Bay) : (s.setGeneration i g).unit c = s.unit c := rfl
@[simp] theorem State.setGeneration_controls (i g : Nat) (c : Bay) : (s.setGeneration i g).controls c = s.controls c := rfl
@[simp] theorem State.setGeneration_bmail (i g : Nat) (c : Bay) : (s.setGeneration i g).bmail c = s.bmail c := rfl
@[simp] theorem State.setGeneration_pmail (i g : Nat) (q : Port) : (s.setGeneration i g).pmail q = s.pmail q := rfl
@[simp] theorem State.setGeneration_lmBay (i g : Nat) (c : Bay) : (s.setGeneration i g).lmBay c = s.lmBay c := rfl
@[simp] theorem State.setGeneration_node (i g : Nat) (m : Nat) : (s.setGeneration i g).node? m = s.node? m := rfl
@[simp] theorem State.setGeneration_volume (i g : Nat) (w : Nat) : (s.setGeneration i g).volume? w = s.volume? w := rfl
@[simp] theorem State.setGeneration_loan (i g : Nat) (j : Nat) : (s.setGeneration i g).loan? j = s.loan? j := rfl
@[simp] theorem State.setGeneration_request (i g : Nat) (q : Nat) : (s.setGeneration i g).request? q = s.request? q := rfl
@[simp] theorem State.setGeneration_piece (i g : Nat) (m : Nat) : (s.setGeneration i g).piece? m = s.piece? m := rfl
@[simp] theorem State.setGeneration_delivery (i g : Nat) (q : Port) : (s.setGeneration i g).delivery q = s.delivery q := rfl
@[simp] theorem State.setRecord_port (r : Nat) (x : WaitRec) (q : Port) : (s.setRecord r x).port q = s.port q := rfl
@[simp] theorem State.setRecord_unit (r : Nat) (x : WaitRec) (c : Bay) : (s.setRecord r x).unit c = s.unit c := rfl
@[simp] theorem State.setRecord_controls (r : Nat) (x : WaitRec) (c : Bay) : (s.setRecord r x).controls c = s.controls c := rfl
@[simp] theorem State.setRecord_bmail (r : Nat) (x : WaitRec) (c : Bay) : (s.setRecord r x).bmail c = s.bmail c := rfl
@[simp] theorem State.setRecord_pmail (r : Nat) (x : WaitRec) (q : Port) : (s.setRecord r x).pmail q = s.pmail q := rfl
@[simp] theorem State.setRecord_lmBay (r : Nat) (x : WaitRec) (c : Bay) : (s.setRecord r x).lmBay c = s.lmBay c := rfl
@[simp] theorem State.setRecord_node (r : Nat) (x : WaitRec) (m : Nat) : (s.setRecord r x).node? m = s.node? m := rfl
@[simp] theorem State.setRecord_volume (r : Nat) (x : WaitRec) (w : Nat) : (s.setRecord r x).volume? w = s.volume? w := rfl
@[simp] theorem State.setRecord_loan (r : Nat) (x : WaitRec) (j : Nat) : (s.setRecord r x).loan? j = s.loan? j := rfl
@[simp] theorem State.setRecord_generation (r : Nat) (x : WaitRec) (j : Nat) : (s.setRecord r x).generation j = s.generation j := rfl
@[simp] theorem State.setRecord_request (r : Nat) (x : WaitRec) (q : Nat) : (s.setRecord r x).request? q = s.request? q := rfl
@[simp] theorem State.setRecord_piece (r : Nat) (x : WaitRec) (m : Nat) : (s.setRecord r x).piece? m = s.piece? m := rfl
@[simp] theorem State.setRecord_delivery (r : Nat) (x : WaitRec) (q : Port) : (s.setRecord r x).delivery q = s.delivery q := rfl
@[simp] theorem State.setRequest_port (r : Nat) (x : Request) (q : Port) : (s.setRequest r x).port q = s.port q := rfl
@[simp] theorem State.setRequest_unit (r : Nat) (x : Request) (c : Bay) : (s.setRequest r x).unit c = s.unit c := rfl
@[simp] theorem State.setRequest_controls (r : Nat) (x : Request) (c : Bay) : (s.setRequest r x).controls c = s.controls c := rfl
@[simp] theorem State.setRequest_bmail (r : Nat) (x : Request) (c : Bay) : (s.setRequest r x).bmail c = s.bmail c := rfl
@[simp] theorem State.setRequest_pmail (r : Nat) (x : Request) (q : Port) : (s.setRequest r x).pmail q = s.pmail q := rfl
@[simp] theorem State.setRequest_lmBay (r : Nat) (x : Request) (c : Bay) : (s.setRequest r x).lmBay c = s.lmBay c := rfl
@[simp] theorem State.setRequest_node (r : Nat) (x : Request) (m : Nat) : (s.setRequest r x).node? m = s.node? m := rfl
@[simp] theorem State.setRequest_volume (r : Nat) (x : Request) (w : Nat) : (s.setRequest r x).volume? w = s.volume? w := rfl
@[simp] theorem State.setRequest_loan (r : Nat) (x : Request) (j : Nat) : (s.setRequest r x).loan? j = s.loan? j := rfl
@[simp] theorem State.setRequest_generation (r : Nat) (x : Request) (j : Nat) : (s.setRequest r x).generation j = s.generation j := rfl
@[simp] theorem State.setRequest_piece (r : Nat) (x : Request) (m : Nat) : (s.setRequest r x).piece? m = s.piece? m := rfl
@[simp] theorem State.setRequest_delivery (r : Nat) (x : Request) (q : Port) : (s.setRequest r x).delivery q = s.delivery q := rfl
@[simp] theorem State.setPiece_port (n : Nat) (x : Piece) (q : Port) : (s.setPiece n x).port q = s.port q := rfl
@[simp] theorem State.setPiece_unit (n : Nat) (x : Piece) (c : Bay) : (s.setPiece n x).unit c = s.unit c := rfl
@[simp] theorem State.setPiece_controls (n : Nat) (x : Piece) (c : Bay) : (s.setPiece n x).controls c = s.controls c := rfl
@[simp] theorem State.setPiece_bmail (n : Nat) (x : Piece) (c : Bay) : (s.setPiece n x).bmail c = s.bmail c := rfl
@[simp] theorem State.setPiece_pmail (n : Nat) (x : Piece) (q : Port) : (s.setPiece n x).pmail q = s.pmail q := rfl
@[simp] theorem State.setPiece_lmBay (n : Nat) (x : Piece) (c : Bay) : (s.setPiece n x).lmBay c = s.lmBay c := rfl
@[simp] theorem State.setPiece_node (n : Nat) (x : Piece) (m : Nat) : (s.setPiece n x).node? m = s.node? m := rfl
@[simp] theorem State.setPiece_volume (n : Nat) (x : Piece) (w : Nat) : (s.setPiece n x).volume? w = s.volume? w := rfl
@[simp] theorem State.setPiece_loan (n : Nat) (x : Piece) (j : Nat) : (s.setPiece n x).loan? j = s.loan? j := rfl
@[simp] theorem State.setPiece_generation (n : Nat) (x : Piece) (j : Nat) : (s.setPiece n x).generation j = s.generation j := rfl
@[simp] theorem State.setPiece_request (n : Nat) (x : Piece) (q : Nat) : (s.setPiece n x).request? q = s.request? q := rfl
@[simp] theorem State.setPiece_delivery (n : Nat) (x : Piece) (q : Port) : (s.setPiece n x).delivery q = s.delivery q := rfl
@[simp] theorem State.setDelivery_port (p : Port) (x : List Nat) (q : Port) : (s.setDelivery p x).port q = s.port q := rfl
@[simp] theorem State.setDelivery_unit (p : Port) (x : List Nat) (c : Bay) : (s.setDelivery p x).unit c = s.unit c := rfl
@[simp] theorem State.setDelivery_controls (p : Port) (x : List Nat) (c : Bay) : (s.setDelivery p x).controls c = s.controls c := rfl
@[simp] theorem State.setDelivery_bmail (p : Port) (x : List Nat) (c : Bay) : (s.setDelivery p x).bmail c = s.bmail c := rfl
@[simp] theorem State.setDelivery_pmail (p : Port) (x : List Nat) (q : Port) : (s.setDelivery p x).pmail q = s.pmail q := rfl
@[simp] theorem State.setDelivery_lmBay (p : Port) (x : List Nat) (c : Bay) : (s.setDelivery p x).lmBay c = s.lmBay c := rfl
@[simp] theorem State.setDelivery_node (p : Port) (x : List Nat) (m : Nat) : (s.setDelivery p x).node? m = s.node? m := rfl
@[simp] theorem State.setDelivery_volume (p : Port) (x : List Nat) (w : Nat) : (s.setDelivery p x).volume? w = s.volume? w := rfl
@[simp] theorem State.setDelivery_loan (p : Port) (x : List Nat) (j : Nat) : (s.setDelivery p x).loan? j = s.loan? j := rfl
@[simp] theorem State.setDelivery_generation (p : Port) (x : List Nat) (j : Nat) : (s.setDelivery p x).generation j = s.generation j := rfl
@[simp] theorem State.setDelivery_request (p : Port) (x : List Nat) (q : Nat) : (s.setDelivery p x).request? q = s.request? q := rfl
@[simp] theorem State.setDelivery_piece (p : Port) (x : List Nat) (m : Nat) : (s.setDelivery p x).piece? m = s.piece? m := rfl
@[simp] theorem State.setWait_port (x : AgentWait) (q : Port) : (s.setWait x).port q = s.port q := rfl
@[simp] theorem State.setWait_unit (x : AgentWait) (c : Bay) : (s.setWait x).unit c = s.unit c := rfl
@[simp] theorem State.setWait_controls (x : AgentWait) (c : Bay) : (s.setWait x).controls c = s.controls c := rfl
@[simp] theorem State.setWait_bmail (x : AgentWait) (c : Bay) : (s.setWait x).bmail c = s.bmail c := rfl
@[simp] theorem State.setWait_pmail (x : AgentWait) (q : Port) : (s.setWait x).pmail q = s.pmail q := rfl
@[simp] theorem State.setWait_lmBay (x : AgentWait) (c : Bay) : (s.setWait x).lmBay c = s.lmBay c := rfl
@[simp] theorem State.setWait_node (x : AgentWait) (m : Nat) : (s.setWait x).node? m = s.node? m := rfl
@[simp] theorem State.setWait_volume (x : AgentWait) (w : Nat) : (s.setWait x).volume? w = s.volume? w := rfl
@[simp] theorem State.setWait_loan (x : AgentWait) (j : Nat) : (s.setWait x).loan? j = s.loan? j := rfl
@[simp] theorem State.setWait_generation (x : AgentWait) (j : Nat) : (s.setWait x).generation j = s.generation j := rfl
@[simp] theorem State.setWait_request (x : AgentWait) (q : Nat) : (s.setWait x).request? q = s.request? q := rfl
@[simp] theorem State.setWait_piece (x : AgentWait) (m : Nat) : (s.setWait x).piece? m = s.piece? m := rfl
@[simp] theorem State.setWait_delivery (x : AgentWait) (q : Port) : (s.setWait x).delivery q = s.delivery q := rfl
@[simp] theorem State.setArb_port (x : Arbiter) (q : Port) : (s.setArb x).port q = s.port q := rfl
@[simp] theorem State.setArb_unit (x : Arbiter) (c : Bay) : (s.setArb x).unit c = s.unit c := rfl
@[simp] theorem State.setArb_controls (x : Arbiter) (c : Bay) : (s.setArb x).controls c = s.controls c := rfl
@[simp] theorem State.setArb_bmail (x : Arbiter) (c : Bay) : (s.setArb x).bmail c = s.bmail c := rfl
@[simp] theorem State.setArb_pmail (x : Arbiter) (q : Port) : (s.setArb x).pmail q = s.pmail q := rfl
@[simp] theorem State.setArb_lmBay (x : Arbiter) (c : Bay) : (s.setArb x).lmBay c = s.lmBay c := rfl
@[simp] theorem State.setArb_node (x : Arbiter) (m : Nat) : (s.setArb x).node? m = s.node? m := rfl
@[simp] theorem State.setArb_volume (x : Arbiter) (w : Nat) : (s.setArb x).volume? w = s.volume? w := rfl
@[simp] theorem State.setArb_loan (x : Arbiter) (j : Nat) : (s.setArb x).loan? j = s.loan? j := rfl
@[simp] theorem State.setArb_generation (x : Arbiter) (j : Nat) : (s.setArb x).generation j = s.generation j := rfl
@[simp] theorem State.setArb_request (x : Arbiter) (q : Nat) : (s.setArb x).request? q = s.request? q := rfl
@[simp] theorem State.setArb_piece (x : Arbiter) (m : Nat) : (s.setArb x).piece? m = s.piece? m := rfl
@[simp] theorem State.setArb_delivery (x : Arbiter) (q : Port) : (s.setArb x).delivery q = s.delivery q := rfl

/-! ### Readers after their own writer -/

@[simp] theorem State.setPort_port_self (p : Port) (x : FarmPort) : (s.setPort p x).port p = x :=
  Tbl.getD_set_self _ _ _ _
theorem State.setPort_port_ne (p : Port) (x : FarmPort) (q : Port) (h : q ≠ p) :
    (s.setPort p x).port q = s.port q :=
  Tbl.getD_set_ne _ _ _ _ _ fun e => h (Fin.ext e)
@[simp] theorem State.setUnit_unit_self (b : Bay) (x : DriveUnit) : (s.setUnit b x).unit b = x :=
  Tbl.getD_set_self _ _ _ _
theorem State.setUnit_unit_ne (b : Bay) (x : DriveUnit) (c : Bay) (h : c ≠ b) :
    (s.setUnit b x).unit c = s.unit c :=
  Tbl.getD_set_ne _ _ _ _ _ fun e => h (Fin.ext e)
@[simp] theorem State.setControls_controls_self (b : Bay) (x : Service) : (s.setControls b x).controls b = x :=
  Tbl.getD_set_self _ _ _ _
theorem State.setControls_controls_ne (b : Bay) (x : Service) (c : Bay) (h : c ≠ b) :
    (s.setControls b x).controls c = s.controls c :=
  Tbl.getD_set_ne _ _ _ _ _ fun e => h (Fin.ext e)
@[simp] theorem State.setBmail_bmail_self (b : Bay) (x : BayMail) : (s.setBmail b x).bmail b = x :=
  Tbl.getD_set_self _ _ _ _
theorem State.setBmail_bmail_ne (b : Bay) (x : BayMail) (c : Bay) (h : c ≠ b) :
    (s.setBmail b x).bmail c = s.bmail c :=
  Tbl.getD_set_ne _ _ _ _ _ fun e => h (Fin.ext e)
@[simp] theorem State.setPmail_pmail_self (p : Port) (x : PortMail) : (s.setPmail p x).pmail p = x :=
  Tbl.getD_set_self _ _ _ _
theorem State.setPmail_pmail_ne (p : Port) (x : PortMail) (q : Port) (h : q ≠ p) :
    (s.setPmail p x).pmail q = s.pmail q :=
  Tbl.getD_set_ne _ _ _ _ _ fun e => h (Fin.ext e)
@[simp] theorem State.setLmBay_lmBay_self (b : Bay) (x : LmBay) : (s.setLmBay b x).lmBay b = x :=
  Tbl.getD_set_self _ _ _ _
theorem State.setLmBay_lmBay_ne (b : Bay) (x : LmBay) (c : Bay) (h : c ≠ b) :
    (s.setLmBay b x).lmBay c = s.lmBay c :=
  Tbl.getD_set_ne _ _ _ _ _ fun e => h (Fin.ext e)
@[simp] theorem State.setNode_node_self (n : Nat) (x : Node) : (s.setNode n x).node? n = some x :=
  Tbl.get_set_self _ _ _
theorem State.setNode_node_ne (n : Nat) (x : Node) (m : Nat) (h : m ≠ n) :
    (s.setNode n x).node? m = s.node? m :=
  Tbl.get_set_ne _ _ _ _ h
@[simp] theorem State.setVolume_volume_self (v : Nat) (x : Volume) : (s.setVolume v x).volume? v = some x :=
  Tbl.get_set_self _ _ _
theorem State.setVolume_volume_ne (v : Nat) (x : Volume) (w : Nat) (h : w ≠ v) :
    (s.setVolume v x).volume? w = s.volume? w :=
  Tbl.get_set_ne _ _ _ _ h
@[simp] theorem State.setLoan_loan_self (i : Nat) (x : Loan) : (s.setLoan i x).loan? i = some x :=
  Tbl.get_set_self _ _ _
theorem State.setLoan_loan_ne (i : Nat) (x : Loan) (j : Nat) (h : j ≠ i) :
    (s.setLoan i x).loan? j = s.loan? j :=
  Tbl.get_set_ne _ _ _ _ h
@[simp] theorem State.setRequest_request_self (r : Nat) (x : Request) : (s.setRequest r x).request? r = some x :=
  Tbl.get_set_self _ _ _
theorem State.setRequest_request_ne (r : Nat) (x : Request) (q : Nat) (h : q ≠ r) :
    (s.setRequest r x).request? q = s.request? q :=
  Tbl.get_set_ne _ _ _ _ h
@[simp] theorem State.setPiece_piece_self (n : Nat) (x : Piece) : (s.setPiece n x).piece? n = some x :=
  Tbl.get_set_self _ _ _
theorem State.setPiece_piece_ne (n : Nat) (x : Piece) (m : Nat) (h : m ≠ n) :
    (s.setPiece n x).piece? m = s.piece? m :=
  Tbl.get_set_ne _ _ _ _ h
@[simp] theorem State.setDelivery_delivery_self (p : Port) (x : List Nat) : (s.setDelivery p x).delivery p = x :=
  Tbl.getD_set_self _ _ _ _
theorem State.setDelivery_delivery_ne (p : Port) (x : List Nat) (q : Port) (h : q ≠ p) :
    (s.setDelivery p x).delivery q = s.delivery q :=
  Tbl.getD_set_ne _ _ _ _ _ fun e => h (Fin.ext e)

end Sys2Proof.Machine
end

