-- ==== Sys2Proof/Laws/Frames.lean ====
section
/-! SUPPORT. What the shared operations leave unchanged: one lemma per operation, in the terms of
UnchangedBut, and for the operations of one bay also that every other bay is unchanged. -/

namespace Sys2Proof.Machine

/-! ### The calculus of frames -/

theorem UnchangedBut.refl (l : List Part) (s : State) : UnchangedBut l s s := by
  intro a _; cases a <;> rfl

theorem Part.same_trans {a : Part} {s t u : State} (h : a.same s t) (k : a.same t u) : a.same s u := by
  cases a <;> simp only [Part.same] at * <;> rw [k, h]

theorem UnchangedBut.trans {l : List Part} {s t u : State} (h : UnchangedBut l s t)
    (k : UnchangedBut l t u) : UnchangedBut l s u :=
  fun a ha => Part.same_trans (h a ha) (k a ha)

theorem UnchangedBut.mono {l m : List Part} {s t : State} (h : UnchangedBut l s t) (hs : l ⊆ m) :
    UnchangedBut m s t := fun a ha => h a fun hl => ha (hs hl)

theorem UnchangedBut.foldl {α : Type} {l : List Part} (f : State → α → State)
    (h : ∀ s x, UnchangedBut l s (f s x)) (xs : List α) (s : State) :
    UnchangedBut l s (xs.foldl f s) := by
  induction xs generalizing s with
  | nil => exact .refl _ _
  | cons x xs ih => exact (h s x).trans (ih _)

theorem OtherBaysUnchanged.refl (b : Bay) (s : State) : OtherBaysUnchanged b s s :=
  fun _ _ => ⟨rfl, rfl, rfl, rfl⟩

theorem OtherBaysUnchanged.trans {b : Bay} {s t u : State} (h : OtherBaysUnchanged b s t)
    (k : OtherBaysUnchanged b t u) : OtherBaysUnchanged b s u := fun c hc =>
  ⟨(k c hc).1.trans (h c hc).1, (k c hc).2.1.trans (h c hc).2.1,
    (k c hc).2.2.1.trans (h c hc).2.2.1, (k c hc).2.2.2.trans (h c hc).2.2.2⟩

theorem OtherBaysUnchanged.foldl {α : Type} {b : Bay} (f : State → α → State)
    (h : ∀ s x, OtherBaysUnchanged b s (f s x)) (xs : List α) (s : State) :
    OtherBaysUnchanged b s (xs.foldl f s) := by
  induction xs generalizing s with
  | nil => exact .refl _ _
  | cons x xs ih => exact (h s x).trans (ih _)

/-- Parts that hold nothing of a bay. -/
theorem OtherBaysUnchanged.of_parts {b : Bay} {s t : State} {l : List Part} (h : UnchangedBut l s t)
    (h1 : Part.units ∉ l) (h2 : Part.svc ∉ l) (h3 : Part.bayMail ∉ l) (h4 : Part.lm ∉ l) :
    OtherBaysUnchanged b s t := by
  intro c _
  have e1 : t.units = s.units := h .units h1
  have e2 : t.svc = s.svc := h .svc h2
  have e3 : t.bayMail = s.bayMail := h .bayMail h3
  have e4 : t.lm = s.lm := h .lm h4
  simp [State.unit, State.controls, State.bmail, State.lmBay, e1, e2, e3, e4]

/-! ### The writers of one part -/

section Writers
variable (s : State)

theorem State.setPort_unchanged (p : Port) (x : FarmPort) : UnchangedBut [.ports] s (s.setPort p x) := by
  intro a h; cases a <;> first | rfl | simp at h
theorem State.setUnit_unchanged (b : Bay) (x : DriveUnit) : UnchangedBut [.units] s (s.setUnit b x) := by
  intro a h; cases a <;> first | rfl | simp at h
theorem State.setControls_unchanged (b : Bay) (x : Service) :
    UnchangedBut [.svc] s (s.setControls b x) := by
  intro a h; cases a <;> first | rfl | simp at h
theorem State.setBmail_unchanged (b : Bay) (x : BayMail) :
    UnchangedBut [.bayMail] s (s.setBmail b x) := by
  intro a h; cases a <;> first | rfl | simp at h
theorem State.setPmail_unchanged (p : Port) (x : PortMail) :
    UnchangedBut [.portMail] s (s.setPmail p x) := by
  intro a h; cases a <;> first | rfl | simp at h
theorem State.setLmBay_unchanged (b : Bay) (x : LmBay) : UnchangedBut [.lm] s (s.setLmBay b x) := by
  intro a h; cases a <;> first | rfl | simp at h
theorem State.setNode_unchanged (n : Nat) (x : Node) : UnchangedBut [.nodes] s (s.setNode n x) := by
  intro a h; cases a <;> first | rfl | simp at h
theorem State.setVolume_unchanged (v : Nat) (x : Volume) : UnchangedBut [.lm] s (s.setVolume v x) := by
  intro a h; cases a <;> first | rfl | simp at h
theorem State.setLoan_unchanged (i : Nat) (x : Loan) : UnchangedBut [.lm] s (s.setLoan i x) := by
  intro a h; cases a <;> first | rfl | simp at h
theorem State.setGeneration_unchanged (i g : Nat) : UnchangedBut [.lm] s (s.setGeneration i g) := by
  intro a h; cases a <;> first | rfl | simp at h
theorem State.setRecord_unchanged (r : Nat) (x : WaitRec) : UnchangedBut [.lm] s (s.setRecord r x) := by
  intro a h; cases a <;> first | rfl | simp at h
theorem State.setRequest_unchanged (r : Nat) (x : Request) :
    UnchangedBut [.ru] s (s.setRequest r x) := by
  intro a h; cases a <;> first | rfl | simp at h
theorem State.setPiece_unchanged (n : Nat) (x : Piece) : UnchangedBut [.ru] s (s.setPiece n x) := by
  intro a h; cases a <;> first | rfl | simp at h
theorem State.setDelivery_unchanged (p : Port) (x : List Nat) :
    UnchangedBut [.ru] s (s.setDelivery p x) := by
  intro a h; cases a <;> first | rfl | simp at h
theorem State.setWait_unchanged (x : AgentWait) : UnchangedBut [.agent] s (s.setWait x) := by
  intro a h; cases a <;> first | rfl | simp at h
theorem State.setArb_unchanged (x : Arbiter) : UnchangedBut [.arb] s (s.setArb x) := by
  intro a h; cases a <;> first | rfl | simp at h

theorem State.setUnit_otherBays (b : Bay) (x : DriveUnit) : OtherBaysUnchanged b s (s.setUnit b x) :=
  fun c h => ⟨s.setUnit_unit_ne b x c h, rfl, rfl, rfl⟩
theorem State.setControls_otherBays (b : Bay) (x : Service) :
    OtherBaysUnchanged b s (s.setControls b x) :=
  fun c h => ⟨rfl, s.setControls_controls_ne b x c h, rfl, rfl⟩
theorem State.setBmail_otherBays (b : Bay) (x : BayMail) : OtherBaysUnchanged b s (s.setBmail b x) :=
  fun c h => ⟨rfl, rfl, s.setBmail_bmail_ne b x c h, rfl⟩
theorem State.setLmBay_otherBays (b : Bay) (x : LmBay) : OtherBaysUnchanged b s (s.setLmBay b x) :=
  fun c h => ⟨rfl, rfl, rfl, s.setLmBay_lmBay_ne b x c h⟩

end Writers

/-! ### Frames placed and messages to the agent -/

theorem State.place_unchanged (s : State) (p : Port) (f : OutFrame) :
    UnchangedBut [.ports] s (s.place p f) := s.setPort_unchanged p _

theorem State.placeForNode_unchanged (s : State) (n : Nat) (h : Header) :
    UnchangedBut [.ports] s (s.placeForNode n h) := by
  unfold State.placeForNode
  split
  · split
    · exact s.place_unchanged _ _
    · exact .refl _ _
  · exact .refl _ _

theorem State.answer_unchanged (s : State) (a : Answer) : UnchangedBut [.ports] s (s.answer a) := by
  unfold State.answer
  split
  · exact s.place_unchanged _ _
  · exact .refl _ _

theorem State.setAgent_unchanged (s : State) (x : Agent) :
    UnchangedBut [.agent] s { s with agent := x } := by
  intro a h; cases a <;> first | rfl | simp at h

theorem State.setMail_unchanged (s : State) (x : Mail) : UnchangedBut [.mail] s { s with mail := x } := by
  intro a h; cases a <;> first | rfl | simp at h

theorem State.setLm_unchanged (s : State) (x : LoanManager) : UnchangedBut [.lm] s { s with lm := x } := by
  intro a h; cases a <;> first | rfl | simp at h

theorem State.setRu_unchanged (s : State) (x : RequestUnit) : UnchangedBut [.ru] s { s with ru := x } := by
  intro a h; cases a <;> first | rfl | simp at h

theorem State.takeNotice_unchanged (s : State) (n : Notice) :
    UnchangedBut [.ports, .agent] s (s.takeNotice n) := by
  unfold State.takeNotice
  split
  · exact ((s.place_unchanged _ _).mono (by simp)).trans ((State.setAgent_unchanged _ _).mono (by simp))
  · exact .refl _ _

theorem State.checkReset_unchanged (s : State) : UnchangedBut [.ports, .agent] s s.checkReset := by
  unfold State.checkReset
  exact ((s.setAgent_unchanged _).mono (by simp)).trans
    (UnchangedBut.foldl _ (fun t e => (t.answer_unchanged _).mono (by simp)) _ _)

theorem State.answerDrains_unchanged (s : State) (a : Addr) (c : Code) :
    UnchangedBut [.ports, .agent] s (s.answerDrains a c) := by
  unfold State.answerDrains
  refine UnchangedBut.trans ?_ (State.checkReset_unchanged _)
  exact ((s.setAgent_unchanged _).mono (by simp)).trans
    (UnchangedBut.foldl _ (fun t e => (t.answer_unchanged _).mono (by simp)) _ _)

theorem State.sharesTaken_unchanged (s : State) (r : Running) :
    UnchangedBut [.ports, .agent] s (s.sharesTaken r) := by
  unfold State.sharesTaken
  split
  · exact ((s.setAgent_unchanged _).mono (by simp)).trans (State.checkReset_unchanged _)
  · exact (s.setAgent_unchanged _).mono (by simp)

theorem State.shareDone_unchanged (s : State) (x : ResetShare) : UnchangedBut [.ports, .agent] s (s.shareDone x) := by
  unfold State.shareDone
  split
  · exact .refl _ _
  · split <;> exact s.sharesTaken_unchanged _

theorem State.takeMessage_unchanged (s : State) (m : AgentMsg) :
    UnchangedBut [.ports, .agent] s (s.takeMessage m) := by
  cases m with
  | status a =>
    exact ((s.answer_unchanged a).mono (by simp)).trans ((State.setWait_unchanged _ _).mono (by simp))
  | drainAnswer a c => exact s.answerDrains_unchanged a c
  | notice n => exact s.takeNotice_unchanged n
  | resetFinished => exact s.shareDone_unchanged _

/-- Taking the whole channel of the loan manager empties it, and else writes only the ports and the
agent's registers. -/
theorem State.flushLm_unchanged (s : State) : UnchangedBut [.ports, .agent, .mail] s s.flushLm :=
  ((UnchangedBut.foldl State.takeMessage State.takeMessage_unchanged _ s).mono (by simp)).trans
    ((State.setMail_unchanged _ _).mono (by simp))

theorem State.flushLm_mail (s : State) : s.flushLm.mail = { s.mail with lmToAgent := [] } := by
  have h := UnchangedBut.foldl State.takeMessage State.takeMessage_unchanged s.mail.lmToAgent s .mail
    (by simp)
  simp only [Part.same] at h
  simp [State.flushLm, h]

theorem settle_unchanged (l : List AgentMsg) (s : State) :
    UnchangedBut [.ports, .agent] s (settle l s).2 := by
  induction l generalizing s with
  | nil => exact .refl _ _
  | cons m l ih =>
    cases m with
    | notice n => exact .refl _ _
    | resetFinished => exact .refl _ _
    | status a =>
      exact (((s.answer_unchanged a).mono (by simp)).trans
        ((State.setWait_unchanged _ _).mono (by simp))).trans (ih _)
    | drainAnswer a c => exact (s.answerDrains_unchanged a c).trans (ih _)

theorem State.lmTellAgent_unchanged (s : State) (m : AgentMsg) :
    UnchangedBut [.ports, .agent, .mail] s (s.lmTellAgent m) :=
  ((settle_unchanged _ s).mono (by simp)).trans ((State.setMail_unchanged _ _).mono (by simp))

theorem State.ruTellAgent_unchanged (s : State) (m : AgentMsg) :
    UnchangedBut [.ports, .agent, .mail] s (s.ruTellAgent m) :=
  ((settle_unchanged _ s).mono (by simp)).trans ((State.setMail_unchanged _ _).mono (by simp))

theorem State.nodeTellAgent_unchanged (s : State) (m : AgentMsg) :
    UnchangedBut [.ports, .agent, .mail] s (s.nodeTellAgent m) :=
  ((settle_unchanged _ s).mono (by simp)).trans ((State.setMail_unchanged _ _).mono (by simp))

theorem State.unitTellAgent_unchanged (s : State) (b : Bay) (m : AgentMsg) :
    UnchangedBut [.ports, .agent, .bayMail] s (s.unitTellAgent b m) :=
  ((settle_unchanged _ s).mono (by simp)).trans ((State.setBmail_unchanged _ _ _).mono (by simp))

theorem State.svcTellAgent_unchanged (s : State) (b : Bay) (m : AgentMsg) :
    UnchangedBut [.ports, .agent, .bayMail] s (s.svcTellAgent b m) :=
  ((settle_unchanged _ s).mono (by simp)).trans ((State.setBmail_unchanged _ _ _).mono (by simp))

theorem settle_otherBays (b : Bay) (l : List AgentMsg) (s : State) :
    OtherBaysUnchanged b s (settle l s).2 :=
  .of_parts (settle_unchanged l s) (by simp) (by simp) (by simp) (by simp)

theorem State.unitTellAgent_otherBays (s : State) (b : Bay) (m : AgentMsg) :
    OtherBaysUnchanged b s (s.unitTellAgent b m) :=
  (settle_otherBays b _ s).trans (State.setBmail_otherBays _ _ _)

theorem State.svcTellAgent_otherBays (s : State) (b : Bay) (m : AgentMsg) :
    OtherBaysUnchanged b s (s.svcTellAgent b m) :=
  (settle_otherBays b _ s).trans (State.setBmail_otherBays _ _ _)

end Sys2Proof.Machine
end

