-- ==== Sys2Proof/Laws/BayFrames.lean ====
section
/-! SUPPORT. What the operations of a drive unit leave unchanged: they write the drive unit, the service
controls and the channels of their own bay, and where they hand the agent a notice, the agent and the
farm ports. -/

namespace Sys2Proof.Machine

theorem OnlyBay.refl (l : List Part) (b : Bay) (s : State) : OnlyBay l b s s :=
  ⟨.refl l s, .refl b s⟩

theorem OnlyBay.trans {l : List Part} {b : Bay} {s t u : State} (h : OnlyBay l b s t)
    (k : OnlyBay l b t u) : OnlyBay l b s u := ⟨h.1.trans k.1, h.2.trans k.2⟩

theorem OnlyBay.mono {l m : List Part} {b : Bay} {s t : State} (h : OnlyBay l b s t) (hs : l ⊆ m) :
    OnlyBay m b s t := ⟨h.1.mono hs, h.2⟩

theorem OnlyBay.foldl {α : Type} {l : List Part} {b : Bay} (f : State → α → State)
    (h : ∀ s x, OnlyBay l b s (f s x)) (xs : List α) (s : State) : OnlyBay l b s (xs.foldl f s) :=
  ⟨.foldl f (fun s x => (h s x).1) xs s, .foldl f (fun s x => (h s x).2) xs s⟩

/-- The parts a drive unit writes. -/
abbrev bayParts : List Part := [.units, .svc, .bayMail]

/-- The parts a drive unit writes when it hands the agent a notice. -/
abbrev noticeParts : List Part := [.units, .svc, .bayMail, .ports, .agent]

variable (s : State) (b : Bay)

theorem State.setUnit_onlyBay (x : DriveUnit) : OnlyBay bayParts b s (s.setUnit b x) :=
  ⟨(s.setUnit_unchanged b x).mono (by simp), s.setUnit_otherBays b x⟩
theorem State.setControls_onlyBay (x : Service) : OnlyBay bayParts b s (s.setControls b x) :=
  ⟨(s.setControls_unchanged b x).mono (by simp), s.setControls_otherBays b x⟩
theorem State.setBmail_onlyBay (x : BayMail) : OnlyBay bayParts b s (s.setBmail b x) :=
  ⟨(s.setBmail_unchanged b x).mono (by simp), s.setBmail_otherBays b x⟩
theorem State.modUnit_onlyBay (f : DriveUnit → DriveUnit) : OnlyBay bayParts b s (s.modUnit b f) :=
  s.setUnit_onlyBay b _
theorem State.ruSend_onlyBay (m : RuToUnit) : OnlyBay bayParts b s (s.ruSend b m) :=
  s.setBmail_onlyBay b _
theorem State.tellRu_onlyBay (m : UnitToRu) : OnlyBay bayParts b s (s.tellRu b m) :=
  s.setBmail_onlyBay b _
theorem State.lmSend_onlyBay (m : LmToUnit) : OnlyBay bayParts b s (s.lmSend b m) :=
  s.setBmail_onlyBay b _
theorem State.tellLm_onlyBay (m : UnitToLm) : OnlyBay bayParts b s (s.tellLm b m) :=
  s.setBmail_onlyBay b _
theorem State.tellArb_onlyBay (m : UnitToArb) : OnlyBay bayParts b s (s.tellArb b m) :=
  s.setBmail_onlyBay b _
theorem State.sendGrant_onlyBay : OnlyBay bayParts b s (s.sendGrant b) := s.setBmail_onlyBay b _
theorem State.popRu_onlyBay (r : List RuToUnit) : OnlyBay bayParts b s (s.popRu b r) :=
  s.setBmail_onlyBay b _
theorem State.popUnitReport_onlyBay (r : List UnitToRu) : OnlyBay bayParts b s (s.popUnitReport b r) :=
  s.setBmail_onlyBay b _
theorem State.popUnitToLm_onlyBay (r : List UnitToLm) : OnlyBay bayParts b s (s.popUnitToLm b r) :=
  s.setBmail_onlyBay b _
theorem State.popLmToUnit_onlyBay (r : List LmToUnit) : OnlyBay bayParts b s (s.popLmToUnit b r) :=
  s.setBmail_onlyBay b _
theorem State.popUnitToArb_onlyBay (r : List UnitToArb) :
    OnlyBay bayParts b s (s.popUnitToArb b r) := s.setBmail_onlyBay b _

theorem State.enter_onlyBay (st : DriveState) : OnlyBay bayParts b s (s.enter b st) :=
  (s.modUnit_onlyBay b _).trans (State.setControls_onlyBay _ b _)
theorem State.idle_onlyBay : OnlyBay bayParts b s (s.idle b) := s.modUnit_onlyBay b _
theorem State.issue_onlyBay (c : DriveCmd) : OnlyBay bayParts b s (s.issue b c) := s.modUnit_onlyBay b _
theorem State.endCommand_onlyBay : OnlyBay bayParts b s (s.endCommand b) := s.modUnit_onlyBay b _
theorem State.clearHand_onlyBay : OnlyBay bayParts b s (s.clearHand b) := s.modUnit_onlyBay b _
theorem State.countMedia_onlyBay : OnlyBay bayParts b s (s.countMedia b) := s.modUnit_onlyBay b _
theorem State.countTimeout_onlyBay : OnlyBay bayParts b s (s.countTimeout b) := s.modUnit_onlyBay b _

theorem State.choose_onlyBay : OnlyBay bayParts b s (s.choose b) := by
  unfold State.choose
  dsimp only
  split
  · exact s.idle_onlyBay b
  · split
    · exact (((s.modUnit_onlyBay b _).trans (State.issue_onlyBay _ b _)).trans
        (State.enter_onlyBay _ b _)).trans (State.idle_onlyBay _ b)
    · exact (((s.modUnit_onlyBay b _).trans (State.issue_onlyBay _ b _)).trans
        (State.enter_onlyBay _ b _)).trans (State.idle_onlyBay _ b)
    · exact ((((s.modUnit_onlyBay b _).trans (State.issue_onlyBay _ b _)).trans
        (State.enter_onlyBay _ b _)).trans (State.tellRu_onlyBay _ b _)).trans
        (State.idle_onlyBay _ b)
    · exact s.idle_onlyBay b

theorem State.wake_onlyBay : OnlyBay bayParts b s (s.wake b) :=
  (s.enter_onlyBay b _).trans (State.tellArb_onlyBay _ b _)

theorem State.workArrived_onlyBay : OnlyBay bayParts b s (s.workArrived b) := by
  unfold State.workArrived
  split
  · exact (s.wake_onlyBay b).trans (State.idle_onlyBay _ b)
  · exact s.choose_onlyBay b

theorem State.enterIdentifying_onlyBay : OnlyBay bayParts b s (s.enterIdentifying b) :=
  ((s.modUnit_onlyBay b _).trans (State.issue_onlyBay _ b _)).trans (State.enter_onlyBay _ b _)

theorem State.reportExtents_onlyBay (l : List Extent) : OnlyBay bayParts b s (s.reportExtents b l) :=
  .foldl _ (fun t _ => t.tellLm_onlyBay b _) l s

theorem State.failEngine_onlyBay : OnlyBay bayParts b s (s.failEngine b) :=
  (s.reportExtents_onlyBay b _).trans (State.modUnit_onlyBay _ b _)

theorem State.failPieces_onlyBay (r : FailReason) : OnlyBay bayParts b s (s.failPieces b r) := by
  have hq : ∀ t : State, OnlyBay bayParts b t
      ((s.unit b).queue.foldl (fun t j => t.tellRu b (.failed j.piece r 0)) t) := fun t =>
    .foldl (fun t (j : Job) => t.tellRu b (.failed j.piece r 0)) (fun t _ => t.tellRu_onlyBay b _) _ t
  unfold State.failPieces
  refine OnlyBay.trans ?_ (State.modUnit_onlyBay _ b _)
  cases (s.unit b).hand <;> cases (s.unit b).staging <;> dsimp only
  · exact hq s
  · exact (hq s).trans (State.tellRu_onlyBay _ b _)
  · exact (s.tellRu_onlyBay b _).trans (hq _)
  · exact ((s.tellRu_onlyBay b _).trans (hq _)).trans (State.tellRu_onlyBay _ b _)

theorem State.leaveSpinUp_onlyBay : OnlyBay bayParts b s (s.leaveSpinUp b) := by
  unfold State.leaveSpinUp
  split <;> first | exact s.tellArb_onlyBay b _ | exact .refl _ _ _

theorem State.enterService_onlyBay : OnlyBay bayParts b s (s.enterService b) := by
  unfold State.enterService
  dsimp only
  refine OnlyBay.trans ?_ (State.tellLm_onlyBay _ b _)
  have h := (s.modUnit_onlyBay b fun u =>
    { u.endCommand with releaseUnderWay := false, hand := none, queue := [], idleTimer := none,
                        engine := { u.engine with closed := false } }).trans
    (State.enter_onlyBay _ b .service)
  split
  · exact h.trans (State.tellLm_onlyBay _ b _)
  · exact h

theorem State.releaseSpinDown_onlyBay : OnlyBay bayParts b s (s.releaseSpinDown b) :=
  (s.issue_onlyBay b _).trans (State.enter_onlyBay _ b _)

theorem State.releaseHand_onlyBay : OnlyBay bayParts b s (s.releaseHand b) := by
  unfold State.releaseHand
  split
  · exact (s.clearHand_onlyBay b).trans (State.tellRu_onlyBay _ b _)
  · exact .refl _ _ _

theorem State.ready_onlyBay : OnlyBay bayParts b s (s.ready b) := by
  unfold State.ready
  dsimp only
  have h := s.enter_onlyBay b .ready
  split
  · exact ((h.trans (State.releaseHand_onlyBay _ b)).trans (State.releaseSpinDown_onlyBay _ b)).trans
      (State.idle_onlyBay _ b)
  · exact h.trans (State.choose_onlyBay _ b)

theorem State.unitTellAgent_onlyBay (m : AgentMsg) :
    OnlyBay [.ports, .agent, .bayMail] b s (s.unitTellAgent b m) :=
  ⟨s.unitTellAgent_unchanged b m, s.unitTellAgent_otherBays b m⟩

theorem State.svcTellAgent_onlyBay (m : AgentMsg) :
    OnlyBay [.ports, .agent, .bayMail] b s (s.svcTellAgent b m) :=
  ⟨s.svcTellAgent_unchanged b m, s.svcTellAgent_otherBays b m⟩

theorem State.unitNotice_onlyBay (n : Notice) : OnlyBay noticeParts b s (s.unitNotice b n) :=
  (s.unitTellAgent_onlyBay b _).mono (by simp)

theorem State.enterFault_onlyBay (c : FaultCause) : OnlyBay noticeParts b s (s.enterFault b c) := by
  unfold State.enterFault
  dsimp only
  have h := ((((((((s.failPieces_onlyBay b .diskFault).trans (State.failEngine_onlyBay _ b)).trans
    (State.leaveSpinUp_onlyBay _ b)).trans (State.modUnit_onlyBay _ b fun u =>
      { u.endCommand with idleTimer := none })).trans (State.enter_onlyBay _ b .fault)).trans
    (State.tellLm_onlyBay _ b (.health .fault (s.unit b).disk false))).mono
    (show bayParts ⊆ noticeParts by simp)).trans
    (State.unitNotice_onlyBay _ b (.diskFault b (s.unit b).state c ((s.unit b).disk.map Disk.serial))))
  split
  · exact h.trans ((State.enterService_onlyBay _ b).mono (by simp))
  · exact h

end Sys2Proof.Machine
end

