-- ==== Sys2Proof/Laws/LoanFrames.lean ====
section
/-! SUPPORT. What the operations of the loan manager and of the request unit leave unchanged, and what entry
into CLEARING does. -/

namespace Sys2Proof.Machine

/-- The parts the loan manager's operations write. -/
abbrev lmParts : List Part := [.lm, .nodes, .ports, .bayMail, .mail, .agent]

/-- The parts the request unit's operations write. -/
abbrev ruParts : List Part := [.ru, .lm, .nodes, .ports, .bayMail, .mail, .agent]

variable (s : State)

theorem State.modNode_unchanged (n : Nat) (f : Node → Node) : UnchangedBut [.nodes] s (s.modNode n f) := by
  unfold State.modNode
  split
  · exact s.setNode_unchanged n _
  · exact .refl _ _

theorem State.modVolume_unchanged (v : Nat) (f : Volume → Volume) :
    UnchangedBut [.lm] s (s.modVolume v f) := by
  unfold State.modVolume
  split
  · exact s.setVolume_unchanged v _
  · exact .refl _ _

theorem State.ruSend_unchanged (b : Bay) (m : RuToUnit) : UnchangedBut [.bayMail] s (s.ruSend b m) :=
  s.setBmail_unchanged b _
theorem State.lmSend_unchanged (b : Bay) (m : LmToUnit) : UnchangedBut [.bayMail] s (s.lmSend b m) :=
  s.setBmail_unchanged b _
theorem State.sendGrant_unchanged (b : Bay) : UnchangedBut [.bayMail] s (s.sendGrant b) :=
  s.setBmail_unchanged b _
theorem State.setClear_unchanged (r : SegRef) (c : ClearStatus) :
    UnchangedBut [.lm] s (s.setClear r c) := s.modVolume_unchanged _ _

theorem State.createLoan_unchanged (v n : Nat) (m : LoanMode) (i : Nat) :
    UnchangedBut [.lm] s (s.createLoan v n m i) := by
  unfold State.createLoan
  split
  · exact .refl _ _
  · exact (s.setLoan_unchanged i _).trans (State.setVolume_unchanged _ v _)

theorem State.dropRecord_unchanged (v r : Nat) : UnchangedBut [.lm] s (s.dropRecord v r) :=
  (s.setLm_unchanged _).trans (State.modVolume_unchanged _ v _)

theorem State.grantRecord_unchanged (v r : Nat) (w : WaitRec) (i : Nat) :
    UnchangedBut [.lm, .ports] s (s.grantRecord v r w i) :=
  (((s.dropRecord_unchanged v r).trans (State.createLoan_unchanged _ _ _ _ _)).mono (by simp)).trans
    ((State.placeForNode_unchanged _ _ _).mono (by simp))

theorem State.grantLoop_unchanged (v : Nat) (l : List Nat) :
    UnchangedBut [.lm, .ports] s (State.grantLoop v l s).1 := by
  induction l generalizing s with
  | nil => exact .refl _ _
  | cons r l ih =>
    unfold State.grantLoop
    split
    · exact .refl _ _
    · split
      · exact .refl _ _
      · split
        · exact .refl _ _
        · exact (s.grantRecord_unchanged v r _ _).trans (ih _)

theorem State.grantEnd_unchanged (v : Nat) : UnchangedBut [.lm, .ports] s (s.grantEnd v).1 := by
  unfold State.grantEnd
  split
  · exact .refl _ _
  · exact (s.grantLoop_unchanged v _).trans ((State.setLm_unchanged _ _).mono (by simp))

theorem State.grant_unchanged (v : Nat) : UnchangedBut [.lm, .ports] s (s.grant v) :=
  s.grantEnd_unchanged v

theorem State.retryLoop_unchanged (n : Nat) : UnchangedBut [.lm, .ports] s (State.retryLoop n s) := by
  induction n generalizing s with
  | zero => exact .refl _ _
  | succ n ih =>
    unfold State.retryLoop
    split
    · exact .refl _ _
    · rename_i v _ _
      split
      · exact .refl _ _
      · have h := s.grantEnd_unchanged v
        split <;> rename_i heq <;> rw [heq] at h
        · exact h
        · exact h.trans (ih _)
        · exact h.trans (ih _)

theorem State.retryGrants_unchanged : UnchangedBut [.lm, .ports] s s.retryGrants :=
  s.retryLoop_unchanged _

theorem State.leaveRetry_unchanged (v : Nat) : UnchangedBut [.lm] s (s.leaveRetry v) := by
  unfold State.leaveRetry
  split
  · split
    · exact s.setLm_unchanged _
    · exact .refl _ _
  · exact .refl _ _

theorem State.removeRecord_unchanged (r : Nat) (notice : Bool) :
    UnchangedBut [.lm, .nodes, .ports] s (s.removeRecord r notice) := by
  unfold State.removeRecord
  split
  · exact .refl _ _
  · rename_i w _
    dsimp only
    have h := (((s.dropRecord_unchanged w.volume r).mono
      (show [Part.lm] ⊆ [Part.lm, .nodes, .ports] by simp)).trans
      ((State.modNode_unchanged _ w.node fun e => { e with loanWait := e.loanWait - 1 }).mono
        (by simp))).trans ((State.leaveRetry_unchanged _ w.volume).mono (by simp))
    split
    · exact h.trans ((State.placeForNode_unchanged _ _ _).mono (by simp))
    · exact h

theorem State.removeAndGrant_unchanged (r : Nat) (notice : Bool) :
    UnchangedBut [.lm, .nodes, .ports] s (s.removeAndGrant r notice) := by
  unfold State.removeAndGrant
  split
  · exact .refl _ _
  · split
    · exact s.removeRecord_unchanged r notice
    · split
      · exact (s.removeRecord_unchanged r notice).trans ((State.grant_unchanged _ _).mono (by simp))
      · exact s.removeRecord_unchanged r notice

theorem State.lmNotice_unchanged (n : Notice) : UnchangedBut lmParts s (s.lmNotice n) :=
  (s.lmTellAgent_unchanged _).mono (by simp)

theorem State.clearNotice_unchanged (w : List Nat) (n : Notice) :
    UnchangedBut lmParts s (s.clearNotice w n) := by
  unfold State.clearNotice
  split
  · exact s.lmNotice_unchanged n
  · exact (s.lmNotice_unchanged n).trans ((State.flushLm_unchanged _).mono (by simp))

theorem State.examineClear_unchanged (v : Nat) : UnchangedBut lmParts s (s.examineClear v) := by
  unfold State.examineClear
  split
  · exact .refl _ _
  · split
    · exact .refl _ _
    · split
      · exact (((s.setVolume_unchanged v _).mono (by simp)).trans (State.clearNotice_unchanged _ _ _)).trans
          ((State.grant_unchanged _ v).mono (by simp))
      · exact (((s.setVolume_unchanged v _).mono (by simp)).trans (State.clearNotice_unchanged _ _ _)).trans
          (.foldl _ (fun t r => (t.removeRecord_unchanged r true).mono (by simp)) _ _)

theorem State.setPending_unchanged (b : Bay) (q : List SegRef) :
    UnchangedBut [.lm, .bayMail] s (s.setPending b q) := by
  unfold State.setPending
  dsimp only
  have h : UnchangedBut [.lm, .bayMail] s (s.setLmBay b { s.lmBay b with pendingClear := q }) :=
    (s.setLmBay_unchanged b _).mono (by simp)
  split
  · exact h
  · exact h.trans ((State.lmSend_unchanged _ b _).mono (by simp))

theorem State.listSegment_unchanged (b : Bay) (r : SegRef) :
    UnchangedBut lmParts s (s.listSegment b r) := by
  unfold State.listSegment
  split
  · exact .refl _ _
  · split
    · exact (((s.setClear_unchanged r _).mono (by simp)).trans
        ((State.setLmBay_unchanged _ b _).mono (by simp))).trans
        ((State.lmSend_unchanged _ b _).mono (by simp))
    · exact ((s.setClear_unchanged r _).mono (by simp)).trans (State.examineClear_unchanged _ _)

theorem State.listLoop_unchanged (b : Bay) (l : List SegRef) :
    UnchangedBut lmParts s (State.listLoop b l s) := by
  induction l generalizing s with
  | nil => exact .refl _ _
  | cons r l ih =>
    unfold State.listLoop
    split
    · exact (((s.setPending_unchanged b l).mono (by simp)).trans
        (State.listSegment_unchanged _ b r)).trans (ih _)
    · exact .refl _ _

theorem State.listFromHead_unchanged (b : Bay) : UnchangedBut lmParts s (s.listFromHead b) :=
  s.listLoop_unchanged b _

theorem State.failPending_unchanged (b : Bay) : UnchangedBut lmParts s (s.failPending b) :=
  ((s.setPending_unchanged b []).mono (by simp)).trans
    (.foldl _ (fun t r => ((t.setClear_unchanged r _).mono (by simp)).trans
      (State.examineClear_unchanged _ _)) _ _)

theorem State.toClearing_unchanged (v : Nat) : UnchangedBut lmParts s (s.toClearing v) := by
  unfold State.toClearing
  split
  · exact .refl _ _
  · exact (((s.setVolume_unchanged v _).mono (by simp)).trans
      (.foldl _ (fun t (r : Bay × SegRef) => (t.setPending_unchanged r.1 _).mono (by simp)) _ _)).trans
      (.foldl _ (fun t (r : Bay × SegRef) => t.listFromHead_unchanged r.1) _ _)

theorem State.volumeFreed_unchanged (v : Nat) : UnchangedBut lmParts s (s.volumeFreed v) := by
  unfold State.volumeFreed
  split
  · exact .refl _ _
  · split
    · split
      · exact ((s.setVolume_unchanged v _).mono (by simp)).trans (State.toClearing_unchanged _ v)
      · exact ((s.setVolume_unchanged v _).mono (by simp)).trans
          ((State.grant_unchanged _ v).mono (by simp))
    · exact ((s.setVolume_unchanged v _).mono (by simp)).trans
        ((State.grant_unchanged _ v).mono (by simp))

theorem State.checkLmReset_unchanged : UnchangedBut lmParts s s.checkLmReset := by
  unfold State.checkLmReset
  split
  · exact ((s.setLm_unchanged _).mono (by simp)).trans
      ((State.lmTellAgent_unchanged _ _).mono (by simp))
  · exact .refl _ _

theorem State.freeLoan_unchanged (i : Nat) : UnchangedBut lmParts s (s.freeLoan i) := by
  unfold State.freeLoan
  split
  · exact .refl _ _
  · exact ((((((s.setLm_unchanged _).trans (State.setGeneration_unchanged _ i _)).mono (by simp)).trans
      ((State.modNode_unchanged _ _ _).mono (by simp))).trans (State.volumeFreed_unchanged _ _)).trans
      ((State.retryGrants_unchanged _).mono (by simp))).trans (State.checkLmReset_unchanged _)

theorem State.freeIfQuiet_unchanged (i : Nat) : UnchangedBut lmParts s (s.freeIfQuiet i) := by
  unfold State.freeIfQuiet
  split
  · exact .refl _ _
  · split
    · exact s.freeLoan_unchanged i
    · exact .refl _ _

theorem State.endWithNotice_unchanged (i : Nat) (r : EndReason) :
    UnchangedBut [.lm, .ports] s (s.endWithNotice i r) := by
  unfold State.endWithNotice
  split
  · exact .refl _ _
  · exact ((s.setLoan_unchanged i _).mono (by simp)).trans
      ((State.placeForNode_unchanged _ _ _).mono (by simp))

theorem State.releaseLoanStep_unchanged (b : Bay) : UnchangedBut lmParts s (s.releaseLoanStep b) :=
  .foldl _ (fun t i => ((t.endWithNotice_unchanged i _).mono (by simp)).trans
    (State.freeIfQuiet_unchanged _ i)) _ _

theorem State.forgetLoanStep_unchanged (n : Nat) : UnchangedBut lmParts s (s.forgetLoanStep n) :=
  ((UnchangedBut.foldl (fun (t : State) r => t.removeAndGrant r false)
      (fun t r => (t.removeAndGrant_unchanged r false).mono (by simp)) _ s).trans
    ((State.setLm_unchanged _ _).mono (by simp))).trans
    (.foldl _ (fun t i => t.freeLoan_unchanged i) _ _)

theorem State.beginRelease_unchanged (b : Bay) : UnchangedBut lmParts s (s.beginRelease b) :=
  ((((s.setLmBay_unchanged b _).mono (by simp)).trans (State.releaseLoanStep_unchanged _ b)).trans
    (State.failPending_unchanged _ b)).trans ((State.lmSend_unchanged _ b _).mono (by simp))

/-! ### The request unit -/

theorem State.refuse_unchanged (n : Nat) (p : Port) (tag : BitVec 8) (h : BitVec 16) (k : ReqKind)
    (c : Code) : UnchangedBut [.ports] s (s.refuse n p tag h k c) := s.place_unchanged p _

theorem State.admitCuts_unchanged (a : Admitting) (r : Nat) (l : List Cut) (ns : List Nat) :
    UnchangedBut [.ru, .bayMail] s (State.admitCuts a r l s ns).1 := by
  induction l generalizing s ns with
  | nil => exact .refl _ _
  | cons c l ih =>
    unfold State.admitCuts
    split
    · exact .refl _ _
    · exact ((((s.setPiece_unchanged _ _).trans (State.setRu_unchanged _ _)).mono (by simp)).trans
        ((State.ruSend_unchanged _ _ _).mono (by simp))).trans (ih _ _)

theorem State.admit_unchanged (a : Admitting) :
    UnchangedBut [.ru, .bayMail, .nodes] s (s.admitRequest a) := by
  unfold State.admitRequest
  split
  · exact .refl _ _
  · exact (((s.admitCuts_unchanged a _ _ _).mono (by simp)).trans
      ((State.setRequest_unchanged _ _ _).mono (by simp))).trans
      ((State.modNode_unchanged _ _ _).mono (by simp))

theorem State.lowerLoan_unchanged (h : BitVec 16) : UnchangedBut [.lm, .mail] s (s.lowerLoan h) := by
  unfold State.lowerLoan
  split
  · exact .refl _ _
  · dsimp only
    split
    · exact ((s.setLoan_unchanged _ _).mono (by simp)).trans
        ((State.setMail_unchanged _ _).mono (by simp))
    · exact (s.setLoan_unchanged _ _).mono (by simp)

theorem State.lowerNode_unchanged (n : Nat) (tag : BitVec 8) :
    UnchangedBut [.nodes, .mail] s (s.lowerNode n tag) := by
  unfold State.lowerNode
  split
  · exact .refl _ _
  · dsimp only
    split
    · exact ((s.setNode_unchanged _ _).mono (by simp)).trans
        ((State.setMail_unchanged _ _).mono (by simp))
    · exact (s.setNode_unchanged _ _).mono (by simp)

theorem State.ruShareEnds_unchanged (r : Nat) :
    UnchangedBut [.ru, .ports, .agent, .mail] s (s.ruShareEnds r) := by
  unfold State.ruShareEnds
  split
  · exact .refl _ _
  · split
    · exact ((s.setRu_unchanged _).mono (by simp)).trans
        ((State.ruTellAgent_unchanged _ _).mono (by simp))
    · exact (s.setRu_unchanged _).mono (by simp)

/-- The parts the end of a request writes. -/
abbrev endParts : List Part := [.ru, .lm, .nodes, .ports, .mail, .agent]

theorem State.finish_unchanged (r : Nat) (q : Request) : UnchangedBut endParts s (s.finish r q) :=
  (((((s.place_unchanged _ _).mono (by simp)).trans ((State.setRu_unchanged _ _).mono (by simp))).trans
    ((State.lowerLoan_unchanged _ _).mono (by simp))).trans
    ((State.lowerNode_unchanged _ _ _).mono (by simp))).trans
    ((State.ruShareEnds_unchanged _ _).mono (by simp))

theorem State.finishIfFinal_unchanged (r : Nat) : UnchangedBut endParts s (s.finishIfFinal r) := by
  unfold State.finishIfFinal
  split
  · exact .refl _ _
  · split
    · exact s.finish_unchanged r _
    · exact .refl _ _

theorem State.leaveDelivery_unchanged (p : Port) (n : Nat) :
    UnchangedBut [.ru] s (s.leaveDelivery p n) := s.setDelivery_unchanged p _

theorem State.placeData_unchanged (p : Port) (n : Nat) (pc : Piece) (q : Request) (k i : Nat)
    (m : Bool) : UnchangedBut ruParts s (s.placeData p n pc q k i m) := by
  unfold State.placeData
  dsimp only
  split
  · exact (((((s.place_unchanged _ _).mono (by simp)).trans
      ((State.setPiece_unchanged _ _ _).mono (by simp))).trans
      ((State.leaveDelivery_unchanged _ _ _).mono (by simp))).trans
      ((State.ruSend_unchanged _ _ _).mono (by simp))).trans
      ((State.finishIfFinal_unchanged _ _).mono (by simp))
  · exact ((s.place_unchanged _ _).mono (by simp)).trans
      ((State.setPiece_unchanged _ _ _).mono (by simp))

theorem State.deliverLoop_unchanged (p : Port) (n : Nat) :
    UnchangedBut ruParts s (State.deliverLoop p n s) := by
  induction n generalizing s with
  | zero => exact .refl _ _
  | succ n ih =>
    unfold State.deliverLoop
    split
    · exact .refl _ _
    · split
      · exact ((s.leaveDelivery_unchanged p _).mono (by simp)).trans (ih _)
      · split
        · split
          · exact (s.placeData_unchanged p _ _ _ _ _ _).trans (ih _)
          · exact .refl _ _
        · exact ((s.leaveDelivery_unchanged p _).mono (by simp)).trans (ih _)

theorem State.deliver_unchanged (p : Port) : UnchangedBut ruParts s (s.deliver p) :=
  s.deliverLoop_unchanged p _

theorem State.withdrawQueued_unchanged (q : Request) (r : FailReason) :
    UnchangedBut [.bayMail] s (s.withdrawQueued q r) := by
  refine .foldl _ (fun t n => ?_) _ _
  split
  · split
    · exact t.ruSend_unchanged _ _
    · exact .refl _ _
  · exact .refl _ _

theorem State.discardStaged_unchanged (p : Port) (n : Nat) :
    UnchangedBut [.ru, .bayMail] s (s.discardStaged p n) := by
  unfold State.discardStaged
  split
  · split
    · exact (((s.setPiece_unchanged n _).mono (by simp)).trans
        ((State.leaveDelivery_unchanged _ p n).mono (by simp))).trans
        ((State.ruSend_unchanged _ _ _).mono (by simp))
    all_goals exact .refl _ _
  · exact .refl _ _

theorem State.overrunRequest_unchanged (r : Nat) (q : Request) :
    UnchangedBut ruParts s (s.overrunRequest r q) :=
  (((((s.setRequest_unchanged r _).mono (by simp)).trans
    (.foldl _ (fun t n => (t.discardStaged_unchanged q.port n).mono (by simp)) _ _)).trans
    ((State.withdrawQueued_unchanged _ _ _).mono (by simp))).trans
    ((State.finishIfFinal_unchanged _ r).mono (by simp))).trans (State.deliver_unchanged _ _)

/-! ### Entry into CLEARING (R45, R115) -/

/-- The references of a list of segments, numbered from `k`, that stand on a bay, in list order. -/
def bayRefs (v k : Nat) (l : List Segment) (b : Bay) : List SegRef :=
  ((l.zipIdx k).filter fun x => x.1.bay == b).map fun x => { vol := v, seg := x.2 }

theorem bayRefs_cons_self (v k : Nat) (g : Segment) (l : List Segment) :
    bayRefs v k (g :: l) g.bay = { vol := v, seg := k } :: bayRefs v (k + 1) l g.bay := by
  simp [bayRefs, List.zipIdx_cons]

theorem bayRefs_cons_ne (v k : Nat) (g : Segment) (l : List Segment) (b : Bay) (h : b ≠ g.bay) :
    bayRefs v k (g :: l) b = bayRefs v (k + 1) l b := by
  simp [bayRefs, List.zipIdx_cons, Ne.symm h]

theorem bayRefs_pending (v k : Nat) (l : List Segment) (b : Bay) :
    bayRefs v k (l.map fun g => { g with clear := .pending }) b = bayRefs v k l b := by
  induction l generalizing k with
  | nil => rfl
  | cons g l ih =>
    by_cases c : b = g.bay
    · subst c
      exact (bayRefs_cons_self v k _ _).trans (by rw [ih, bayRefs_cons_self])
    · exact (bayRefs_cons_ne v k { g with clear := .pending } _ b c).trans
        ((ih _).trans (bayRefs_cons_ne v k g l b c).symm)

/-- The references of a volume's segments joined to the queues of their bays. -/
def State.appendRefs (s : State) (l : List (Bay × SegRef)) : State :=
  l.foldl (fun t r => t.setPending r.1 ((t.lmBay r.1).pendingClear ++ [r.2])) s

/-- What joining references to queues does to each bay: they stand at the tail of its queue, and one report
says so where the queue was empty. -/
theorem State.appendRefs_bay (v k : Nat) (l : List Segment) (b : Bay) :
    (s.appendRefs (segRefs v k l)).lmBay b = { s.lmBay b with
      pendingClear := (s.lmBay b).pendingClear ++ bayRefs v k l b } ∧
    (s.appendRefs (segRefs v k l)).bmail b = { s.bmail b with
      lmToUnit := (s.bmail b).lmToUnit ++
        (if (s.lmBay b).pendingClear = [] ∧ bayRefs v k l b ≠ [] then [.pendingClear true] else []) } := by
  induction l generalizing k s with
  | nil => simp [State.appendRefs, segRefs, bayRefs]
  | cons g l ih =>
    obtain ⟨h, hm⟩ :=
      ih (s.setPending g.bay ((s.lmBay g.bay).pendingClear ++ [{ vol := v, seg := k }])) (k + 1)
    by_cases c : b = g.bay
    · subst c
      rw [bayRefs_cons_self]
      refine ⟨h.trans ?_, hm.trans ?_⟩ <;> unfold State.setPending
      · split <;> simp [State.lmSend]
      · cases hq : (s.lmBay g.bay).pendingClear <;> simp [State.lmSend]
    · rw [bayRefs_cons_ne v k g l b c]
      have eb : (s.setPending g.bay ((s.lmBay g.bay).pendingClear ++ [{ vol := v, seg := k }])).lmBay b =
          s.lmBay b := by
        unfold State.setPending
        split <;> simp [State.lmSend, State.setLmBay_lmBay_ne _ _ _ _ c]
      have em : (s.setPending g.bay ((s.lmBay g.bay).pendingClear ++ [{ vol := v, seg := k }])).bmail b =
          s.bmail b := by
        unfold State.setPending
        split <;> simp [State.lmSend, State.setBmail_bmail_ne _ _ _ _ c]
      rw [eb] at h hm
      rw [em] at hm
      exact ⟨h, hm⟩

/-- Joining references to queues writes the queues and the channels to the drive units alone. -/
theorem State.appendRefs_parts (l : List (Bay × SegRef)) :
    UnchangedBut [.lm, .bayMail] s (s.appendRefs l) ∧
    (s.appendRefs l).lm = { s.lm with bays := (s.appendRefs l).lm.bays } := by
  induction l generalizing s with
  | nil => exact ⟨.refl _ _, rfl⟩
  | cons r l ih =>
    obtain ⟨h1, h2⟩ := ih (s.setPending r.1 ((s.lmBay r.1).pendingClear ++ [r.2]))
    refine ⟨(State.setPending_unchanged s r.1 _).trans h1, h2.trans ?_⟩
    have : ∀ q, (s.setPending r.1 q).lm = { s.lm with bays := (s.setPending r.1 q).lm.bays } := by
      intro q
      unfold State.setPending
      split <;> rfl
    rw [this]
    rfl

theorem State.listFor_eq (v k : Nat) (l : List Segment) :
    (segRefs v k (l.map fun g => { g with clear := .pending })).foldl (fun t r => t.listFromHead r.1) s =
      (l.map Segment.bay).foldl State.listFromHead s := by
  induction l generalizing k s with
  | nil => rfl
  | cons g l ih => exact ih _ _

/-- What entry into CLEARING does: every segment is PENDING and its reference joins the queue of its bay,
and then the queues are listed from. -/
theorem State.toClearing_spec (v : Nat) (vol : Volume) (hv : s.volume? v = some vol) :
    ∃ t, s.toClearing v = t.listFor vol ∧ UnchangedBut [.lm, .bayMail] s t ∧ s.Clears t v vol ∧
      t.lm = { s.lm with volumes := t.lm.volumes, bays := t.lm.bays } := by
  let segs := vol.segments.map fun g => { g with clear := ClearStatus.pending }
  let u := s.setVolume v { vol with state := .clearing, segments := segs }
  obtain ⟨hu, hl⟩ := u.appendRefs_parts (segRefs v 0 segs)
  have hvol : (u.appendRefs (segRefs v 0 segs)).lm.volumes = u.lm.volumes := by rw [hl]
  refine ⟨u.appendRefs (segRefs v 0 segs), ?_, ((s.setVolume_unchanged v _).mono (by simp)).trans hu,
    ⟨?_, fun w hw => ?_, fun b => ?_⟩, by rw [hl]; rfl⟩
  · simp only [State.toClearing, hv]
    exact State.listFor_eq _ v 0 vol.segments
  · exact (congrArg (Tbl.get · v) hvol).trans (Tbl.get_set_self _ _ _)
  · exact (congrArg (Tbl.get · w) hvol).trans (Tbl.get_set_ne _ _ _ _ hw)
  · have h := u.appendRefs_bay v 0 segs b
    rw [bayRefs_pending] at h
    exact h

/-- Granting from a volume on which no record waits, with no volume in the grant retry order, changes
nothing (R29, R30). -/
theorem State.grant_of_no_wait (v : Nat) (vol : Volume) (hv : s.volume? v = some vol)
    (hw : vol.waitList = []) (hr : s.lm.retry = []) : s.grant v = s := by
  simp only [State.grant, State.grantEnd, hv, hw, State.grantLoop, State.noteRetry, hr, List.filter_nil]
  rw [← hr]

theorem State.retryGrants_of_empty (hr : s.lm.retry = []) : s.retryGrants = s := by
  simp [State.retryGrants, hr, State.retryLoop]

theorem State.checkLmReset_of_no_share (h : s.lm.resetShare = false) : s.checkLmReset = s := by
  simp [State.checkLmReset, h]

end Sys2Proof.Machine
end

