-- ==== Sys2Proof/Laws/CommandFrames.lean ====
section
/-! SUPPORT. What each command leaves unchanged when it answers a next state. -/

namespace Sys2Proof.Machine

variable (s t : State)

/-! ### Farm ports and the classifier -/

theorem execLinkDown_frame (p : Port) (h : execLinkDown p s = .next t) :
    UnchangedBut [.ports, .portMail] s t := by
  unfold execLinkDown at h
  split at h <;> cases h
  · exact ((s.setPort_unchanged p _).mono (by simp)).trans
      ((State.setPmail_unchanged _ p _).mono (by simp))
  · exact .refl _ _

theorem execLinkUp_frame (p : Port) (h : execLinkUp p s = .next t) :
    UnchangedBut [.ports, .portMail] s t := by
  unfold execLinkUp at h
  split at h <;> cases h
  · exact .refl _ _
  · exact ((s.setPort_unchanged p _).mono (by simp)).trans
      ((State.setPmail_unchanged _ p _).mono (by simp))

theorem execIngressFrame_frame (p : Port) (f : InFrame) (h : execIngressFrame p f s = .next t) :
    UnchangedBut [.ports] s t := by
  cases h; exact s.setPort_unchanged p _

theorem execPauseRepeatExpiry_frame (p : Port) (h : execPauseRepeatExpiry p s = .next t) :
    UnchangedBut [.ports] s t := by
  cases h; exact s.setPort_unchanged p _

theorem execReceivedPause_frame (p : Port) (n : BitVec 16) (g : Bool)
    (h : execReceivedPause p n g s = .next t) : UnchangedBut [.ports] s t := by
  unfold execReceivedPause at h
  split at h <;> cases h
  · exact s.setPort_unchanged p _
  · exact .refl _ _

theorem execReceivedPauseEnd_frame (p : Port) (h : execReceivedPauseEnd p s = .next t) :
    UnchangedBut [.ports] s t := by
  cases h; exact s.setPort_unchanged p _

theorem execTransmissionEnd_frame (p : Port) (h : execTransmissionEnd p s = .next t) :
    UnchangedBut [.ports, .portMail] s t := by
  unfold execTransmissionEnd at h
  split at h <;> cases h
  · exact ((s.setPort_unchanged p _).mono (by simp)).trans
      ((State.setPmail_unchanged _ p _).mono (by simp))
  · exact (s.setPort_unchanged p _).mono (by simp)

theorem execThresholdsTaken_frame (p : Port) (h : execThresholdsTaken p s = .next t) :
    UnchangedBut [.ports, .portMail] s t := by
  unfold execThresholdsTaken at h
  split at h <;> cases h
  · exact .refl _ _
  · exact ((s.setPmail_unchanged p _).mono (by simp)).trans
      ((State.setPort_unchanged _ p _).mono (by simp))

theorem State.setCls_unchanged (c : Classifier) : UnchangedBut [.cls] s { s with cls := c } := by
  intro a h; cases a <;> first | rfl | simp at h

theorem State.freeClassifier_unchanged : UnchangedBut [.cls] s s.freeClassifier :=
  s.setCls_unchanged _

/-- The parts CLASSIFY_FRAME writes. -/
abbrev classifyParts : List Part := [.ports, .cls, .nodes, .agent, .mail]

theorem State.haltNode_unchanged (p : Port) (f : InFrame) (n : Nat) (e : Node) (c : HaltCause) :
    UnchangedBut classifyParts s (s.haltNode p f n e c) := by
  unfold State.haltNode
  dsimp only
  have h := (((s.setPort_unchanged p ((s.port p).unclaim f)).mono
    (show [Part.ports] ⊆ classifyParts by simp)).trans
    ((State.setNode_unchanged _ n { e with state := .halted }).mono (by simp))).trans
    ((State.nodeTellAgent_unchanged _ (.notice (.nodeHalted e.addr c p
      (f.kind.getD Config.absentKind) e.state))).mono (by simp))
  split
  · exact h.trans ((State.nodeTellAgent_unchanged _ _).mono (by simp))
  · exact h

theorem State.passNodeFrame_unchanged (p : Port) (f : InFrame) (n : Nat) (e : Node) :
    UnchangedBut classifyParts s (s.passNodeFrame p f n e) := by
  unfold State.passNodeFrame
  dsimp only
  have h : UnchangedBut classifyParts s (s.setNode n { e with lastPort := some p }) :=
    (s.setNode_unchanged n _).mono (by simp)
  split <;> exact h.trans ((State.setCls_unchanged _ _).mono (by simp))

theorem State.nodeFrame_unchanged (p : Port) (f : InFrame) :
    UnchangedBut classifyParts s (s.nodeFrame p f) := by
  have hd : UnchangedBut classifyParts s (s.discardUnknown p f) :=
    (s.setPort_unchanged p _).mono (by simp)
  unfold State.nodeFrame
  split
  · exact hd
  · split
    · exact hd
    · split
      · exact s.haltNode_unchanged p f _ _ _
      · exact s.passNodeFrame_unchanged p f _ _

theorem State.manageFrame_unchanged (p : Port) (f : InFrame) :
    UnchangedBut classifyParts s (s.manageFrame p f) := by
  unfold State.manageFrame
  split
  · exact (s.setCls_unchanged _).mono (by simp)
  · split
    · exact .refl _ _
    · split
      · exact (s.setCls_unchanged _).mono (by simp)
      · exact (s.setPort_unchanged p _).mono (by simp)

theorem execClassifyFrame_frame (h : execClassifyFrame s = .next t) :
    UnchangedBut classifyParts s t := by
  unfold execClassifyFrame at h
  split at h
  · rename_i p f rest _ _
    split at h
    · cases h; exact .refl _ _
    · have h0 : UnchangedBut classifyParts s
          { s.setPort p ((s.port p).takeOldest f rest s.now) with cls := { s.cls with lastServed := p } } :=
        ((s.setPort_unchanged p _).mono (by simp)).trans ((State.setCls_unchanged _ _).mono (by simp))
      dsimp only at h
      split at h <;> cases h
      · exact h0.trans (State.manageFrame_unchanged _ p f)
      · exact h0.trans (State.nodeFrame_unchanged _ p f)
  · cases h; exact .refl _ _

theorem State.quietNode_unchanged (n : Nat) :
    UnchangedBut [.mail, .nodes, .ports, .agent] s (s.quietNode n) := by
  unfold State.quietNode
  split
  · exact .refl _ _
  · split
    · exact ((State.setNode_unchanged _ _ _).mono (by simp)).trans
        ((State.nodeTellAgent_unchanged _ _).mono (by simp))
    · exact .refl _ _

theorem execNodeQuiet_frame (h : execNodeQuiet s = .next t) :
    UnchangedBut [.mail, .nodes, .ports, .agent] s t := by
  unfold execNodeQuiet at h
  split at h <;> cases h
  · exact .refl _ _
  · exact ((s.setMail_unchanged _).mono (by simp)).trans
      ((State.quietNode_unchanged _ _).mono (by simp))

/-! ### Lending -/

/-- The parts a lending frame writes. -/
abbrev lendParts : List Part := [.cls, .lm, .nodes, .ports, .bayMail, .mail, .agent]

theorem State.borrow_unchanged (n : Nat) (h : Header) : UnchangedBut [.lm, .nodes, .ports] s (s.borrow n h) := by
  have hp : ∀ x, UnchangedBut [.lm, .nodes, .ports] s (s.placeForNode n x) :=
    fun x => (s.placeForNode_unchanged n x).mono (by simp)
  unfold State.borrow
  split
  · exact .refl _ _
  · dsimp only
    split
    · unfold State.borrowOutcome
      dsimp only
      split
      · unfold State.borrowGrant
        split
        · exact hp _
        · exact (((s.createLoan_unchanged _ _ _ _).mono (by simp)).trans
            ((State.modNode_unchanged _ _ _).mono (by simp))).trans
            ((State.placeForNode_unchanged _ _ _).mono (by simp))
      · split
        · exact hp _
        · unfold State.borrowQueue
          split
          · exact hp _
          · exact ((((s.setRecord_unchanged _ _).mono (by simp)).trans
              ((State.setVolume_unchanged _ _ _).mono (by simp))).trans
              ((State.modNode_unchanged _ _ _).mono (by simp))).trans
              ((State.placeForNode_unchanged _ _ _).mono (by simp))
    · exact hp _
    · exact hp _
    · exact .refl _ _

theorem execBorrow_frame (h : execBorrow s = .next t) :
    UnchangedBut [.cls, .lm, .nodes, .ports] s t := by
  unfold execBorrow at h
  split at h <;> cases h
  · exact .refl _ _
  · exact ((s.freeClassifier_unchanged).mono (by simp)).trans
      ((State.borrow_unchanged _ _ _).mono (by simp))

theorem execRenew_frame (h : execRenew s = .next t) : UnchangedBut [.cls, .lm, .ports] s t := by
  unfold execRenew at h
  split at h <;> cases h
  · exact .refl _ _
  · refine ((s.freeClassifier_unchanged).mono (by simp)).trans ?_
    unfold State.renew
    split
    · exact (State.placeForNode_unchanged _ _ _).mono (by simp)
    · split
      · exact (State.placeForNode_unchanged _ _ _).mono (by simp)
      · exact (State.placeForNode_unchanged _ _ _).mono (by simp)
      · exact ((State.setLoan_unchanged _ _ _).mono (by simp)).trans
          ((State.placeForNode_unchanged _ _ _).mono (by simp))

theorem State.returnLoan_unchanged (n : Nat) (h : Header) :
    UnchangedBut lmParts s (s.returnLoan n h) := by
  unfold State.returnLoan
  split
  · exact (s.placeForNode_unchanged _ _).mono (by simp)
  · split
    · exact (s.placeForNode_unchanged _ _).mono (by simp)
    · exact (((s.setLoan_unchanged _ _).mono (by simp)).trans
        ((State.placeForNode_unchanged _ _ _).mono (by simp))).trans (State.freeIfQuiet_unchanged _ _)
    · exact (((s.setLoan_unchanged _ _).mono (by simp)).trans
        ((State.placeForNode_unchanged _ _ _).mono (by simp))).trans (State.freeIfQuiet_unchanged _ _)

theorem execReturnLoan_frame (h : execReturnLoan s = .next t) : UnchangedBut lendParts s t := by
  unfold execReturnLoan at h
  split at h <;> cases h
  · exact .refl _ _
  · exact ((s.freeClassifier_unchanged).mono (by simp)).trans
      ((State.returnLoan_unchanged _ _ _).mono (by simp))

theorem State.judgeClaim_unchanged (c : Claim) : UnchangedBut [.lm] s (s.judgeClaim c).2 := by
  unfold State.judgeClaim
  split
  · exact .refl _ _
  · split
    · exact .refl _ _
    · exact s.setLoan_unchanged _ _
    · exact s.setLoan_unchanged _ _

theorem execLoanClaim_frame (h : execLoanClaim s = .next t) : UnchangedBut [.lm, .mail] s t := by
  unfold execLoanClaim at h
  split at h <;> cases h
  · exact .refl _ _
  · exact ((s.judgeClaim_unchanged _).mono (by simp)).trans ((State.setMail_unchanged _ _).mono (by simp))

theorem execLoanQuiet_frame (h : execLoanQuiet s = .next t) : UnchangedBut lmParts s t := by
  unfold execLoanQuiet at h
  split at h <;> cases h
  · exact .refl _ _
  · have h0 := (s.setMail_unchanged (x := { s.mail with quietLoans := by assumption })).mono
      (show [Part.mail] ⊆ lmParts by simp)
    dsimp only
    split
    · split
      · exact h0.trans (State.freeLoan_unchanged _ _)
      · exact h0
    · exact h0

theorem execWaitTimerExpiry_frame (r : Nat) (h : execWaitTimerExpiry r s = .next t) :
    UnchangedBut [.lm, .nodes, .ports] s t := by
  unfold execWaitTimerExpiry at h
  split at h
  · cases h; exact .refl _ _
  · split at h <;> cases h
    · exact s.removeAndGrant_unchanged r true
    · exact .refl _ _

theorem State.expiredNotice_unchanged (i : Nat) (l : Loan) :
    UnchangedBut lmParts s (s.expiredNotice i l) := by
  unfold State.expiredNotice
  split
  · exact s.lmNotice_unchanged _
  · exact .refl _ _

theorem execTermExpiry_frame (i : Nat) (h : execTermExpiry i s = .next t) : UnchangedBut lmParts s t := by
  unfold execTermExpiry at h
  split at h
  · cases h; exact .refl _ _
  · split at h <;> cases h
    · exact (((s.endWithNotice_unchanged _ _).mono (by simp)).trans
        (State.expiredNotice_unchanged _ _ _)).trans (State.freeIfQuiet_unchanged _ _)
    · exact .refl _ _

theorem execGraceExpiry_frame (i : Nat) (h : execGraceExpiry i s = .next t) :
    UnchangedBut lmParts s t := by
  unfold execGraceExpiry at h
  split at h
  · cases h; exact .refl _ _
  · split at h
    · split at h <;> cases h
      · exact ((s.endWithNotice_unchanged _ _).mono (by simp)).trans (State.freeIfQuiet_unchanged _ _)
      · exact .refl _ _
    all_goals cases h; exact .refl _ _

theorem State.resetLoans_unchanged : UnchangedBut lmParts s s.resetLoans := by
  unfold State.resetLoans
  dsimp only
  refine UnchangedBut.trans ?_ (State.checkLmReset_unchanged _)
  refine UnchangedBut.trans ?_ ((State.setLm_unchanged _ _).mono (by simp))
  refine UnchangedBut.trans ?_ (.foldl _ (fun t i => t.freeIfQuiet_unchanged i) _ _)
  refine UnchangedBut.trans ?_ (.foldl _ (fun t i => (t.endWithNotice_unchanged i _).mono (by simp)) _ _)
  refine UnchangedBut.trans ?_ ((State.setLm_unchanged _ _).mono (by simp))
  exact .foldl _ (fun t r => (t.removeRecord_unchanged r true).mono (by simp)) _ _

theorem execLoanManagerReset_frame (h : execLoanManagerReset s = .next t) :
    UnchangedBut lmParts s t := by
  unfold execLoanManagerReset at h
  split at h <;> cases h
  · exact ((s.setMail_unchanged _).mono (by simp)).trans (State.resetLoans_unchanged _)
  · exact .refl _ _

/-! ### Block requests -/

theorem State.takeRequest_unchanged (k : ReqKind) (n : Nat) (p : Port) (h : Header) (d : List Byte) :
    UnchangedBut [.ports, .ru, .mail] s (s.takeRequest k n p h d) := by
  unfold State.takeRequest
  split
  · exact .refl _ _
  · split
    · exact (s.refuse_unchanged _ _ _ _ _ _).mono (by simp)
    · dsimp only
      split
      · exact (s.refuse_unchanged _ _ _ _ _ _).mono (by simp)
      · intro a h; cases a <;> first | rfl | simp at h

/-- The parts a block request frame writes. -/
abbrev requestParts : List Part := [.cls, .ports, .ru, .mail]

theorem execRead_frame (h : execRead s = .next t) : UnchangedBut requestParts s t := by
  unfold execRead at h
  split at h <;> cases h
  · exact .refl _ _
  · exact ((s.freeClassifier_unchanged).mono (by simp)).trans
      ((State.takeRequest_unchanged _ _ _ _ _ _).mono (by simp))

theorem execWrite_frame (h : execWrite s = .next t) : UnchangedBut requestParts s t := by
  unfold execWrite at h
  split at h <;> cases h
  · exact .refl _ _
  · exact ((s.freeClassifier_unchanged).mono (by simp)).trans
      ((State.takeRequest_unchanged _ _ _ _ _ _).mono (by simp))

theorem execCheck_frame (h : execCheck s = .next t) : UnchangedBut requestParts s t := by
  unfold execCheck at h
  split at h <;> cases h
  · exact .refl _ _
  · exact ((s.freeClassifier_unchanged).mono (by simp)).trans
      ((State.takeRequest_unchanged _ _ _ _ _ _).mono (by simp))

theorem execAbort_frame (h : execAbort s = .next t) :
    UnchangedBut [.cls, .ports, .ru, .bayMail] s t := by
  unfold execAbort at h
  split at h <;> cases h
  · exact .refl _ _
  · refine ((s.freeClassifier_unchanged).mono (by simp)).trans ?_
    unfold State.abortTag
    split
    · exact (State.place_unchanged _ _ _).mono (by simp)
    · split
      · exact .refl _ _
      all_goals
        exact ((State.setRequest_unchanged _ _ _).mono (by simp)).trans
          ((State.withdrawQueued_unchanged _ _ _).mono (by simp))

theorem execClaimAnswer_frame (h : execClaimAnswer s = .next t) :
    UnchangedBut [.ru, .mail, .bayMail, .nodes, .ports] s t := by
  unfold execClaimAnswer at h
  split at h
  · rename_i ans a _ _
    have h0 : UnchangedBut [.ru, .mail, .bayMail, .nodes, .ports] s
        { s with ru := { s.ru with admitting := none }, mail := { s.mail with claimAnswer := none } } := by
      intro a h; cases a <;> first | rfl | simp at h
    dsimp only at h
    split at h <;> cases h
    · exact h0.trans ((State.admit_unchanged _ _).mono (by simp))
    · exact h0.trans ((State.refuse_unchanged _ _ _ _ _ _ _).mono (by simp))
  · cases h; exact .refl _ _

theorem State.requestRuns_unchanged (r : Nat) : UnchangedBut [.ru] s (s.requestRuns r) := by
  unfold State.requestRuns
  split
  · split
    · exact s.setRequest_unchanged r _
    · exact .refl _ _
  · exact .refl _ _

theorem State.endPiece_unchanged (n : Nat) (pc : Piece) (st : PieceState) (d : Nat) :
    UnchangedBut endParts s (s.endPiece n pc st d) :=
  ((s.setPiece_unchanged n _).mono (by simp)).trans (State.finishIfFinal_unchanged _ _)

theorem State.popUnitReport_unchanged (b : Bay) (r : List UnitToRu) :
    UnchangedBut [.bayMail] s (s.popUnitReport b r) := s.setBmail_unchanged b _

theorem State.pieceStarted_unchanged (r : PieceRef) :
    UnchangedBut [.ru, .bayMail] s (s.pieceStarted r) := by
  unfold State.pieceStarted
  split
  · exact .refl _ _
  · split
    · exact ((State.setPiece_unchanged _ _ _).mono (by simp)).trans
        ((State.requestRuns_unchanged _ _).mono (by simp))
    · exact .refl _ _

theorem execPieceStartedReport_frame (b : Bay) (h : execPieceStartedReport b s = .next t) :
    UnchangedBut [.ru, .bayMail] s t := by
  unfold execPieceStartedReport at h
  split at h <;> cases h
  · exact ((s.popUnitReport_unchanged b _).mono (by simp)).trans
      ((State.pieceStarted_unchanged _ _).mono (by simp))
  · exact .refl _ _

theorem State.pieceStaged_unchanged (r : PieceRef) (k : Nat) (m : Bool) :
    UnchangedBut ruParts s (s.pieceStaged r k m) := by
  unfold State.pieceStaged
  split
  · exact .refl _ _
  · split
    · exact .refl _ _
    · split
      · exact .refl _ _
      · split
        · exact ((State.ruSend_unchanged _ _ _).mono (by simp)).trans
            ((State.endPiece_unchanged _ _ _ _ _).mono (by simp))
        · exact (((State.setPiece_unchanged _ _ _).mono (by simp)).trans
            ((State.setDelivery_unchanged _ _ _).mono (by simp))).trans (State.deliver_unchanged _ _)

theorem execPieceStagedReport_frame (b : Bay) (h : execPieceStagedReport b s = .next t) :
    UnchangedBut ruParts s t := by
  unfold execPieceStagedReport at h
  split at h <;> cases h
  · exact ((s.popUnitReport_unchanged b _).mono (by simp)).trans
      ((State.pieceStaged_unchanged _ _ _ _).mono (by simp))
  · exact .refl _ _

theorem State.pieceDone_unchanged (r : PieceRef) :
    UnchangedBut ruParts s (s.pieceDone r) := by
  unfold State.pieceDone
  split
  · exact .refl _ _
  · split
    · exact .refl _ _
    · exact (State.endPiece_unchanged _ _ _ _ _).mono (by simp)

theorem execPieceDoneReport_frame (b : Bay) (h : execPieceDoneReport b s = .next t) :
    UnchangedBut ruParts s t := by
  unfold execPieceDoneReport at h
  split at h <;> cases h
  · exact ((s.popUnitReport_unchanged b _).mono (by simp)).trans
      ((State.pieceDone_unchanged _ _).mono (by simp))
  · exact .refl _ _

theorem State.pieceFailed_unchanged (r : PieceRef) (f : FailReason) (d : Nat) :
    UnchangedBut ruParts s (s.pieceFailed r f d) := by
  unfold State.pieceFailed
  split
  · exact .refl _ _
  · split
    · exact .refl _ _
    · exact .refl _ _
    · exact .refl _ _
    · split
      · exact .refl _ _
      · exact (((State.leaveDelivery_unchanged _ _ _).mono (by simp)).trans
          ((State.endPiece_unchanged _ _ _ _ _).mono (by simp))).trans (State.deliver_unchanged _ _)
    · exact ((State.requestRuns_unchanged _ _).mono (by simp)).trans
        ((State.endPiece_unchanged _ _ _ _ _).mono (by simp))
    · split
      · exact .refl _ _
      · split <;> exact (State.endPiece_unchanged _ _ _ _ _).mono (by simp)

theorem execPieceFailedReport_frame (b : Bay) (h : execPieceFailedReport b s = .next t) :
    UnchangedBut ruParts s t := by
  unfold execPieceFailedReport at h
  split at h <;> cases h
  · exact ((s.popUnitReport_unchanged b _).mono (by simp)).trans
      ((State.pieceFailed_unchanged _ _ _ _).mono (by simp))
  · exact .refl _ _

theorem State.pieceWithdrawn_unchanged (r : PieceRef) (f : FailReason) :
    UnchangedBut ruParts s (s.pieceWithdrawn r f) := by
  unfold State.pieceWithdrawn
  split
  · exact .refl _ _
  · split
    · exact .refl _ _
    · exact (State.endPiece_unchanged _ _ _ _ _).mono (by simp)

theorem execPieceWithdrawnReport_frame (b : Bay) (h : execPieceWithdrawnReport b s = .next t) :
    UnchangedBut ruParts s t := by
  unfold execPieceWithdrawnReport at h
  split at h <;> cases h
  · exact ((s.popUnitReport_unchanged b _).mono (by simp)).trans
      ((State.pieceWithdrawn_unchanged _ _ _).mono (by simp))
  · exact .refl _ _

theorem execWithdrawalAnswer_frame (b : Bay) (h : execWithdrawalAnswer b s = .next t) :
    UnchangedBut [.bayMail] s t := by
  unfold execWithdrawalAnswer at h
  split at h <;> cases h
  · exact s.popUnitReport_unchanged b _
  · exact .refl _ _

theorem execEgressRoom_frame (p : Port) (h : execEgressRoom p s = .next t) :
    UnchangedBut (.portMail :: ruParts) s t := by
  unfold execEgressRoom at h
  split at h <;> cases h
  · exact ((s.setPmail_unchanged p _).mono (by simp)).trans ((State.deliver_unchanged _ p).mono (by simp))
  · exact .refl _ _

theorem execPortLinkChange_frame (p : Port) (h : execPortLinkChange p s = .next t) :
    UnchangedBut (.portMail :: ruParts) s t := by
  unfold execPortLinkChange at h
  split at h <;> cases h
  · exact ((s.setPmail_unchanged p _).mono (by simp)).trans ((State.deliver_unchanged _ p).mono (by simp))
  · exact ((s.setPmail_unchanged p _).mono (by simp)).trans ((State.deliver_unchanged _ p).mono (by simp))
  · exact .refl _ _

theorem execDeliveryTimerExpiry_frame (n : Nat) (h : execDeliveryTimerExpiry n s = .next t) :
    UnchangedBut ruParts s t := by
  unfold execDeliveryTimerExpiry at h
  split at h
  · cases h; exact .refl _ _
  · split at h
    · split at h <;> cases h
      · exact s.overrunRequest_unchanged _ _
      · exact .refl _ _
    · cases h; exact .refl _ _

theorem State.resetRequest_unchanged (r : Nat) : UnchangedBut [.ru, .bayMail] s (s.resetRequest r) := by
  unfold State.resetRequest
  split
  · exact .refl _ _
  · exact ((s.setRequest_unchanged _ _).mono (by simp)).trans
      ((State.withdrawQueued_unchanged _ _ _).mono (by simp))

theorem State.resetRequests_unchanged :
    UnchangedBut [.ru, .bayMail, .ports, .agent, .mail] s (s.resetRequests) := by
  unfold State.resetRequests
  dsimp only
  split
  · exact (UnchangedBut.foldl (fun t r => t.resetRequest r)
      (fun t r => (t.resetRequest_unchanged r).mono (by simp)) _ _).trans
      ((State.ruTellAgent_unchanged _ _).mono (by simp))
  · exact (UnchangedBut.foldl (fun t r => t.resetRequest r)
      (fun t r => (t.resetRequest_unchanged r).mono (by simp)) _ _).trans
      ((State.setRu_unchanged _ _).mono (by simp))

theorem execRequestUnitReset_frame (h : execRequestUnitReset s = .next t) :
    UnchangedBut [.ru, .bayMail, .ports, .agent, .mail] s t := by
  unfold execRequestUnitReset at h
  split at h <;> cases h
  · exact ((s.setMail_unchanged _).mono (by simp)).trans
      ((State.resetRequests_unchanged _).mono (by simp))
  · exact .refl _ _

end Sys2Proof.Machine
end

