-- ==== Sys2Proof/Laws/BayCommandFrames.lean ====
section
/-! SUPPORT. What each command of a drive bay leaves unchanged when it answers a next state: drive
units, clear engines, spin-up arbiter and service controls. -/

namespace Sys2Proof.Machine

variable (s t : State) (b : Bay)

/-! ### Drive units -/

theorem State.appendPiece_onlyBay (j : Job) (d : Serial) :
    OnlyBay bayParts b s (s.appendPiece b j d) := by
  unfold State.appendPiece
  dsimp only
  repeat' split
  · exact State.tellRu_onlyBay _ b _
  · exact State.tellRu_onlyBay _ b _
  · exact State.tellRu_onlyBay _ b _
  · exact (State.modUnit_onlyBay _ b _).trans (State.workArrived_onlyBay _ b)

theorem execPieceAppend_frame (h : execPieceAppend b s = .next t) : OnlyBay bayParts b s t := by
  unfold execPieceAppend at h
  split at h <;> cases h
  · exact (s.popRu_onlyBay b _).trans (State.appendPiece_onlyBay _ b _ _)
  · exact .refl _ _ _

theorem State.withdrawPiece_onlyBay (r : PieceRef) (f : FailReason) :
    OnlyBay bayParts b s (s.withdrawPiece b r f) := by
  unfold State.withdrawPiece
  dsimp only
  split
  · exact ((s.modUnit_onlyBay b _).trans (State.tellRu_onlyBay _ b _)).trans (State.idle_onlyBay _ b)
  · split <;> exact s.tellRu_onlyBay b _

theorem execPieceWithdrawal_frame (h : execPieceWithdrawal b s = .next t) :
    OnlyBay bayParts b s t := by
  unfold execPieceWithdrawal at h
  split at h <;> cases h
  · exact (s.popRu_onlyBay b _).trans (State.withdrawPiece_onlyBay _ b _ _)
  · exact .refl _ _ _

theorem State.emptyStaging_onlyBay (r : PieceRef) : OnlyBay bayParts b s (s.emptyStaging b r) := by
  unfold State.emptyStaging
  split
  · exact (s.modUnit_onlyBay b _).trans (State.choose_onlyBay _ b)
  · exact .refl _ _ _

theorem execStagingEmptied_frame (h : execStagingEmptied b s = .next t) : OnlyBay bayParts b s t := by
  unfold execStagingEmptied at h
  split at h <;> cases h
  · exact (s.popRu_onlyBay b _).trans (State.emptyStaging_onlyBay _ b _)
  · exact .refl _ _ _

theorem State.identified_onlyBay (d : Disk) : OnlyBay noticeParts b s (s.identified b d) := by
  unfold State.identified
  dsimp only
  have h := (((((s.modUnit_onlyBay b fun u => { u.endCommand with disk := some d }).trans
    (State.enter_onlyBay _ b .standby)).trans
    (State.tellLm_onlyBay _ b (.health .standby (some d) false))).mono
    (show bayParts ⊆ noticeParts by simp)).trans (State.unitNotice_onlyBay _ b (.diskArrived b d)))
  split
  · exact h.trans ((State.enterService_onlyBay _ b).mono (by simp))
  · exact h

theorem execIdentifyCompletion_frame (n : Nat) (o : IdentifyOutcome)
    (h : execIdentifyCompletion b n o s = .next t) : OnlyBay noticeParts b s t := by
  unfold execIdentifyCompletion at h
  split at h <;> cases h
  · cases o with
    | good serial capacity =>
      simp only [State.identifyEnds]
      split
      · exact s.enterFault_onlyBay b _
      · exact s.identified_onlyBay b _
    | media => exact s.enterFault_onlyBay b _
    | failed => exact s.enterFault_onlyBay b _
    | linkLost => exact s.enterFault_onlyBay b _
  · exact .refl _ _ _

theorem State.fetched_onlyBay (j : Job) (bs : List Block) (m : Bool) :
    OnlyBay bayParts b s (s.fetched b j bs m) := by
  have h0 : OnlyBay bayParts b s (if m then s.countMedia b else s) := by
    split
    · exact s.countMedia_onlyBay b
    · exact .refl _ _ _
  unfold State.fetched
  dsimp only
  generalize (if m = true then s.countMedia b else s) = u at h0 ⊢
  split
  · exact (((h0.trans (u.endCommand_onlyBay b)).trans (State.clearHand_onlyBay _ b)).trans
      (State.tellRu_onlyBay _ b _)).trans (State.ready_onlyBay _ b)
  · exact ((((h0.trans (u.endCommand_onlyBay b)).trans (State.clearHand_onlyBay _ b)).trans
      (State.modUnit_onlyBay _ b _)).trans (State.tellRu_onlyBay _ b _)).trans (State.ready_onlyBay _ b)

theorem execFetchCompletion_frame (n : Nat) (o : FetchOutcome)
    (h : execFetchCompletion b n o s = .next t) : OnlyBay noticeParts b s t := by
  unfold execFetchCompletion at h
  split at h
  · split at h
    · split at h <;> cases h
      exact (s.fetched_onlyBay b _ _ _).mono (by simp)
    · split at h <;> cases h
      exact (s.fetched_onlyBay b _ _ _).mono (by simp)
    · cases h; exact s.enterFault_onlyBay b _
    · cases h; exact s.enterFault_onlyBay b _
  · cases h; exact .refl _ _ _

theorem State.stored_onlyBay (j : Job) : OnlyBay bayParts b s (s.stored b j) :=
  (((s.endCommand_onlyBay b).trans (State.clearHand_onlyBay _ b)).trans
    (State.tellRu_onlyBay _ b _)).trans (State.ready_onlyBay _ b)

theorem State.pieceMedia_onlyBay (j : Job) (d : Nat) : OnlyBay bayParts b s (s.pieceMedia b j d) :=
  ((((s.countMedia_onlyBay b).trans (State.endCommand_onlyBay _ b)).trans
    (State.clearHand_onlyBay _ b)).trans (State.tellRu_onlyBay _ b _)).trans (State.ready_onlyBay _ b)

theorem execStoreCompletion_frame (n : Nat) (o : CmdOutcome)
    (h : execStoreCompletion b n o s = .next t) : OnlyBay noticeParts b s t := by
  unfold execStoreCompletion at h
  split at h
  · split at h
    · cases h; exact (s.stored_onlyBay b _).mono (by simp)
    · split at h <;> cases h
      exact (s.pieceMedia_onlyBay b _ _).mono (by simp)
    · cases h; exact s.enterFault_onlyBay b _
    · cases h; exact s.enterFault_onlyBay b _
  · cases h; exact .refl _ _ _

theorem State.probed_onlyBay (j : Job) (k : Nat) : OnlyBay bayParts b s (s.probed b j k) := by
  have hf : ∀ m, OnlyBay bayParts b s
      ((((s.endCommand b).clearHand b).tellRu b m).ready b) := fun m =>
    (((s.endCommand_onlyBay b).trans (State.clearHand_onlyBay _ b)).trans
      (State.tellRu_onlyBay _ b _)).trans (State.ready_onlyBay _ b)
  unfold State.probed
  dsimp only
  split
  · exact hf _
  · split
    · exact hf _
    · split
      · exact hf _
      · exact ((s.endCommand_onlyBay b).trans (State.modUnit_onlyBay _ b _)).trans
          (State.ready_onlyBay _ b)

theorem execProbeCompletion_frame (n : Nat) (o : CmdOutcome)
    (h : execProbeCompletion b n o s = .next t) : OnlyBay noticeParts b s t := by
  unfold execProbeCompletion at h
  split at h
  · split at h
    · cases h; exact (s.probed_onlyBay b _ _).mono (by simp)
    · split at h <;> cases h
      exact (s.pieceMedia_onlyBay b _ _).mono (by simp)
    · cases h; exact s.enterFault_onlyBay b _
    · cases h; exact s.enterFault_onlyBay b _
  · cases h; exact .refl _ _ _

theorem State.extentLeaves_onlyBay (m : UnitToLm) : OnlyBay bayParts b s (s.extentLeaves b m) :=
  (s.tellLm_onlyBay b _).trans (State.modUnit_onlyBay _ b _)

theorem State.zeroed_onlyBay (x : Extent) (k : Nat) : OnlyBay bayParts b s (s.zeroed b x k) := by
  unfold State.zeroed
  dsimp only
  split
  · exact ((s.endCommand_onlyBay b).trans (State.extentLeaves_onlyBay _ b _)).trans
      (State.ready_onlyBay _ b)
  · split
    · exact ((s.endCommand_onlyBay b).trans (State.extentLeaves_onlyBay _ b _)).trans
        (State.ready_onlyBay _ b)
    · exact ((s.endCommand_onlyBay b).trans (State.modUnit_onlyBay _ b _)).trans
        (State.ready_onlyBay _ b)

theorem State.zeroMedia_onlyBay (x : Extent) : OnlyBay bayParts b s (s.zeroMedia b x) :=
  (((s.countMedia_onlyBay b).trans (State.endCommand_onlyBay _ b)).trans
    (State.extentLeaves_onlyBay _ b _)).trans (State.ready_onlyBay _ b)

theorem execZeroCompletion_frame (n : Nat) (o : CmdOutcome)
    (h : execZeroCompletion b n o s = .next t) : OnlyBay noticeParts b s t := by
  unfold execZeroCompletion at h
  split at h
  · split at h
    · cases h; exact (s.zeroed_onlyBay b _ _).mono (by simp)
    · split at h <;> cases h
      exact (s.zeroMedia_onlyBay b _).mono (by simp)
    · cases h; exact s.enterFault_onlyBay b _
    · cases h; exact s.enterFault_onlyBay b _
  · cases h; exact .refl _ _ _

theorem State.spunUp_onlyBay : OnlyBay bayParts b s (s.spunUp b) :=
  ((s.endCommand_onlyBay b).trans (State.tellArb_onlyBay _ b _)).trans (State.ready_onlyBay _ b)

theorem execSpinUpCompletion_frame (n : Nat) (o : CmdOutcome)
    (h : execSpinUpCompletion b n o s = .next t) : OnlyBay noticeParts b s t := by
  unfold execSpinUpCompletion at h
  split at h <;> cases h
  · cases o with
    | good => exact (s.spunUp_onlyBay b).mono (by simp)
    | media k => exact s.enterFault_onlyBay b _
    | failed => exact s.enterFault_onlyBay b _
    | linkLost => exact s.enterFault_onlyBay b _
  · exact .refl _ _ _

theorem State.spunDown_onlyBay : OnlyBay bayParts b s (s.spunDown b) := by
  unfold State.spunDown
  dsimp only
  split
  · exact (s.endCommand_onlyBay b).trans (State.enterService_onlyBay _ b)
  · split
    · exact ((s.endCommand_onlyBay b).trans (State.enter_onlyBay _ b _)).trans (State.wake_onlyBay _ b)
    · exact (s.endCommand_onlyBay b).trans (State.enter_onlyBay _ b _)

theorem execSpinDownCompletion_frame (n : Nat) (o : CmdOutcome)
    (h : execSpinDownCompletion b n o s = .next t) : OnlyBay noticeParts b s t := by
  unfold execSpinDownCompletion at h
  split at h <;> cases h
  · cases o with
    | good => exact (s.spunDown_onlyBay b).mono (by simp)
    | media k => exact s.enterFault_onlyBay b _
    | failed => exact s.enterFault_onlyBay b _
    | linkLost => exact s.enterFault_onlyBay b _
  · exact .refl _ _ _

theorem execCommandTimerExpiry_frame (h : execCommandTimerExpiry b s = .next t) :
    OnlyBay noticeParts b s t := by
  unfold execCommandTimerExpiry at h
  split at h <;> cases h
  · exact ((s.countTimeout_onlyBay b).mono (by simp)).trans (State.enterFault_onlyBay _ b _)
  · exact .refl _ _ _

theorem execSpinUpLimitExpiry_frame (h : execSpinUpLimitExpiry b s = .next t) :
    OnlyBay noticeParts b s t := by
  unfold execSpinUpLimitExpiry at h
  split at h <;> cases h
  · exact ((s.countTimeout_onlyBay b).mono (by simp)).trans (State.enterFault_onlyBay _ b _)
  · exact .refl _ _ _

theorem execLinkLost_frame (h : execLinkLost b s = .next t) : OnlyBay noticeParts b s t := by
  unfold execLinkLost at h
  split at h <;> cases h <;> first | exact s.enterFault_onlyBay b _ | exact .refl _ _ _

theorem State.spinDown_onlyBay : OnlyBay bayParts b s (s.spinDown b) :=
  ((s.modUnit_onlyBay b _).trans (State.issue_onlyBay _ b _)).trans (State.enter_onlyBay _ b _)

theorem execIdleTimerExpiry_frame (h : execIdleTimerExpiry b s = .next t) :
    OnlyBay bayParts b s t := by
  unfold execIdleTimerExpiry at h
  split at h <;> cases h
  · exact s.spinDown_onlyBay b
  · exact .refl _ _ _

theorem execPauseAllowanceChange_frame (h : execPauseAllowanceChange b s = .next t) :
    OnlyBay bayParts b s t := by
  unfold execPauseAllowanceChange at h
  split at h <;> cases h
  · exact .refl _ _ _
  · exact ((s.setBmail_onlyBay b _).trans (State.modUnit_onlyBay _ b _)).trans
      (State.choose_onlyBay _ b)

theorem execKeepSpinningChange_frame (h : execKeepSpinningChange b s = .next t) :
    OnlyBay bayParts b s t := by
  unfold execKeepSpinningChange at h
  split at h <;> cases h
  · exact .refl _ _ _
  · exact ((s.setBmail_onlyBay b _).trans (State.modUnit_onlyBay _ b _)).trans
      (State.idle_onlyBay _ b)

theorem execTimerLimitChange_frame (x : LimitTarget) (h : execTimerLimitChange x s = .next t) :
    match x with
    | .requestUnit => UnchangedBut [.mail, .ru] s t
    | .driveUnit b => OnlyBay bayParts b s t := by
  unfold execTimerLimitChange at h
  cases x with
  | requestUnit =>
    dsimp only at h ⊢
    split at h <;> cases h
    · exact .refl _ _
    · intro a h; cases a <;> first | rfl | simp at h
  | driveUnit b =>
    dsimp only at h ⊢
    split at h <;> cases h
    · exact .refl _ _ _
    · exact (s.setBmail_onlyBay b _).trans (State.modUnit_onlyBay _ b _)

/-! ### Clearing -/

theorem State.clearRelease_unchanged : UnchangedBut lmParts s (s.clearRelease b) :=
  (s.setLmBay_unchanged b _).mono (by simp)

theorem State.popUnitToLm_unchanged (r : List UnitToLm) : UnchangedBut lmParts s (s.popUnitToLm b r) :=
  (s.setBmail_unchanged b _).mono (by simp)

theorem State.noteHealth_unchanged (st : DriveState) (d : Option Disk) :
    UnchangedBut lmParts s (s.noteHealth b st d) :=
  (s.setLmBay_unchanged b _).mono (by simp)

theorem State.takeHealth_unchanged (st : DriveState) (d : Option Disk) (e : Bool) :
    UnchangedBut lmParts s (s.takeHealth b st d e) := by
  unfold State.takeHealth
  dsimp only
  have h0 : UnchangedBut lmParts s
      (if st = .absent then (s.noteHealth b st d).failPending b else s.noteHealth b st d) := by
    split
    · exact (s.noteHealth_unchanged b st d).trans (State.failPending_unchanged _ b)
    · exact s.noteHealth_unchanged b st d
  generalize (if st = .absent then (s.noteHealth b st d).failPending b else s.noteHealth b st d) = u
    at h0 ⊢
  split
  · exact (h0.trans (u.clearRelease_unchanged b)).trans (State.listFromHead_unchanged _ b)
  · exact h0.trans (State.listFromHead_unchanged _ b)

theorem execHealthReport_frame (h : execHealthReport b s = .next t) : UnchangedBut lmParts s t := by
  unfold execHealthReport at h
  split at h <;> cases h
  · exact (s.popUnitToLm_unchanged b _).trans (State.takeHealth_unchanged _ b _ _ _)
  · exact .refl _ _

theorem execReleaseEndReport_frame (h : execReleaseEndReport b s = .next t) :
    UnchangedBut lmParts s t := by
  unfold execReleaseEndReport at h
  split at h <;> cases h
  · exact (s.popUnitToLm_unchanged b _).trans (State.clearRelease_unchanged _ b)
  · exact (s.popUnitToLm_unchanged b _).trans (State.takeHealth_unchanged _ b _ _ _)
  · exact .refl _ _

theorem State.extentEnds_unchanged (r : SegRef) (c : ClearStatus) :
    UnchangedBut lmParts s (s.extentEnds b r c) :=
  ((((s.setClear_unchanged r c).mono (by simp)).trans
    ((State.setLmBay_unchanged _ b _).mono (by simp))).trans (State.examineClear_unchanged _ _)).trans
    (State.listFromHead_unchanged _ b)

theorem execExtentDone_frame (h : execExtentDone b s = .next t) : UnchangedBut lmParts s t := by
  unfold execExtentDone at h
  split at h <;> cases h
  · exact (s.popUnitToLm_unchanged b _).trans (State.extentEnds_unchanged _ b _ _)
  · exact .refl _ _

theorem execExtentFailed_frame (h : execExtentFailed b s = .next t) : UnchangedBut lmParts s t := by
  unfold execExtentFailed at h
  split at h <;> cases h
  · exact (s.popUnitToLm_unchanged b _).trans (State.extentEnds_unchanged _ b _ _)
  · exact .refl _ _

theorem execPendingClearReport_frame (h : execPendingClearReport b s = .next t) :
    OnlyBay bayParts b s t := by
  unfold execPendingClearReport at h
  split at h <;> cases h
  · exact ((s.popLmToUnit_onlyBay b _).trans (State.modUnit_onlyBay _ b _)).trans
      (State.idle_onlyBay _ b)
  · exact .refl _ _ _

theorem State.takeExtent_onlyBay (v i : Nat) (d : Serial) (st k : Nat) :
    OnlyBay bayParts b s (s.takeExtent b v i d st k) := by
  unfold State.takeExtent
  split
  · exact s.tellLm_onlyBay b _
  · unfold State.joinExtent
    dsimp only
    split
    · exact (s.modUnit_onlyBay b _).trans (State.workArrived_onlyBay _ b)
    · exact (s.modUnit_onlyBay b _).trans (State.idle_onlyBay _ b)

theorem execClearExtent_frame (h : execClearExtent b s = .next t) : OnlyBay bayParts b s t := by
  unfold execClearExtent at h
  split at h <;> cases h
  · exact (s.popLmToUnit_onlyBay b _).trans (State.takeExtent_onlyBay _ b _ _ _ _ _)
  · exact .refl _ _ _

theorem execGatherTimerExpiry_frame (h : execGatherTimerExpiry b s = .next t) :
    OnlyBay bayParts b s t := by
  unfold execGatherTimerExpiry at h
  split at h
  · split at h <;> cases h
    · exact (s.modUnit_onlyBay b _).trans (State.workArrived_onlyBay _ b)
    · exact .refl _ _ _
  · cases h; exact .refl _ _ _
  · cases h; exact .refl _ _ _

/-! ### The arbiter -/

/-- The parts the arbiter writes. -/
abbrev arbParts : List Part := [.arb, .bayMail]

theorem State.popUnitToArb_unchanged (r : List UnitToArb) :
    UnchangedBut arbParts s (s.popUnitToArb b r) := (s.setBmail_unchanged b _).mono (by simp)

theorem State.arbGrant_unchanged : UnchangedBut arbParts s s.arbGrant :=
  ((s.setArb_unchanged _).mono (by simp)).trans
    (.foldl _ (fun t c => (t.sendGrant_unchanged c).mono (by simp)) _ _)

theorem State.setBudget_unchanged (n : Nat) : UnchangedBut arbParts s (s.setBudget n) := by
  unfold State.setBudget
  dsimp only
  split
  · exact ((s.setArb_unchanged _).mono (by simp)).trans (State.arbGrant_unchanged _)
  · exact (s.setArb_unchanged _).mono (by simp)

theorem execSpinUpWanted_frame (h : execSpinUpWanted b s = .next t) : UnchangedBut arbParts s t := by
  unfold execSpinUpWanted at h
  dsimp only at h
  split at h <;> cases h
  · split
    · exact s.popUnitToArb_unchanged b _
    · exact ((s.popUnitToArb_unchanged b _).trans ((State.setArb_unchanged _ _).mono (by simp))).trans
        (State.arbGrant_unchanged _)
  · exact .refl _ _

theorem execWaitWithdrawn_frame (h : execWaitWithdrawn b s = .next t) : UnchangedBut arbParts s t := by
  unfold execWaitWithdrawn at h
  split at h <;> cases h
  · exact (s.popUnitToArb_unchanged b _).trans ((State.setArb_unchanged _ _).mono (by simp))
  · exact .refl _ _

theorem execGrantDeclined_frame (h : execGrantDeclined b s = .next t) : UnchangedBut arbParts s t := by
  unfold execGrantDeclined at h
  split at h <;> cases h
  · exact ((s.popUnitToArb_unchanged b _).trans ((State.setArb_unchanged _ _).mono (by simp))).trans
      (State.arbGrant_unchanged _)
  · exact .refl _ _

theorem execSpinUpEnded_frame (h : execSpinUpEnded b s = .next t) : UnchangedBut arbParts s t := by
  unfold execSpinUpEnded at h
  split at h <;> cases h
  · exact ((s.popUnitToArb_unchanged b _).trans ((State.setArb_unchanged _ _).mono (by simp))).trans
      (State.arbGrant_unchanged _)
  · exact .refl _ _

theorem State.beginSpinUp_onlyBay : OnlyBay bayParts b s (s.beginSpinUp b) :=
  ((s.modUnit_onlyBay b _).trans (State.issue_onlyBay _ b _)).trans (State.enter_onlyBay _ b _)

theorem execSpinUpGrant_frame (h : execSpinUpGrant b s = .next t) : OnlyBay bayParts b s t := by
  unfold execSpinUpGrant at h
  dsimp only at h
  split at h <;> cases h
  · exact .refl _ _ _
  · split
    · exact (s.setBmail_onlyBay b _).trans (State.beginSpinUp_onlyBay _ b)
    · exact (s.setBmail_onlyBay b _).trans (State.tellArb_onlyBay _ b _)

theorem State.sendParams_unchanged (p : ParamBlock) :
    UnchangedBut [.bayMail, .mail, .portMail] s (s.sendParams p) := by
  unfold State.sendParams
  dsimp only
  have h1 : UnchangedBut [.bayMail, .mail, .portMail] s
      (allBays.foldl (fun (t : State) b => t.setBmail b ((t.bmail b).sendParams p b)) s) :=
    .foldl _ (fun t c => (t.setBmail_unchanged c _).mono (by simp)) _ _
  generalize allBays.foldl (fun (t : State) b => t.setBmail b ((t.bmail b).sendParams p b)) s = u
    at h1 ⊢
  have h2 : UnchangedBut [.bayMail, .mail, .portMail] s
      (if p.carries 3 = true then
        { u with mail := { u.mail with limits := u.mail.limits ++ [p.deliveryLimit] } } else u) := by
    split
    · exact h1.trans ((u.setMail_unchanged _).mono (by simp))
    · exact h1
  generalize (if p.carries 3 = true then
        { u with mail := { u.mail with limits := u.mail.limits ++ [p.deliveryLimit] } } else u) = w
    at h2 ⊢
  split
  · exact h2.trans (.foldl _ (fun t c => (t.setPmail_unchanged c _).mono (by simp)) _ _)
  · exact h2

/-- The parts a parameter change writes. -/
abbrev paramParts : List Part := [.bayMail, .mail, .portMail, .agent, .ports]

theorem State.applyParams_unchanged (tag : BitVec 8) (p : ParamBlock) :
    UnchangedBut paramParts s (s.applyParams tag p) :=
  (((s.setAgent_unchanged _).mono (by simp)).trans
    ((State.sendParams_unchanged _ p).mono (by simp))).trans
    ((State.answer_unchanged _ _).mono (by simp))

theorem execBudgetChange_frame (h : execBudgetChange s = .next t) :
    UnchangedBut (.arb :: paramParts) s t := by
  unfold execBudgetChange at h
  split at h
  · split at h <;> cases h
    · exact ((s.setWait_unchanged _).mono (by simp)).trans ((State.answer_unchanged _ _).mono (by simp))
    · exact (((s.setBudget_unchanged _).mono (by simp)).trans
        ((State.setWait_unchanged _ _).mono (by simp))).trans
        ((State.applyParams_unchanged _ _ _).mono (by simp))
  all_goals cases h; exact .refl _ _

/-! ### Service controls -/

theorem execButtonPress_frame (h : execButtonPress b s = .next t) :
    OnlyBay [.svc, .ports, .agent, .bayMail] b s t := by
  unfold execButtonPress at h
  dsimp only at h
  split at h <;> cases h
  · exact .refl _ _ _
  · exact OnlyBay.trans ⟨(s.setControls_unchanged b _).mono (by simp), s.setControls_otherBays b _⟩
      ((State.svcTellAgent_onlyBay _ b _).mono (by simp))

theorem execButtonRelease_frame (h : execButtonRelease b s = .next t) : OnlyBay [.svc] b s t := by
  cases h; exact ⟨s.setControls_unchanged b _, s.setControls_otherBays b _⟩

theorem State.override_onlyBay : OnlyBay [.ports, .agent, .bayMail] b s (s.override b) :=
  (s.svcTellAgent_onlyBay b _).trans
    ⟨(State.setBmail_unchanged _ b _).mono (by simp), State.setBmail_otherBays _ b _⟩

theorem execHoldTimerExpiry_frame (h : execHoldTimerExpiry b s = .next t) :
    OnlyBay [.svc, .ports, .agent, .bayMail] b s t := by
  have h0 : OnlyBay [.svc, .ports, .agent, .bayMail] b s
      (s.setControls b { s.controls b with holdTimer := none }) :=
    ⟨(s.setControls_unchanged b _).mono (by simp), s.setControls_otherBays b _⟩
  unfold execHoldTimerExpiry at h
  dsimp only at h
  split at h
  · cases h
    split <;> first | exact h0 | exact h0.trans ((State.override_onlyBay _ b).mono (by simp))
  · cases h; exact .refl _ _ _

theorem execServiceOverride_frame (h : execServiceOverride b s = .next t) :
    UnchangedBut lmParts s t := by
  unfold execServiceOverride at h
  dsimp only at h
  split at h
  · cases h; exact .refl _ _
  · cases h
    have h0 : UnchangedBut lmParts s
        (s.setBmail b { s.bmail b with overrides := (s.bmail b).overrides - 1 }) :=
      (s.setBmail_unchanged b _).mono (by simp)
    split
    · exact h0
    · exact h0.trans (State.beginRelease_unchanged _ b)

theorem State.closeEngine_onlyBay : OnlyBay bayParts b s (s.closeEngine b) :=
  (s.reportExtents_onlyBay b _).trans (State.modUnit_onlyBay _ b _)

theorem State.withdrawQueue_onlyBay : OnlyBay bayParts b s (s.withdrawQueue b) :=
  (OnlyBay.foldl _ (fun t _ => t.tellRu_onlyBay b _) _ s).trans (State.modUnit_onlyBay _ b _)

theorem State.takeRelease_onlyBay : OnlyBay bayParts b s (s.takeRelease b) := by
  have h := (((s.modUnit_onlyBay b fun u => { u with releaseUnderWay := true }).trans
    (State.closeEngine_onlyBay _ b)).trans (State.withdrawQueue_onlyBay _ b)).trans
    (State.modUnit_onlyBay _ b fun u => { u with idleTimer := none })
  unfold State.takeRelease
  dsimp only
  split
  · exact s.tellLm_onlyBay b _
  · exact s.tellLm_onlyBay b _
  · split
    · exact h.trans (State.enterService_onlyBay _ b)
    · exact h.trans (State.enterService_onlyBay _ b)
    · exact (h.trans (State.tellArb_onlyBay _ b _)).trans (State.enterService_onlyBay _ b)
    · exact (h.trans (State.releaseHand_onlyBay _ b)).trans (State.releaseSpinDown_onlyBay _ b)
    all_goals exact h

theorem execReleaseTaken_frame (h : execReleaseTaken b s = .next t) : OnlyBay bayParts b s t := by
  unfold execReleaseTaken at h
  split at h <;> cases h
  · exact (s.popLmToUnit_onlyBay b _).trans (State.takeRelease_onlyBay _ b)
  · exact .refl _ _ _

theorem State.sense_onlyBay (x : Bool) : OnlyBay bayParts b s (s.sense b x) :=
  s.setControls_onlyBay b _

theorem State.enterAbsent_onlyBay : OnlyBay noticeParts b s (s.enterAbsent b) := by
  unfold State.enterAbsent
  dsimp only
  have h := (((((((s.endCommand_onlyBay b).trans (State.failPieces_onlyBay _ b .diskUnavailable)).trans
    (State.failEngine_onlyBay _ b)).trans (State.leaveSpinUp_onlyBay _ b)).trans
    (State.modUnit_onlyBay _ b fun u => { u with idleTimer := none, releaseUnderWay := false, disk := none,
                                                 engine := { u.engine with closed := false } })).trans
    (State.enter_onlyBay _ b .absent)).trans
    (State.tellLm_onlyBay _ b (.health .absent none (s.unit b).releaseUnderWay))).mono
    (show bayParts ⊆ noticeParts by simp)
  split
  · exact h
  · exact h.trans (State.unitNotice_onlyBay _ b _)

theorem execPresenceLost_frame (h : execPresenceLost b s = .next t) : OnlyBay noticeParts b s t := by
  unfold execPresenceLost at h
  split at h <;> cases h
  · exact (s.sense_onlyBay b _).mono (by simp)
  · exact ((s.sense_onlyBay b _).mono (by simp)).trans (State.enterAbsent_onlyBay _ b)

theorem execPresenceGained_frame (h : execPresenceGained b s = .next t) : OnlyBay bayParts b s t := by
  unfold execPresenceGained at h
  split at h <;> cases h
  · exact ((s.sense_onlyBay b _).trans (State.modUnit_onlyBay _ b _)).trans
      (State.enterIdentifying_onlyBay _ b)
  · exact s.sense_onlyBay b _

end Sys2Proof.Machine
end

