-- ==== Sys2Proof/Laws/BayReads.lean ====
section
/-! SUPPORT. What the operations of one bay do to that bay: the drive unit, the service controls, the
channels and the clock after each of them. Every other bay, and every other part, is unchanged by
Laws/BayFrames.lean. -/

namespace Sys2Proof.Machine

variable (s : State) (b : Bay)

@[simp] theorem State.modUnit_unit (f : DriveUnit → DriveUnit) :
    (s.modUnit b f).unit b = f (s.unit b) := by
  simp [State.modUnit]
@[simp] theorem State.modUnit_controls (f : DriveUnit → DriveUnit) :
    (s.modUnit b f).controls b = s.controls b := by
  simp [State.modUnit]
@[simp] theorem State.modUnit_bmail (f : DriveUnit → DriveUnit) :
    (s.modUnit b f).bmail b = s.bmail b := by
  simp [State.modUnit]
@[simp] theorem State.modUnit_now (f : DriveUnit → DriveUnit) : (s.modUnit b f).now = s.now := by
  simp [State.modUnit]

@[simp] theorem State.enter_unit (st : DriveState) :
    (s.enter b st).unit b = { s.unit b with state := st } := by
  simp [State.enter, State.modUnit]
@[simp] theorem State.enter_controls (st : DriveState) :
    (s.enter b st).controls b = (s.controls b).outputs st := by
  simp [State.enter, State.modUnit]
@[simp] theorem State.enter_bmail (st : DriveState) : (s.enter b st).bmail b = s.bmail b := by
  simp [State.enter, State.modUnit]
@[simp] theorem State.enter_now (st : DriveState) : (s.enter b st).now = s.now := by
  simp [State.enter, State.modUnit]

@[simp] theorem State.idle_unit : (s.idle b).unit b = (s.unit b).idleCheck s.now := by
  simp [State.idle, State.modUnit]
@[simp] theorem State.idle_controls : (s.idle b).controls b = s.controls b := by
  simp [State.idle, State.modUnit]
@[simp] theorem State.idle_bmail : (s.idle b).bmail b = s.bmail b := by
  simp [State.idle, State.modUnit]
@[simp] theorem State.idle_now : (s.idle b).now = s.now := by
  simp [State.idle, State.modUnit]

@[simp] theorem State.issue_unit (c : DriveCmd) :
    (s.issue b c).unit b = (s.unit b).issue c s.now := by
  simp [State.issue, State.modUnit]
@[simp] theorem State.issue_controls (c : DriveCmd) : (s.issue b c).controls b = s.controls b := by
  simp [State.issue, State.modUnit]
@[simp] theorem State.issue_bmail (c : DriveCmd) : (s.issue b c).bmail b = s.bmail b := by
  simp [State.issue, State.modUnit]
@[simp] theorem State.issue_now (c : DriveCmd) : (s.issue b c).now = s.now := by
  simp [State.issue, State.modUnit]

@[simp] theorem State.endCommand_unit : (s.endCommand b).unit b = (s.unit b).endCommand := by
  simp [State.endCommand, State.modUnit]
@[simp] theorem State.endCommand_controls : (s.endCommand b).controls b = s.controls b := by
  simp [State.endCommand, State.modUnit]
@[simp] theorem State.endCommand_bmail : (s.endCommand b).bmail b = s.bmail b := by
  simp [State.endCommand, State.modUnit]
@[simp] theorem State.endCommand_now : (s.endCommand b).now = s.now := by
  simp [State.endCommand, State.modUnit]

@[simp] theorem State.clearHand_unit : (s.clearHand b).unit b = { s.unit b with hand := none } := by
  simp [State.clearHand, State.modUnit]
@[simp] theorem State.clearHand_controls : (s.clearHand b).controls b = s.controls b := by
  simp [State.clearHand, State.modUnit]
@[simp] theorem State.clearHand_bmail : (s.clearHand b).bmail b = s.bmail b := by
  simp [State.clearHand, State.modUnit]
@[simp] theorem State.clearHand_now : (s.clearHand b).now = s.now := by
  simp [State.clearHand, State.modUnit]

@[simp] theorem State.countMedia_unit :
    (s.countMedia b).unit b = { s.unit b with mediaErrors := bump (s.unit b).mediaErrors } := by
  simp [State.countMedia, State.modUnit]
@[simp] theorem State.countMedia_controls : (s.countMedia b).controls b = s.controls b := by
  simp [State.countMedia, State.modUnit]
@[simp] theorem State.countMedia_bmail : (s.countMedia b).bmail b = s.bmail b := by
  simp [State.countMedia, State.modUnit]
@[simp] theorem State.countMedia_now : (s.countMedia b).now = s.now := by
  simp [State.countMedia, State.modUnit]

@[simp] theorem State.countTimeout_unit :
    (s.countTimeout b).unit b = { s.unit b with timeouts := bump (s.unit b).timeouts } := by
  simp [State.countTimeout, State.modUnit]
@[simp] theorem State.countTimeout_controls : (s.countTimeout b).controls b = s.controls b := by
  simp [State.countTimeout, State.modUnit]
@[simp] theorem State.countTimeout_bmail : (s.countTimeout b).bmail b = s.bmail b := by
  simp [State.countTimeout, State.modUnit]
@[simp] theorem State.countTimeout_now : (s.countTimeout b).now = s.now := by
  simp [State.countTimeout, State.modUnit]

@[simp] theorem State.tellRu_unit (m : UnitToRu) : (s.tellRu b m).unit b = s.unit b := by
  simp [State.tellRu]
@[simp] theorem State.tellRu_controls (m : UnitToRu) :
    (s.tellRu b m).controls b = s.controls b := by
  simp [State.tellRu]
@[simp] theorem State.tellRu_bmail (m : UnitToRu) :
    (s.tellRu b m).bmail b = { s.bmail b with unitToRu := (s.bmail b).unitToRu ++ [m] } := by
  simp [State.tellRu]
@[simp] theorem State.tellRu_now (m : UnitToRu) : (s.tellRu b m).now = s.now := by
  simp [State.tellRu]

@[simp] theorem State.tellLm_unit (m : UnitToLm) : (s.tellLm b m).unit b = s.unit b := by
  simp [State.tellLm]
@[simp] theorem State.tellLm_controls (m : UnitToLm) :
    (s.tellLm b m).controls b = s.controls b := by
  simp [State.tellLm]
@[simp] theorem State.tellLm_bmail (m : UnitToLm) :
    (s.tellLm b m).bmail b = { s.bmail b with unitToLm := (s.bmail b).unitToLm ++ [m] } := by
  simp [State.tellLm]
@[simp] theorem State.tellLm_now (m : UnitToLm) : (s.tellLm b m).now = s.now := by
  simp [State.tellLm]

@[simp] theorem State.tellArb_unit (m : UnitToArb) : (s.tellArb b m).unit b = s.unit b := by
  simp [State.tellArb]
@[simp] theorem State.tellArb_controls (m : UnitToArb) :
    (s.tellArb b m).controls b = s.controls b := by
  simp [State.tellArb]
@[simp] theorem State.tellArb_bmail (m : UnitToArb) :
    (s.tellArb b m).bmail b = { s.bmail b with unitToArb := (s.bmail b).unitToArb ++ [m] } := by
  simp [State.tellArb]
@[simp] theorem State.tellArb_now (m : UnitToArb) : (s.tellArb b m).now = s.now := by
  simp [State.tellArb]

@[simp] theorem State.ruSend_unit (m : RuToUnit) : (s.ruSend b m).unit b = s.unit b := by
  simp [State.ruSend]
@[simp] theorem State.ruSend_controls (m : RuToUnit) :
    (s.ruSend b m).controls b = s.controls b := by
  simp [State.ruSend]
@[simp] theorem State.ruSend_bmail (m : RuToUnit) :
    (s.ruSend b m).bmail b = { s.bmail b with ruToUnit := (s.bmail b).ruToUnit ++ [m] } := by
  simp [State.ruSend]
@[simp] theorem State.ruSend_now (m : RuToUnit) : (s.ruSend b m).now = s.now := by
  simp [State.ruSend]

@[simp] theorem State.lmSend_unit (m : LmToUnit) : (s.lmSend b m).unit b = s.unit b := by
  simp [State.lmSend]
@[simp] theorem State.lmSend_controls (m : LmToUnit) :
    (s.lmSend b m).controls b = s.controls b := by
  simp [State.lmSend]
@[simp] theorem State.lmSend_bmail (m : LmToUnit) :
    (s.lmSend b m).bmail b = { s.bmail b with lmToUnit := (s.bmail b).lmToUnit ++ [m] } := by
  simp [State.lmSend]
@[simp] theorem State.lmSend_now (m : LmToUnit) : (s.lmSend b m).now = s.now := by
  simp [State.lmSend]

@[simp] theorem State.popRu_unit (l : List RuToUnit) : (s.popRu b l).unit b = s.unit b := by
  simp [State.popRu]
@[simp] theorem State.popRu_controls (l : List RuToUnit) :
    (s.popRu b l).controls b = s.controls b := by
  simp [State.popRu]
@[simp] theorem State.popRu_bmail (l : List RuToUnit) :
    (s.popRu b l).bmail b = { s.bmail b with ruToUnit := l } := by
  simp [State.popRu]
@[simp] theorem State.popRu_now (l : List RuToUnit) : (s.popRu b l).now = s.now := by
  simp [State.popRu]

@[simp] theorem State.popUnitReport_unit (l : List UnitToRu) :
    (s.popUnitReport b l).unit b = s.unit b := by
  simp [State.popUnitReport]
@[simp] theorem State.popUnitReport_controls (l : List UnitToRu) :
    (s.popUnitReport b l).controls b = s.controls b := by
  simp [State.popUnitReport]
@[simp] theorem State.popUnitReport_bmail (l : List UnitToRu) :
    (s.popUnitReport b l).bmail b = { s.bmail b with unitToRu := l } := by
  simp [State.popUnitReport]
@[simp] theorem State.popUnitReport_now (l : List UnitToRu) :
    (s.popUnitReport b l).now = s.now := by
  simp [State.popUnitReport]

@[simp] theorem State.popUnitToLm_unit (l : List UnitToLm) :
    (s.popUnitToLm b l).unit b = s.unit b := by
  simp [State.popUnitToLm]
@[simp] theorem State.popUnitToLm_controls (l : List UnitToLm) :
    (s.popUnitToLm b l).controls b = s.controls b := by
  simp [State.popUnitToLm]
@[simp] theorem State.popUnitToLm_bmail (l : List UnitToLm) :
    (s.popUnitToLm b l).bmail b = { s.bmail b with unitToLm := l } := by
  simp [State.popUnitToLm]
@[simp] theorem State.popUnitToLm_now (l : List UnitToLm) : (s.popUnitToLm b l).now = s.now := by
  simp [State.popUnitToLm]

@[simp] theorem State.popLmToUnit_unit (l : List LmToUnit) :
    (s.popLmToUnit b l).unit b = s.unit b := by
  simp [State.popLmToUnit]
@[simp] theorem State.popLmToUnit_controls (l : List LmToUnit) :
    (s.popLmToUnit b l).controls b = s.controls b := by
  simp [State.popLmToUnit]
@[simp] theorem State.popLmToUnit_bmail (l : List LmToUnit) :
    (s.popLmToUnit b l).bmail b = { s.bmail b with lmToUnit := l } := by
  simp [State.popLmToUnit]
@[simp] theorem State.popLmToUnit_now (l : List LmToUnit) : (s.popLmToUnit b l).now = s.now := by
  simp [State.popLmToUnit]

@[simp] theorem State.popUnitToArb_unit (l : List UnitToArb) :
    (s.popUnitToArb b l).unit b = s.unit b := by
  simp [State.popUnitToArb]
@[simp] theorem State.popUnitToArb_controls (l : List UnitToArb) :
    (s.popUnitToArb b l).controls b = s.controls b := by
  simp [State.popUnitToArb]
@[simp] theorem State.popUnitToArb_bmail (l : List UnitToArb) :
    (s.popUnitToArb b l).bmail b = { s.bmail b with unitToArb := l } := by
  simp [State.popUnitToArb]
@[simp] theorem State.popUnitToArb_now (l : List UnitToArb) : (s.popUnitToArb b l).now = s.now := by
  simp [State.popUnitToArb]

/-! ### Several reports -/

/-- The channels after a list of reports to the request unit. -/
theorem State.tellRus_reads {α : Type} (f : α → UnitToRu) (l : List α) :
    (l.foldl (fun t x => t.tellRu b (f x)) s).unit b = s.unit b ∧
    (l.foldl (fun t x => t.tellRu b (f x)) s).controls b = s.controls b ∧
    (l.foldl (fun t x => t.tellRu b (f x)) s).now = s.now ∧
    (l.foldl (fun t x => t.tellRu b (f x)) s).bmail b =
      { s.bmail b with unitToRu := (s.bmail b).unitToRu ++ l.map f } := by
  induction l generalizing s with
  | nil => simp
  | cons x l ih => simpa using ih (s.tellRu b (f x))

/-- The channels after a list of failed extents. -/
theorem State.reportExtents_reads (l : List Extent) :
    (s.reportExtents b l).unit b = s.unit b ∧ (s.reportExtents b l).controls b = s.controls b ∧
    (s.reportExtents b l).now = s.now ∧
    (s.reportExtents b l).bmail b =
      { s.bmail b with
        unitToLm := (s.bmail b).unitToLm ++ l.map fun x => UnitToLm.extentFailed x.vol x.seg } := by
  induction l generalizing s with
  | nil => simp [State.reportExtents]
  | cons x l ih => simpa [State.reportExtents] using ih (s.tellLm b (.extentFailed x.vol x.seg))

/-- The unit and its channels after every piece it holds has failed (R98, R141). -/
theorem State.failPieces_reads (r : FailReason) :
    (s.failPieces b r).unit b = { s.unit b with hand := none, queue := [], staging := none } ∧
    (s.failPieces b r).controls b = s.controls b ∧ (s.failPieces b r).now = s.now ∧
    (s.failPieces b r).bmail b = { s.bmail b with
      unitToRu := (s.bmail b).unitToRu ++
        (s.unit b).hand.toList.map (fun j => UnitToRu.failed j.piece r j.done) ++
        (s.unit b).queue.map (fun j => UnitToRu.failed j.piece r 0) ++
        (s.unit b).staging.toList.map (fun x => UnitToRu.failed x.piece r 0) } := by
  unfold State.failPieces
  cases hh : (s.unit b).hand <;> cases hs : (s.unit b).staging <;>
    simp [hh, hs, State.tellRus_reads]

/-- The unit and its channels after the clear engine has failed its list (R126). -/
theorem State.failEngine_reads :
    (s.failEngine b).unit b =
      { s.unit b with engine := { (s.unit b).engine with state := .empty, list := [] } } ∧
    (s.failEngine b).controls b = s.controls b ∧ (s.failEngine b).now = s.now ∧
    (s.failEngine b).bmail b = { s.bmail b with
      unitToLm := (s.bmail b).unitToLm ++
        (s.unit b).engine.list.map fun x => UnitToLm.extentFailed x.vol x.seg } := by
  simp [State.failEngine, State.reportExtents_reads]

/-! ### Notices -/

/-- A channel whose head waits for a command of its own is left as it is. -/
theorem settle_settled (l : List AgentMsg) (h : settledChannel l = true) : settle l s = (l, s) := by
  cases l with
  | nil => rfl
  | cons a l => cases a <;> simp_all [settle, settledChannel]

/-- A notice behind a channel that waits for a command of its own waits there too. -/
theorem settle_notice (l : List AgentMsg) (n : Notice) (h : settledChannel l = true) :
    settle (l ++ [.notice n]) s = (l ++ [.notice n], s) := by
  cases l with
  | nil => rfl
  | cons a l => cases a <;> simp_all [settle, settledChannel]

/-- A notice of a drive unit waits in its channel. -/
theorem State.unitNotice_eq (n : Notice) (h : settledChannel (s.bmail b).unitToAgent = true) :
    s.unitNotice b n =
      s.setBmail b { s.bmail b with unitToAgent := (s.bmail b).unitToAgent ++ [.notice n] } := by
  simp [State.unitNotice, State.unitTellAgent, settle_notice _ _ _ h]

/-- A notice of the service controls waits in its channel. -/
theorem State.svcNotice_eq (n : Notice) (h : settledChannel (s.bmail b).svcToAgent = true) :
    s.svcTellAgent b (.notice n) =
      s.setBmail b { s.bmail b with svcToAgent := (s.bmail b).svcToAgent ++ [.notice n] } := by
  simp [State.svcTellAgent, settle_notice _ _ _ h]

end Sys2Proof.Machine
end

