-- ==== Sys2Proof/Laws/ManageFrames.lean ====
section
/-! SUPPORT. What each management request leaves unchanged when it answers a next state. -/

namespace Sys2Proof.Machine

variable (s t : State)

/-- The parts that taking a MANAGE frame and answering it writes. -/
abbrev manageParts : List Part := [.cls, .ports, .agent]

theorem State.setManagerPort_unchanged (p : Port) : UnchangedBut manageParts s (s.setManagerPort p) := by
  unfold State.setManagerPort
  split
  · exact (s.setAgent_unchanged _).mono (by simp)
  · exact .refl _ _

theorem State.reply_unchanged (h : Header) (c : Code) : UnchangedBut manageParts s (s.reply h c) :=
  (s.answer_unchanged _).mono (by simp)

theorem State.discardManage_unchanged (p : Port) : UnchangedBut manageParts s (s.discardManage p) :=
  (s.setPort_unchanged p _).mono (by simp)

/-- A request writes what taking and answering its frame writes, and what it does itself. -/
theorem State.manage_unchanged (l : List Part) (hl : manageParts ⊆ l) (code : Byte)
    (act : Header → List Byte → State → State) (ha : ∀ h bs u, UnchangedBut l u (act h bs u)) :
    UnchangedBut l s (s.manage code act) := by
  unfold State.manage
  split
  · split
    · unfold State.takeManage
      dsimp only
      split
      · exact ((s.freeClassifier_unchanged.mono (by simp)).trans
          (State.discardManage_unchanged _ _)).mono hl
      · have h0 := ((s.freeClassifier_unchanged.mono (show [Part.cls] ⊆ manageParts by simp)).trans
          (State.setManagerPort_unchanged _ (by assumption))).mono hl
        split
        · exact h0.trans (ha _ _ _)
        · exact h0.trans ((State.answer_unchanged _ _).mono fun _ h => hl (by simp at h; simp [h]))
    · exact .refl _ _
  · exact .refl _ _

/-- The parts that a status of the loan manager or of the node block writes. -/
abbrev statusParts : List Part := [.cls, .ports, .agent, .mail]

theorem State.lmStatus_unchanged (h : Header) (c : Code) : UnchangedBut statusParts s (s.lmStatus h c) :=
  ((s.setWait_unchanged _).mono (by simp)).trans ((State.lmTellAgent_unchanged _ _).mono (by simp))

theorem State.nodeStatus_unchanged (h : Header) (c : Code) :
    UnchangedBut statusParts s (s.nodeStatus h c) :=
  ((s.setWait_unchanged _).mono (by simp)).trans ((State.nodeTellAgent_unchanged _ _).mono (by simp))

theorem State.setWait_onlyBay (b : Bay) (w : AgentWait) : OnlyBay noticeParts b s (s.setWait w) :=
  ⟨(s.setWait_unchanged w).mono (by simp), .of_parts (s.setWait_unchanged w) (by simp) (by simp)
    (by simp) (by simp)⟩

theorem State.unitStatus_onlyBay (b : Bay) (a : Answer) : OnlyBay noticeParts b s (s.unitStatus b a) :=
  (s.setWait_onlyBay b _).trans ((State.unitTellAgent_onlyBay _ b _).mono (by simp))

theorem State.svcStatus_onlyBay (b : Bay) (a : Answer) : OnlyBay noticeParts b s (s.svcStatus b a) :=
  (s.setWait_onlyBay b _).trans ((State.svcTellAgent_onlyBay _ b _).mono (by simp))

/-- The parts that a request to a bay writes. -/
abbrev bayRequestParts : List Part := [.cls, .units, .svc, .bayMail, .ports, .agent]

theorem State.onBay_unchanged (h : Header) (act : Bay → State → State)
    (ha : ∀ b u, OnlyBay noticeParts b u (act b u)) : UnchangedBut bayRequestParts s (s.onBay h act) := by
  unfold State.onBay
  split
  · exact (ha _ _).1.mono (by simp)
  · exact (s.reply_unchanged _ _).mono (by simp)

/-! ### The agent's own requests -/

theorem execBadRequest_frame (h : execBadRequest s = .next t) : UnchangedBut manageParts s t := by
  unfold execBadRequest at h
  dsimp only at h
  cases h
  split
  · exact .refl _ _
  · split
    · exact s.freeClassifier_unchanged.mono (by simp)
    · split
      · exact (s.freeClassifier_unchanged.mono (by simp)).trans (State.discardManage_unchanged _ _)
      · split
        · exact .refl _ _
        · exact ((s.freeClassifier_unchanged.mono (by simp)).trans
          (State.setManagerPort_unchanged _ _)).trans (State.reply_unchanged _ _ _)

theorem State.attach_unchanged (p : Port) (a : Addr) (h : Header) :
    UnchangedBut manageParts s (s.attach p a h) := by
  unfold State.attach
  split
  · exact ((s.setAgent_unchanged _).mono (by simp)).trans ((State.answer_unchanged _ _).mono (by simp))
  · split
    · exact (s.setManagerPort_unchanged p).trans ((State.answer_unchanged _ _).mono (by simp))
    · exact (s.answer_unchanged _).mono (by simp)

theorem execAttach_frame (h : execAttach s = .next t) : UnchangedBut manageParts s t := by
  unfold execAttach at h
  cases h
  split
  · split
    · exact (s.freeClassifier_unchanged.mono (by simp)).trans (State.attach_unchanged _ _ _ _)
    · exact .refl _ _
  · exact .refl _ _

/-- The parts a DETACH writes. -/
abbrev detachParts : List Part := [.cls, .ports, .agent, .mail]

theorem State.dropExpiries_unchanged : UnchangedBut detachParts s s.dropExpiries :=
  ((settle_unchanged _ s).mono (by simp)).trans ((State.setMail_unchanged _ _).mono (by simp))

theorem execDetach_frame (h : execDetach s = .next t) : UnchangedBut detachParts s t := by
  cases h
  exact s.manage_unchanged _ (by simp) _ _ fun h _ u =>
    (((u.reply_unchanged h .ok).mono (by simp)).trans
      ((State.setAgent_unchanged _ _).mono (by simp))).trans (State.dropExpiries_unchanged _)

theorem execIdentify_frame (h : execIdentify s = .next t) : UnchangedBut manageParts s t := by
  cases h
  exact s.manage_unchanged _ (by simp) _ _ fun h _ u => (u.answer_unchanged _).mono (by simp)

theorem execReadParams_frame (h : execReadParams s = .next t) : UnchangedBut manageParts s t := by
  cases h
  exact s.manage_unchanged _ (by simp) _ _ fun h _ u => (u.answer_unchanged _).mono (by simp)

/-- The parts a SET_PARAMS writes. -/
abbrev setParamParts : List Part := [.cls, .bayMail, .mail, .portMail, .agent, .ports]

theorem execSetParams_frame (h : execSetParams s = .next t) : UnchangedBut setParamParts s t := by
  cases h
  refine s.manage_unchanged _ (by simp) _ _ fun h bs u => ?_
  split
  · unfold State.setParams
    split
    · exact (u.reply_unchanged _ _).mono (by simp)
    · split
      · exact (u.setWait_unchanged _).mono (by simp)
      · exact (u.applyParams_unchanged _ _).mono (by simp)
  · exact .refl _ _

theorem execReadCounters_frame (h : execReadCounters s = .next t) : UnchangedBut manageParts s t := by
  cases h
  exact s.manage_unchanged _ (by simp) _ _ fun h _ u => (u.setWait_unchanged _).mono (by simp)

theorem State.gotCounters_unchanged (h : Header) (z : Bool) (l : List CounterUnit) (g : Tbl (List Byte)) :
    UnchangedBut [.ports, .agent] s (s.gotCounters h z l g) := by
  unfold State.gotCounters
  split
  · exact ((s.setWait_unchanged _).mono (by simp)).trans ((State.answer_unchanged _ _).mono (by simp))
  · exact (s.setWait_unchanged _).mono (by simp)

theorem State.zeroCounters_unchanged (u : CounterUnit) :
    UnchangedBut [.ports, .units] s (s.zeroCounters u) := by
  cases u with
  | port p => exact (s.setPort_unchanged p _).mono (by simp)
  | bay b => exact (s.setUnit_unchanged b _).mono (by simp)

theorem execCounterQuery_frame (u : CounterUnit) (h : execCounterQuery u s = .next t) :
    UnchangedBut [.ports, .agent, .units] s t := by
  unfold execCounterQuery at h
  split at h
  · cases h
    split
    · split
      · exact ((s.zeroCounters_unchanged u).mono (by simp)).trans
          ((State.gotCounters_unchanged _ _ _ _ _).mono (by simp))
      · exact (State.gotCounters_unchanged _ _ _ _ _).mono (by simp)
    · exact .refl _ _
  all_goals cases h; exact .refl _ _

theorem execManagerNotice_frame (src : NoticeSource) (h : execManagerNotice src s = .next t) :
    UnchangedBut [.ports, .agent, .mail, .bayMail] s t := by
  have h0 : ∀ n l, UnchangedBut [.ports, .agent, .mail, .bayMail] s (settle l (s.takeNotice n)).2 :=
    fun n l => ((s.takeNotice_unchanged n).mono (by simp)).trans ((settle_unchanged l _).mono (by simp))
  unfold execManagerNotice at h
  cases src with
  | loanManager =>
    cases h
    dsimp only
    split
    · exact (h0 _ _).trans ((State.setMail_unchanged _ _).mono (by simp))
    · exact .refl _ _
  | nodeBlock =>
    cases h
    dsimp only
    split
    · exact (h0 _ _).trans ((State.setMail_unchanged _ _).mono (by simp))
    · exact .refl _ _
  | driveUnit b =>
    cases h
    dsimp only
    split
    · exact (h0 _ _).trans ((State.setBmail_unchanged _ _ _).mono (by simp))
    · exact .refl _ _
  | service b =>
    cases h
    dsimp only
    split
    · exact (h0 _ _).trans ((State.setBmail_unchanged _ _ _).mono (by simp))
    · exact .refl _ _

theorem execResetPart_frame (h : execResetPart s = .next t) : UnchangedBut statusParts s t := by
  cases h
  refine s.manage_unchanged _ (by simp) _ _ fun h bs u => ?_
  split
  · exact (u.reply_unchanged _ _).mono (by simp)
  · intro a h; cases a <;> first | rfl | simp at h

theorem execResetShareFinished_frame (x : ResetShare) (h : execResetShareFinished x s = .next t) :
    UnchangedBut [.ports, .agent, .mail] s t := by
  have h0 : ∀ x l, UnchangedBut [.ports, .agent, .mail] s (settle l (s.shareDone x)).2 :=
    fun x l => ((s.shareDone_unchanged x).mono (by simp)).trans ((settle_unchanged l _).mono (by simp))
  unfold execResetShareFinished at h
  cases x with
  | loanManager =>
    cases h
    dsimp only
    split
    · exact (h0 _ _).trans ((State.setMail_unchanged _ _).mono (by simp))
    · exact .refl _ _
  | requestUnit =>
    cases h
    dsimp only
    split
    · exact (h0 _ _).trans ((State.setMail_unchanged _ _).mono (by simp))
    · exact .refl _ _

/-! ### Requests of the loan manager -/

/-- The parts a request of the loan manager writes. -/
abbrev lmRequestParts : List Part := .cls :: lmParts

theorem State.eraseVolume_unchanged (v : Nat) : UnchangedBut [.lm] s (s.eraseVolume v) :=
  s.setLm_unchanged _

/-- Noting the disks of a new volume's bays writes the loan manager alone. -/
theorem State.noteDisks_unchanged (l : List Segment) : UnchangedBut [.lm] s (s.noteDisks l) := by
  induction l generalizing s with
  | nil => exact .refl _ _
  | cons g t ih => exact (s.setLmBay_unchanged g.bay _).trans (ih _)

/-- What noting the disks of a new volume's bays can do: those bays have the disk of their unit, healthy as
it stands, and the rest of the loan manager is as before. -/
theorem State.noteDisks_spec (l : List Segment) :
    (s.noteDisks l).lm = { s.lm with bays := (s.noteDisks l).lm.bays } ∧
    (∀ g ∈ l, (s.noteDisks l).lmBay g.bay =
      { s.lmBay g.bay with reported := s.healthyDisk g.bay }) ∧
    ∀ b, (∀ g ∈ l, g.bay ≠ b) → (s.noteDisks l).lmBay b = s.lmBay b := by
  induction l generalizing s with
  | nil => exact ⟨rfl, by simp, fun _ _ => rfl⟩
  | cons g t ih =>
    obtain ⟨h1, h2, h3⟩ :=
      ih (s := s.setLmBay g.bay { s.lmBay g.bay with reported := s.healthyDisk g.bay })
    refine ⟨h1, fun x hx => ?_, fun b hb => ?_⟩
    · by_cases hm : ∃ y ∈ t, y.bay = x.bay
      · obtain ⟨y, hy, e⟩ := hm
        refine (e ▸ h2 y hy).trans ?_
        by_cases c : x.bay = g.bay
        · rw [c, State.setLmBay_lmBay_self]
          rfl
        · rw [State.setLmBay_lmBay_ne _ _ _ _ c]
          rfl
      · have c : x = g := by
          rcases List.mem_cons.mp hx with h | h
          · exact h
          · exact absurd ⟨x, h, rfl⟩ hm
        subst c
        refine (h3 x.bay fun y hy e => hm ⟨y, hy, e⟩).trans ?_
        simp
    · refine (h3 b fun y hy => hb y (List.mem_cons_of_mem _ hy)).trans ?_
      exact State.setLmBay_lmBay_ne _ _ _ _ (Ne.symm (hb g (List.mem_cons_self ..)))

theorem execDefineVolume_frame (h : execDefineVolume s = .next t) :
    UnchangedBut (.lm :: statusParts) s t := by
  cases h
  refine s.manage_unchanged _ (by simp) _ _ fun h bs u => ?_
  split
  · unfold State.define
    split
    · exact (u.lmStatus_unchanged _ _).mono (by simp)
    · exact (((u.setVolume_unchanged _ _).mono (by simp)).trans
        ((State.noteDisks_unchanged _ _).mono (by simp))).trans
        ((State.lmStatus_unchanged _ _ _).mono (by simp))
  · exact .refl _ _

theorem execDeleteVolume_frame (h : execDeleteVolume s = .next t) :
    UnchangedBut (.lm :: statusParts) s t := by
  cases h
  refine s.manage_unchanged _ (by simp) _ _ fun h bs u => ?_
  unfold State.deleteVolume
  repeat' split
  · exact (u.lmStatus_unchanged _ _).mono (by simp)
  · exact (u.lmStatus_unchanged _ _).mono (by simp)
  · exact (u.lmStatus_unchanged _ _).mono (by simp)
  · exact ((u.eraseVolume_unchanged _).mono (by simp)).trans
      ((State.lmStatus_unchanged _ _ _).mono (by simp))

theorem execClearVolume_frame (h : execClearVolume s = .next t) : UnchangedBut lmRequestParts s t := by
  cases h
  refine s.manage_unchanged _ (by simp) _ _ fun h bs u => ?_
  unfold State.clearVolume
  repeat' split
  · exact (u.lmStatus_unchanged _ _).mono (by simp)
  · exact (u.lmStatus_unchanged _ _).mono (by simp)
  · exact (u.lmStatus_unchanged _ _).mono (by simp)
  · exact ((u.toClearing_unchanged _).mono (by simp)).trans
      ((State.lmStatus_unchanged _ _ _).mono (by simp))

theorem execReadVolume_frame (h : execReadVolume s = .next t) : UnchangedBut manageParts s t := by
  cases h
  refine s.manage_unchanged _ (by simp) _ _ fun h bs u => ?_
  unfold State.readVolume
  repeat' split
  · exact u.reply_unchanged _ _
  · exact u.reply_unchanged _ _
  · exact (u.answer_unchanged _).mono (by simp)

theorem execRecallLoan_frame (h : execRecallLoan s = .next t) :
    UnchangedBut (.lm :: statusParts) s t := by
  cases h
  refine s.manage_unchanged _ (by simp) _ _ fun h bs u => ?_
  unfold State.recallLoan
  repeat' split
  · exact (u.lmStatus_unchanged _ _).mono (by simp)
  · exact (u.lmStatus_unchanged _ _).mono (by simp)
  · exact (u.lmStatus_unchanged _ _).mono (by simp)
  · exact (((u.setLoan_unchanged _ _).mono (by simp)).trans
      ((State.placeForNode_unchanged _ _ _).mono (by simp))).trans
      ((State.lmStatus_unchanged _ _ _).mono (by simp))

theorem execReadLoan_frame (h : execReadLoan s = .next t) : UnchangedBut manageParts s t := by
  cases h
  refine s.manage_unchanged _ (by simp) _ _ fun h bs u => ?_
  unfold State.readLoan
  repeat' split
  · exact u.reply_unchanged _ _
  · exact (u.answer_unchanged _).mono (by simp)
  · exact (u.answer_unchanged _).mono (by simp)

theorem execReleaseBay_frame (h : execReleaseBay s = .next t) : UnchangedBut lmRequestParts s t := by
  cases h
  refine s.manage_unchanged _ (by simp) _ _ fun h bs u => ?_
  unfold State.releaseBay
  repeat' split
  · exact (u.lmStatus_unchanged _ _).mono (by simp)
  · exact (u.lmStatus_unchanged _ _).mono (by simp)
  · exact (u.lmStatus_unchanged _ _).mono (by simp)
  · exact ((u.beginRelease_unchanged _).mono (by simp)).trans
      ((State.lmStatus_unchanged _ _ _).mono (by simp))

/-! ### Requests of the node block -/

/-- The parts a request of the node block writes. -/
abbrev nodeRequestParts : List Part := .nodes :: statusParts

theorem State.addEntry_unchanged (tag : BitVec 8) (w : EntryWork) :
    UnchangedBut [.agent] s (s.addEntry tag w) := s.setAgent_unchanged _

theorem execAdmitNode_frame (h : execAdmitNode s = .next t) : UnchangedBut nodeRequestParts s t := by
  cases h
  refine s.manage_unchanged _ (by simp) _ _ fun h bs u => ?_
  unfold State.admitNode
  repeat' split
  · exact (u.nodeStatus_unchanged _ _).mono (by simp)
  · exact (u.nodeStatus_unchanged _ _).mono (by simp)
  · exact (u.nodeStatus_unchanged _ _).mono (by simp)
  · exact ((u.setNode_unchanged _ _).mono (by simp)).trans
      ((State.nodeStatus_unchanged _ _ _).mono (by simp))

theorem execReadmitNode_frame (h : execReadmitNode s = .next t) :
    UnchangedBut nodeRequestParts s t := by
  cases h
  refine s.manage_unchanged _ (by simp) _ _ fun h bs u => ?_
  unfold State.readmitNode
  repeat' split
  · exact (u.nodeStatus_unchanged _ _).mono (by simp)
  · exact ((u.setNode_unchanged _ _).mono (by simp)).trans
      ((State.nodeStatus_unchanged _ _ _).mono (by simp))
  · exact ((u.setNode_unchanged _ _).mono (by simp)).trans
      ((State.nodeStatus_unchanged _ _ _).mono (by simp))
  · exact (u.nodeStatus_unchanged _ _).mono (by simp)
  · exact (u.nodeStatus_unchanged _ _).mono (by simp)

theorem execDrainNode_frame (h : execDrainNode s = .next t) : UnchangedBut nodeRequestParts s t := by
  cases h
  refine s.manage_unchanged _ (by simp) _ _ fun h bs u => ?_
  unfold State.drainNode
  repeat' split
  · exact (u.reply_unchanged _ _).mono (by simp)
  · exact (u.nodeStatus_unchanged _ _).mono (by simp)
  · exact (u.nodeStatus_unchanged _ _).mono (by simp)
  · exact (u.nodeStatus_unchanged _ _).mono (by simp)
  · exact (u.addEntry_unchanged _ _).mono (by simp)
  · exact ((u.setNode_unchanged _ _).mono (by simp)).trans ((State.setWait_unchanged _ _).mono (by simp))

theorem execForgetNode_frame (h : execForgetNode s = .next t) : UnchangedBut nodeRequestParts s t := by
  cases h
  refine s.manage_unchanged _ (by simp) _ _ fun h bs u => ?_
  unfold State.forgetNode
  repeat' split
  · exact (u.nodeStatus_unchanged _ _).mono (by simp)
  · exact (u.nodeStatus_unchanged _ _).mono (by simp)
  · exact (u.nodeStatus_unchanged _ _).mono (by simp)
  · exact (u.setWait_unchanged _).mono (by simp)
  · exact (u.setWait_unchanged _).mono (by simp)

theorem State.eraseNode_unchanged (n : Nat) :
    UnchangedBut [.nodes] s { s with nodes := s.nodes.erase n } := by
  intro a h; cases a <;> first | rfl | simp at h

theorem State.drainProceeds_unchanged (tag : BitVec 8) (a : Addr) (n : Nat) :
    UnchangedBut lmRequestParts s (s.drainProceeds tag a n) := by
  unfold State.drainProceeds
  have hq (e : Node) (h : Header) : UnchangedBut lmRequestParts s
      (if e.outstanding = 0 then (s.setNode n { e with state := .drained }).nodeStatus h .ok
       else (s.setWait .free).addEntry tag (.drain a)) := by
    split
    · exact ((s.setNode_unchanged _ _).mono (by simp)).trans
        ((State.nodeStatus_unchanged _ _ _).mono (by simp))
    · exact ((s.setWait_unchanged _).mono (by simp)).trans
        ((State.addEntry_unchanged _ _ _).mono (by simp))
  dsimp only
  split
  · exact (s.nodeStatus_unchanged _ _).mono (by simp)
  · split
    · exact hq _ _
    · exact hq _ _
    · exact (s.nodeStatus_unchanged _ _).mono (by simp)
    · exact (s.nodeStatus_unchanged _ _).mono (by simp)

theorem State.forgetProceeds_unchanged (tag : BitVec 8) (a : Addr) (n : Nat) :
    UnchangedBut lmRequestParts s (s.forgetProceeds tag a n) := by
  unfold State.forgetProceeds
  dsimp only
  repeat' split
  · exact (s.nodeStatus_unchanged _ _).mono (by simp)
  · exact (((s.forgetLoanStep_unchanged _).mono (by simp)).trans
      ((State.eraseNode_unchanged _ _).mono (by simp))).trans
      ((State.nodeStatus_unchanged _ _ _).mono (by simp))
  · exact (s.nodeStatus_unchanged _ _).mono (by simp)

theorem execOutstandingCountAnswer_frame (h : execOutstandingCountAnswer s = .next t) :
    UnchangedBut lmRequestParts s t := by
  unfold execOutstandingCountAnswer at h
  split at h <;> cases h
  · split
    · exact s.drainProceeds_unchanged _ _ _
    · exact .refl _ _
  · split
    · exact s.forgetProceeds_unchanged _ _ _
    · exact .refl _ _
  all_goals exact .refl _ _

theorem execReadNode_frame (h : execReadNode s = .next t) : UnchangedBut statusParts s t := by
  cases h
  refine s.manage_unchanged _ (by simp) _ _ fun h bs u => ?_
  unfold State.readNode
  split
  · exact u.nodeStatus_unchanged _ _
  · exact ((u.setWait_unchanged _).mono (by simp)).trans
      ((State.nodeTellAgent_unchanged _ _).mono (by simp))

/-! ### Requests of the drive units and service controls -/

theorem execWakeDisk_frame (h : execWakeDisk s = .next t) : UnchangedBut bayRequestParts s t := by
  cases h
  refine s.manage_unchanged _ (by simp) _ _ fun h bs u => u.onBay_unchanged h _ fun b w => ?_
  unfold State.wakeDisk
  split
  · exact ((w.wake_onlyBay b).mono (by simp)).trans (State.unitStatus_onlyBay _ b _)
  · exact w.unitStatus_onlyBay b _

theorem execSleepDisk_frame (h : execSleepDisk s = .next t) : UnchangedBut bayRequestParts s t := by
  cases h
  refine s.manage_unchanged _ (by simp) _ _ fun h bs u => u.onBay_unchanged h _ fun b w => ?_
  unfold State.sleepDisk
  split
  · exact ((w.spinDown_onlyBay b).mono (by simp)).trans (State.unitStatus_onlyBay _ b _)
  · split <;> exact w.unitStatus_onlyBay b _

theorem execAcceptDisk_frame (h : execAcceptDisk s = .next t) : UnchangedBut bayRequestParts s t := by
  cases h
  refine s.manage_unchanged _ (by simp) _ _ fun h bs u => u.onBay_unchanged h _ fun b w => ?_
  unfold State.acceptDisk
  split
  · exact (((w.enterIdentifying_onlyBay b).trans (State.tellLm_onlyBay _ b _)).mono (by simp)).trans
      (State.unitStatus_onlyBay _ b _)
  · exact w.unitStatus_onlyBay b _

theorem execReadDisk_frame (h : execReadDisk s = .next t) : UnchangedBut bayRequestParts s t := by
  cases h
  exact s.manage_unchanged _ (by simp) _ _ fun h bs u => u.onBay_unchanged h _ fun b w =>
    w.unitStatus_onlyBay b _

theorem execAckService_frame (h : execAckService s = .next t) : UnchangedBut bayRequestParts s t := by
  cases h
  exact s.manage_unchanged _ (by simp) _ _ fun h bs u => u.onBay_unchanged h _ fun b w =>
    ((w.setControls_onlyBay b _).mono (by simp)).trans (State.svcStatus_onlyBay _ b _)

end Sys2Proof.Machine
end

