-- ==== Sys2Proof/WellFormed.lean ====
section
/-! DEFINITION. When a command is well formed: its operands lie in the ranges that the spec's tables
and the drive port's reporting give them. -/

namespace Sys2Proof

/-- A media error names a block of a command of at most 256 blocks (R66, R91, R123). -/
def CmdOutcome.wellFormed : CmdOutcome → Bool
  | .media k => k < 256
  | .good | .failed | .linkLost => true

/-- A FETCH brings back at most 256 blocks (R91); up to a media error, fewer than 256. -/
def FetchOutcome.wellFormed : FetchOutcome → Bool
  | .good bs => bs.length ≤ 256
  | .media bs => bs.length < 256
  | .failed | .linkLost => true

/-- A well-formed command: record numbers name records that exist (R19, R23, R62), and completions
are as a drive port can report them (R95). -/
def Instr.wellFormed : Instr → Bool
  | .deliveryTimerExpiry n => n < 1024
  | .waitTimerExpiry n => n < 256
  | .termExpiry n => n < 1024
  | .graceExpiry n => n < 1024
  | .fetchCompletion _ _ o => o.wellFormed
  | .storeCompletion _ _ o => o.wellFormed
  | .probeCompletion _ _ o => o.wellFormed
  | .zeroCompletion _ _ o => o.wellFormed
  | .spinUpCompletion _ _ o => o.wellFormed
  | .spinDownCompletion _ _ o => o.wellFormed
  | .powerOn .. | .linkDown _ | .linkUp _ | .ingressFrame .. | .pauseRepeatExpiry _
  | .receivedPause .. | .receivedPauseEnd _ | .transmissionEnd _ | .thresholdsTaken _
  | .classifyFrame | .borrow | .renew | .returnLoan | .read | .write | .check | .abort
  | .loanClaim | .claimAnswer | .pieceAppend _ | .pieceWithdrawal _ | .pieceStartedReport _
  | .pieceStagedReport _ | .pieceDoneReport _ | .pieceFailedReport _ | .pieceWithdrawnReport _
  | .withdrawalAnswer _ | .egressRoom _ | .loanQuiet | .healthReport _ | .extentDone _
  | .extentFailed _ | .pendingClearReport _ | .clearExtent _ | .gatherTimerExpiry _
  | .stagingEmptied _ | .identifyCompletion .. | .commandTimerExpiry _ | .spinUpLimitExpiry _
  | .linkLost _ | .idleTimerExpiry _ | .spinUpGrant _ | .spinUpWanted _ | .waitWithdrawn _
  | .grantDeclined _ | .spinUpEnded _ | .budgetChange | .pauseAllowanceChange _
  | .keepSpinningChange _ | .buttonPress _ | .buttonRelease _ | .holdTimerExpiry _
  | .serviceOverride _ | .releaseTaken _ | .releaseEndReport _ | .presenceLost _
  | .presenceGained _ | .nodeQuiet | .outstandingCountAnswer | .managerNotice _
  | .resetShareFinished _ | .badRequest | .attach | .detach | .identify | .setParams
  | .readParams | .readCounters | .counterQuery _ | .resetPart | .loanManagerReset
  | .requestUnitReset | .defineVolume | .deleteVolume | .clearVolume | .readVolume
  | .recallLoan | .readLoan | .releaseBay | .admitNode | .readmitNode | .drainNode
  | .forgetNode | .readNode | .wakeDisk | .sleepDisk | .acceptDisk | .readDisk
  | .ackService | .portLinkChange _ | .timerLimitChange _ => true

end Sys2Proof
end

