-- ==== Sys2Proof/Tests/Slice0.lean ====
section
/-! SUPPORT. Tests: ill-formed commands are refused by `Instr.wellFormed`; `test_` theorems compare one
step with the spec's worked cases; `witness_` theorems show states that meet the hypotheses of each
clause of a statement. -/

namespace Sys2Proof.Tests

open Sys2Proof Sys2Proof.Machine

-- The theorems are checked one after another, so that few threads are needed at a time.
set_option Elab.async false

/-! ### Builders -/

/-- The disk of a bay. -/
def disk (b : Bay) : Disk := { serial := BitVec.ofNat 160 (100 + b.val), capacity := 4294967295 }

/-- A segment on the disk of a bay. -/
def seg (b : Bay) (base length : Nat) : Segment :=
  { bay := b, identity := (disk b).serial, base := base, length := length, clear := .none }

/-- Volume 42 of section 1.3, with the term and grace of section 2.11. -/
def vol42 : Volume where
  cls := .shot
  wake := false
  term := 60
  grace := 30
  state := .idle
  segments := [seg 5 1000000 300, seg 9 50000 100, seg 5 2000000 1000]
  loanCount := 0
  waitList := []

/-- A SCRATCH volume of one segment on bay 7. -/
def volScr : Volume where
  cls := .scratch
  wake := true
  term := 60
  grace := 30
  state := .lent
  segments := [seg 7 0 256]
  loanCount := 1
  waitList := []

def nodeA : Node where
  addr := 0xA0
  state := .admitted
  lastPort := some 2
  outstanding := 0
  tags := []
  loanWait := 0

/-- A READ loan of node 0 on volume 42. -/
def loanA : Loan where
  holder := 0
  volume := 42
  mode := .read
  state := .held
  termDeadline := secs 60
  outstanding := 0

/-- A READY drive unit with its disk. -/
def rdy (b : Bay) : DriveUnit := { DriveUnit.absent with state := .ready, disk := some (disk b) }

/-- The loan manager has taken a report of the healthy unit of a bay with its disk. -/
def told (b : Bay) (s : State) : State := s.setLmBay b { s.lmBay b with reported := some (disk b) }

/-- A part with volume 42, bays 5 and 9 READY and reported so, node 0 and port 2 UP. -/
def part : State :=
  let s := told 9 (told 5 (((State.reset.setUnit 5 (rdy 5)).setUnit 9 (rdy 9)).setPort 2
    (FarmPort.powerOn true)))
  { s with nodes := [(0, nodeA)], lm := { s.lm with volumes := [(42, vol42)] } }

/-- The same, with node 0 holding a loan in entry 10, generation 3: handle 0283h. -/
def lent (l : Loan) : State :=
  { part with lm := { part.lm with
      volumes := [(42, { vol42 with state := .lent, loanCount := 1 })], loans := [(10, l)],
      generations := [(10, 3)] } }

/-- A frame of a source with a header and the bytes after it. -/
def frame (src : Addr) (h : Header) (body : List Byte) : InFrame where
  dst := 0
  src := src
  type := .alt
  payload := { h with payloadLen := BitVec.ofNat 16 body.length }.encode ++ body
  good := true

/-- A lending frame of node 0 has been passed to the loan manager. -/
def toLm (h : Header) (s : State) : State :=
  { s with cls := { s.cls with
      passed := some { dest := .loanManager 0, port := 2, frame := frame 0xA0 h [] } } }

/-- A block request frame of node 0 has been passed to the request unit. -/
def toRu (h : Header) (body : List Byte) (s : State) : State :=
  { s with cls := { s.cls with
      passed := some { dest := .requestUnit 0, port := 2, frame := frame 0xA0 h body } } }

/-- A MANAGE frame of the manager, on port 1, has been passed to the agent. -/
def asked (h : Header) (body : List Byte) (s : State) : State :=
  { s with
    cls := { s.cls with
      passed := some { dest := .agent, port := 1, frame := frame 0xB0 { h with kind := 0x30 } body } }
    agent := { s.agent with slot := some { addr := 0xB0, port := 3, seq := 7 } } }

/-- A request without payload, as it is read back. -/
def request (code : Byte) : Header := { Header.blank with kind := 0x30, tag := 9, subcode := code }

/-- A drive unit and the channels of its bay. -/
def bay (b : Bay) (u : DriveUnit) (m : BayMail) : State := (State.reset.setUnit b u).setBmail b m

/-- A farm port. -/
def onPort (p : Port) (f : FarmPort) : State := State.reset.setPort p f

/-- A port that is UP. -/
def upPort : FarmPort := FarmPort.powerOn true

/-- An arriving frame of a given payload length. -/
def inF (n : Nat) : InFrame where
  dst := 0
  src := 0xA0
  type := .alt
  payload := List.replicate n 0
  good := true

/-- Port 0 UP, with complete frames of given payload lengths, and what it is sending. -/
def ing (l : List Nat) (w : Wire := .idle) : State :=
  onPort 0 { upPort with ingress := l.map inF, wire := w }

theorem ing_fill (l : List Nat) (w : Wire) : ((ing l w).port 0).fill = (l.map (14 + ·)).sum := by
  simp [ing, onPort, FarmPort.fill, Function.comp_def, InFrame.length, inF]

/-- A table with every number of a size in use. -/
def fullTbl {α : Type} (n : Nat) (a : α) : Tbl α := (List.range n).map fun i => (i, a)

theorem fullTbl_get {α : Type} (a : α) (n i : Nat) (h : i < n) : (fullTbl n a).get i = some a := by
  have H : ∀ (l : List Nat), i ∈ l → Tbl.get (l.map fun i => (i, a)) i = some a := by
    intro l
    induction l with
    | nil => simp
    | cons k t ih =>
      intro hi
      by_cases e : i = k
      · simp [Tbl.get, e]
      · simpa [Tbl.get, e] using ih (by simpa [e] using hi)
  exact H _ (by simpa using h)

theorem fullTbl_full {α : Type} (n : Nat) (a : α) : (fullTbl n a).lowestFree n = none := by
  have H : ∀ fuel i, i + fuel ≤ n → (fullTbl n a).freeFrom fuel i = none := by
    intro fuel
    induction fuel with
    | zero => intros; rfl
    | succ k ih =>
      intro i h
      simp [Tbl.freeFrom, fullTbl_get a n i (by omega), ih (i + 1) (by omega)]
  exact H n 0 (by omega)

/-- A bay can be given any drive unit and any messages; what a statement assumes of them is then all it
assumes. -/
theorem bay_any (b : Bay) (u : DriveUnit) (m : BayMail) :
    (bay b u m).unit b = u ∧ (bay b u m).bmail b = m := by
  simp [bay]

/-! ### Ill-formed commands are refused -/

theorem test_wellFormed_delivery_timer : (Instr.deliveryTimerExpiry 1024).wellFormed = false ∧
    (Instr.deliveryTimerExpiry 1023).wellFormed = true := by decide

theorem test_wellFormed_wait_timer : (Instr.waitTimerExpiry 256).wellFormed = false ∧
    (Instr.waitTimerExpiry 255).wellFormed = true := by decide

theorem test_wellFormed_term : (Instr.termExpiry 1024).wellFormed = false ∧
    (Instr.termExpiry 1023).wellFormed = true := by decide

theorem test_wellFormed_grace : (Instr.graceExpiry 1024).wellFormed = false ∧
    (Instr.graceExpiry 1023).wellFormed = true := by decide

theorem test_wellFormed_fetch :
    (Instr.fetchCompletion 0 0 (.good (List.replicate 257 0))).wellFormed = false ∧
    (Instr.fetchCompletion 0 0 (.good (List.replicate 256 0))).wellFormed = true ∧
    (Instr.fetchCompletion 0 0 (.media (List.replicate 256 0))).wellFormed = false ∧
    (Instr.fetchCompletion 0 0 (.media (List.replicate 255 0))).wellFormed = true := by
  decide +kernel

theorem test_wellFormed_store : (Instr.storeCompletion 0 0 (.media 256)).wellFormed = false ∧
    (Instr.storeCompletion 0 0 (.media 255)).wellFormed = true := by decide

theorem test_wellFormed_probe : (Instr.probeCompletion 0 0 (.media 256)).wellFormed = false ∧
    (Instr.probeCompletion 0 0 (.media 255)).wellFormed = true := by decide

theorem test_wellFormed_zero : (Instr.zeroCompletion 0 0 (.media 256)).wellFormed = false ∧
    (Instr.zeroCompletion 0 0 (.media 255)).wellFormed = true := by decide

theorem test_wellFormed_spinUp : (Instr.spinUpCompletion 0 0 (.media 256)).wellFormed = false ∧
    (Instr.spinUpCompletion 0 0 .good).wellFormed = true := by decide

theorem test_wellFormed_spinDown : (Instr.spinDownCompletion 0 0 (.media 256)).wellFormed = false ∧
    (Instr.spinDownCompletion 0 0 .good).wellFormed = true := by decide

/-! ### Witnesses: the machine, farm ports and the classifier -/

theorem witness_IdleStep :
    State.reset.pending = [] ∧ (∀ d ∈ State.reset.latest, State.reset.now < d) ∧
    ∀ s, s = bay 0 { rdy 0 with idleTimer := some 5 } {} →
      s.pending = [] ∧ s.now ∈ [0] ∧ (5 + tens 1) ∈ s.latest ∧ ∀ d ∈ s.latest, s.now < d := by
  refine ⟨by decide +kernel, by decide +kernel, ?_⟩
  rintro s rfl
  decide +kernel

/-- A FETCH of two blocks in flight on bay 0. -/
def fetching : State :=
  bay 0
    { rdy 0 with
      state := .active, inFlight := some (4, .fetch 8 2),
      hand := some {
        piece := { num := 1, serial := 1 }, kind := .read, start := 8, length := 2, data := [],
        done := 0 } } {}

theorem witness_ExecAnswers :
    ¬ ImpossibleCompletion .borrow State.reset ∧
    ImpossibleCompletion (.fetchCompletion 0 4 (.media [0, 0])) fetching := by
  refine ⟨by simp [ImpossibleCompletion], 8, 2, ?_⟩
  simp only [exists_and_left]
  exact ⟨by decide +kernel,
    { piece := { num := 1, serial := 1 }, kind := .read, start := 8, length := 2, data := [],
      done := 0 }, by decide +kernel, Or.inr ⟨_, rfl, by decide⟩⟩

theorem witness_PowerOn :
    (0x800000 : BitVec 24).getLsbD (23 : Bay).val = true ∧
    (0x800000 : BitVec 24).getLsbD (0 : Bay).val = false := by decide

/-- An END frame, and a frame of `n` bytes after its header that is none. -/
def endF : OutFrame := OutFrame.build 0xA0 { Header.blank with kind := 0x22 } (.bytes [])
def plainF (n : Nat) : OutFrame :=
  OutFrame.build 0xA0 { Header.blank with kind := 0x20 } (.bytes (List.replicate n 0))

/-- An egress queue with 962 bytes of general room left. -/
def nearlyFull : FarmPort :=
  { upPort with egress := [OutFrame.build 0xA0 { Header.blank with kind := 0x21 }
      (.blocks (List.replicate 56 0))] }

theorem witness_PlacingLaw :
    ((State.reset.port 0).up = false ∧ endF.isEnd = true ∧ (plainF 0).isEnd = false) ∧
    ((onPort 0 upPort).port 0).up = true ∧
    (((onPort 0 nearlyFull).port 0).up = true ∧
      (plainF 900).length = ((onPort 0 nearlyFull).port 0).roomFree ∧
      ((onPort 0 nearlyFull).port 0).roomFree < (plainF 901).length ∧
      (plainF 901).isEnd = false) ∧
    (part.node? 0 = some nodeA ∧ nodeA.lastPort = some 2) ∧
    ({ part with nodes := [(0, { nodeA with lastPort := none })] }.node? 0 =
      some { nodeA with lastPort := none }) := by
  decide +kernel

theorem witness_LinkChange :
    ((onPort 3 upPort).port 3).up = true ∧ (State.reset.port 0).up = false := by decide +kernel

theorem witness_IngressFrame :
    ((State.reset.port 0).up = false) ∧
    (((ing (List.replicate 13 9000 ++ [4862])).port 0).up = true ∧ (inF 9000).type = .alt ∧
      (inF 9000).payload.length = 9000 ∧ (inF 9000).good = true ∧
      ((ing (List.replicate 13 9000 ++ [4862])).port 0).fill + (inF 9000).length = 131072) ∧
    (((ing (List.replicate 10 9000)).port 0).pausing = false ∧
      ((ing (List.replicate 10 9000)).port 0).off < ((ing (List.replicate 10 9000)).port 0).on ∧
      ((ing (List.replicate 10 9000)).port 0).on * 1024 + 1 =
        ((ing (List.replicate 10 9000)).port 0).fill + (inF 8151).length ∧
      ((ing (List.replicate 10 9000)).port 0).fill + (inF 8150).length =
        ((ing (List.replicate 10 9000)).port 0).on * 1024 ∧
      ((ing (List.replicate 10 9000)).port 0).wire = .idle ∧
      ((ing (List.replicate 10 9000)).port 0).pauseOut = []) ∧
    (((ing (List.replicate 10 9000) .frame).port 0).wire ≠ .idle ∧
      ((ing (List.replicate 10 9000) .frame).port 0).pausing = false ∧
      ((ing (List.replicate 10 9000) .frame).port 0).on * 1024 <
        ((ing (List.replicate 10 9000) .frame).port 0).fill + (inF 8151).length) ∧
    ({ inF 9000 with good := false }.good = false) ∧
    (9001 = (inF 9001).payload.length ∧ ((ing []).port 0).up = true ∧
      ((ing [0]).port 0).fill + 9014 < 131072 ∧
      ((ing (List.replicate 13 9000 ++ [4861])).port 0).fill + 9014 < 131072) ∧
    (((ing (List.replicate 13 9000 ++ [4863])).port 0).up = true ∧
      131072 < ((ing (List.replicate 13 9000 ++ [4863])).port 0).fill +
        min 9014 (inF 9000).length) ∧
    ({ inF 46 with type := .other }.type = .other) ∧
    ∀ good f, f = { inF 0 with type := .pause 5, good := good } →
      f.type = .pause 5 ∧ f.good = good := by
  simp only [ing_fill, InFrame.length, inF, List.length_replicate]
  refine ⟨?_, ?_, ?_, ?_, ?_, ?_, ?_, ?_, ?_⟩
  rotate_right
  · rintro good f rfl
    exact ⟨rfl, rfl⟩
  all_goals decide +kernel

theorem witness_PauseEvents :
    (((onPort 0 upPort).port 0).up = true ∧ (1 : BitVec 16) ≠ 0 ∧ (65535 : BitVec 16) ≠ 0 ∧
      ((onPort 0 nearlyFull).port 0).wire = .idle ∧
      ((onPort 0 nearlyFull).port 0).pauseOut = [] ∧ ((onPort 0 nearlyFull).port 0).egress ≠ []) ∧
    (((onPort 0 { nearlyFull with receivedPause := some 0 }).port 0).receivedPause = some 0 ∧
      0 ≤ (onPort 0 { nearlyFull with receivedPause := some 0 }).now) ∧
    (∀ s, s = onPort 0 { upPort with pausing := true, repeatTimer := some 0 } →
      (s.port 0).up = true ∧ (s.port 0).pausing = true ∧ (s.port 0).repeatTimer = some 0 ∧
      0 ≤ s.now ∧ (s.port 0).pauseOut = [] ∧ (s.port 0).wire = .idle) ∧
    ({ upPort with pausing := true, repeatTimer := some 0, wire := .frame }.wire ≠ .idle) ∧
    (∀ s, s = (onPort 0 upPort).setPmail 0 { thresholds := [(24, 16)] } →
      (s.pmail 0).thresholds = [(24, 16)] ∧ 16 < 24 ∧ (s.port 0).up = true ∧
      (s.port 0).pausing = false) ∧
    ∀ s, s = (onPort 0 { upPort with pausing := true }).setPmail 0 { thresholds := [(120, 112)] } →
      (s.pmail 0).thresholds = [(120, 112)] ∧ (s.port 0).up = true ∧ (s.port 0).pausing = true := by
  refine ⟨by decide +kernel, by decide +kernel, ?_, by decide +kernel, ?_, ?_⟩ <;> rintro s rfl <;>
    decide +kernel

theorem witness_TransmissionEnd :
    (∀ s, s = onPort 0 { upPort with wire := .frame, egress := [endF, plainF 0] } →
      (s.port 0).up = true ∧ (s.port 0).wire = .frame ∧ (s.port 0).egress = [endF, plainF 0] ∧
      endF.isEnd = true ∧ (s.port 0).pauseOut = []) ∧
    (∀ s, s = onPort 0 { upPort with wire := .frame, egress := [plainF 0], pauseOut := [65535] } →
      (s.port 0).wire = .frame ∧ (s.port 0).egress = [plainF 0] ∧ (plainF 0).isEnd = false ∧
      (s.port 0).pauseOut = [65535]) ∧
    (State.reset.port 0).wire = .idle := by
  refine ⟨?_, ?_, by decide +kernel⟩ <;> rintro s rfl <;> decide +kernel

/-- A pause frame has been sent: with another waiting, with a frame free to go or held by a received pause,
and with nothing to send. -/
theorem witness_TransmissionEnd_pause :
    ∀ p ∈ [{ upPort with pauseOut := [65535], egress := [endF] }, { upPort with egress := [endF] },
        { upPort with egress := [endF], receivedPause := some 9 }, upPort],
      ∀ s q, s = onPort 0 { p with wire := .pause 0 } → q = s.port 0 →
      q.up = true ∧ q.wire = .pause 0 ∧ q.pauseOut = p.pauseOut ∧ q.egress = p.egress ∧
      q.receivedPause = p.receivedPause := by
  rintro p hp s q rfl rfl
  revert p
  decide +kernel

/-- A part whose channels to the agent are empty, and one with a notice at the head of each. -/
def noted : State :=
  let n : AgentMsg := .notice (.clearDone 1 1)
  { bay 0 DriveUnit.absent { unitToAgent := [n], svcToAgent := [n] } with
    mail := { State.reset.mail with lmToAgent := [n], ruToAgent := [n], nodeToAgent := [n] } }

theorem reset_ChannelLaw : ChannelLaw State.reset := by
  refine ⟨by decide, by decide, by decide, by decide +kernel⟩

theorem noted_ChannelLaw : ChannelLaw noted := by
  refine ⟨by decide, by decide, by decide, by decide +kernel⟩

theorem witness_MessagesToAgent :
    ChannelLaw State.reset ∧ ChannelLaw noted ∧ AgentMsg.waits .resetFinished = true ∧
    noted.mail.lmToAgent ≠ [] ∧ noted.mail.ruToAgent ≠ [] ∧ noted.mail.nodeToAgent ≠ [] ∧
    (noted.bmail 0).unitToAgent ≠ [] ∧ (noted.bmail 0).svcToAgent ≠ [] ∧
    State.reset.mail.lmToAgent = [] ∧ State.reset.mail.nodeToAgent = [] ∧
    (State.reset.bmail 0).unitToAgent = [] ∧ (State.reset.bmail 0).svcToAgent = [] ∧
    State.reset.agent.slot = none ∧
    (asked (request 3) [] State.reset).agent.slot = some { addr := 0xB0, port := 3, seq := 7 } := by
  refine ⟨reset_ChannelLaw, noted_ChannelLaw, ?_⟩
  decide +kernel

/-- The lists of requests in progress of the clauses on drains: a reset that waits for the drain answered,
and one that waits for another drain too. -/
theorem witness_MessagesToAgent_drains :
    ∀ w ∈ [[1], [1, 3]], ∀ l, l = [⟨1, 7, .drain 0xA0⟩, ⟨2, 8, .reset w true⟩, ⟨3, 9, .drain 0xC0⟩] →
      l.filter (fun e => e.drains 0xA0) = l.take 1 ∧
      l.filter (fun e => !e.drains 0xA0) = l.drop 1 ∧
      (w = [1] → Entry.Splits (l.drop 1) [⟨2, 8, .reset w true⟩] [⟨3, 9, .drain 0xC0⟩]) ∧
      (w = [1, 3] → Entry.Splits (l.drop 1) [] (l.drop 1)) := by
  unfold Entry.Splits
  rintro w hw l rfl
  revert w
  decide

/-- Port 2 has one complete frame of a source; port 0 was served last. -/
def arrived (f : InFrame) : State :=
  { part with cls := { lastServed := 0, passed := none } }.setPort 2 { upPort with ingress := [f] }

theorem arrived_serves (f : InFrame) : (arrived f).Serves 2 f [] := by
  have h : (arrived f).port 2 = { upPort with ingress := [f] } := by simp [arrived]
  refine ⟨rfl, by rw [h], ?_, [1], [3, 0], rfl, ?_⟩
  · rw [h]
    simp [FarmPort.eligible, upPort, FarmPort.powerOn]
  · simp only [List.mem_singleton, forall_eq]
    rfl

/-- Port 2 PAUSING with an OFF threshold of 1 KiB, a frame to take and a frame behind it. -/
def pausingAt (f g : InFrame) (w : Wire) : State :=
  { part with cls := { lastServed := 0, passed := none } }.setPort 2 { upPort with
    ingress := [f, g], pausing := true, repeatTimer := some 5, off := 1, wire := w }

/-- The hypotheses of the clauses on the pause state, at the two fills about the threshold. -/
theorem witness_ClassifyPasses_pause :
    ∀ n w, n = 1010 ∨ n = 1011 → w = Wire.idle ∨ w = .frame →
      (pausingAt (frame 0xC0 (request 3) []) (inF n) w).Serves 2 (frame 0xC0 (request 3) []) [inF n] ∧
      ∀ p, p = (pausingAt (frame 0xC0 (request 3) []) (inF n) w).port 2 →
        p.up = true ∧ p.pausing = true ∧ p.pauseOut = [] ∧ p.wire = w ∧
        (n = 1010 → ([inF n].map InFrame.length).sum ≤ p.off * 1024) ∧
        (n = 1011 → p.off * 1024 < ([inF n].map InFrame.length).sum) := by
  intro n w hn hw
  have h : (pausingAt (frame 0xC0 (request 3) []) (inF n) w).port 2 = { upPort with
      ingress := [frame 0xC0 (request 3) [], inF n], pausing := true, repeatTimer := some 5, off := 1,
      wire := w } := by simp [pausingAt]
  refine ⟨⟨rfl, by rw [h], ?_, [1], [3, 0], rfl, ?_⟩, ?_⟩
  · rw [h]
    simp [FarmPort.eligible, upPort, FarmPort.powerOn]
  · simp only [List.mem_singleton, forall_eq]
    rfl
  · rintro p rfl
    rw [h]
    have hl : ([inF n].map InFrame.length).sum = 14 + n := by simp [InFrame.length, inF]
    rw [hl]
    refine ⟨rfl, rfl, rfl, rfl, ?_, ?_⟩ <;> rintro rfl <;> simp

/-- A BORROW of volume 42 for reading. -/
def borrowH (limit : BitVec 32) : Header :=
  { Header.blank with kind := 0x01, tag := 5, volume := 42, code := 1, valueA := limit }

/-- A READ at offset 250 with count field 0. -/
def readH : Header := { Header.blank with kind := 0x10, tag := 5, handle := 0x0283, offset := 250 }

theorem witness_ClassifyPasses :
    (∀ f, f = frame 0xA0 (borrowH 0) [] ∨ f = frame 0xA0 readH [] →
      ∃ s : State, s.Serves 2 f [] ∧ f.kind ≠ some 0x30 ∧ s.beingForgotten f.src = false ∧
        s.nodeByAddr f.src = some (0, nodeA) ∧ nodeA.state ≠ .halted ∧
        malformed f.payload = none) ∧
    (∃ (s : State) (f : InFrame) (h : Header), s.Serves 2 f [] ∧ f.kind = some 0x30 ∧
      Header.parse f.payload = some h ∧ s.managerSource h f.src = true) ∧
    (∀ f, f = frame 0xC0 { request 3 with kind := 0x30 } [] ∨
        f = { inF 47 with payload := List.replicate 47 0x30 } →
      ∃ s : State, s.Serves 2 f [] ∧ f.kind = some 0x30 ∧ s.agent.wait ≠ .free) ∧
    (∃ (s : State) (f : InFrame), s.Serves 2 f [] ∧ f.kind ≠ some 0x30 ∧
      s.beingForgotten f.src = true) ∧
    (toLm (borrowH 0) part).cls.passed ≠ none ∧ ∀ p, (State.reset.port p).eligible = false := by
  refine ⟨?_, ?_, ?_, ?_, by decide +kernel, by decide +kernel⟩
  · rintro f (rfl | rfl) <;> refine ⟨_, arrived_serves _, ?_⟩ <;> decide +kernel
  · exact ⟨_, frame 0xB0 { request 1 with kind := 0x30 } [], { request 1 with kind := 0x30 },
      arrived_serves _, by decide +kernel, by decide +kernel, by decide +kernel⟩
  · intro f h
    refine ⟨(arrived f).setWait .status, arrived_serves f, ?_, by simp [State.setWait]⟩
    rcases h with rfl | rfl <;> decide +kernel
  · exact ⟨(arrived (frame 0xA0 readH [])).setWait (.forgetCount 1 0xA0 0), _,
      arrived_serves (frame 0xA0 readH []), by decide +kernel, by decide +kernel⟩

theorem witness_ClassifyDiscards :
    (∃ (s : State) (f : InFrame), s.Serves 2 f [] ∧ f.kind ≠ some 0x30 ∧
      s.beingForgotten f.src = false ∧ s.nodeByAddr f.src = none) ∧
    (∃ (s : State) (f : InFrame) (e : Node), s.Serves 2 f [] ∧ f.kind ≠ some 0x30 ∧
      s.beingForgotten f.src = false ∧ s.nodeByAddr f.src = some (0, e) ∧ e.state = .halted) ∧
    (∃ (s : State) (f : InFrame) (h : Header), s.Serves 2 f [] ∧ f.kind = some 0x30 ∧
      s.agent.wait = .free ∧ Header.parse f.payload = some h ∧ s.managerSource h f.src = false) ∧
    (∃ (s : State) (f : InFrame), s.Serves 2 f [] ∧ f.kind = some 0x30 ∧ s.agent.wait = .free ∧
      Header.parse f.payload = none) ∧
    (∀ st, st = NodeState.admitted ∨ st = NodeState.draining →
      ∃ (s : State) (f : InFrame) (e : Node), s.Serves 2 f [] ∧ f.kind ≠ some 0x30 ∧
        s.beingForgotten f.src = false ∧ ChannelLaw s ∧ s.nodeByAddr f.src = some (0, e) ∧
        e.state = st ∧ e.state ≠ .halted ∧ malformed f.payload = some .shortHeader) := by
  refine ⟨?_, ?_, ?_, ?_, ?_⟩
  · exact ⟨_, frame 0xC0 readH [], arrived_serves _, by decide +kernel⟩
  · exact ⟨{ arrived (frame 0xA0 readH []) with nodes := [(0, { nodeA with state := .halted })] },
      _, _, arrived_serves (frame 0xA0 readH []), by decide +kernel, by decide +kernel,
      (by decide +kernel : _ = some (0, { nodeA with state := .halted })), rfl⟩
  · exact ⟨_, frame 0xB0 (request 3) [], request 3, arrived_serves _, by decide +kernel⟩
  · exact ⟨_, { inF 47 with payload := List.replicate 47 0x30 }, arrived_serves _, by decide +kernel⟩
  · rintro st (rfl | rfl)
    · exact ⟨_, _, nodeA, arrived_serves (inF 47), by decide +kernel, by decide +kernel,
        ⟨by decide, by decide, by decide, by decide +kernel⟩, by decide +kernel⟩
    · exact ⟨{ arrived (inF 47) with nodes := [(0, { nodeA with state := .draining })] }, _,
        { nodeA with state := .draining }, arrived_serves (inF 47), by decide +kernel,
        by decide +kernel, ⟨by decide, by decide, by decide, by decide +kernel⟩, by decide +kernel⟩

/-! ### Witnesses: the lending protocol -/

/-- A WRITE loan of another node on volume 42. -/
def loanB : Loan := { loanA with holder := 1, mode := .write }

/-- What every clause of a BORROW statement assumes. -/
def borrows (s : State) (h : Header) (m : LoanMode) (vol : Volume) (e : Node) : Prop :=
  s.lendingFrame 0x01 = some (0, h) ∧ s.node? 0 = some e ∧ LoanMode.ofValue h.code = some m ∧
  s.volume? h.volume.toNat = some vol

/-- And that every check passes. -/
def borrowsWell (s : State) (h : Header) (m : LoanMode) (vol : Volume) (e : Node) : Prop :=
  borrows s h m vol e ∧ s.borrowCheck 0 e h.volume.toNat m = none

/-- All loan entries in use, by loans on another volume. -/
def loansFull (s : State) : State :=
  { s with lm := { s.lm with loans := fullTbl 1024 { loanA with holder := 3, volume := 5 } } }

theorem loansFull_full (s : State) : (loansFull s).lm.loans.lowestFree 1024 = none := by
  simp only [loansFull, fullTbl_full]

/-- All waiting records in use, for another volume. -/
def waitsFull (s : State) : State :=
  { s with lm := { s.lm with
      waits := fullTbl 256 { node := 3, volume := 5, mode := .read, deadline := 0 } } }

theorem waitsFull_full (s : State) : (waitsFull s).lm.waits.lowestFree 256 = none := by
  simp only [waitsFull, fullTbl_full]

theorem witness_BorrowAdmitted :
    (∀ s, s = toLm (borrowH 0) part →
      borrowsWell s (borrowH 0) .read vol42 nodeA ∧ vol42.waitList = [] ∧
      s.compatible 42 .read = true ∧ s.lm.loans.lowestFree 1024 = some 0) ∧
    (∀ s, s = toLm (borrowH 0) (loansFull part) →
      borrowsWell s (borrowH 0) .read vol42 nodeA ∧ s.compatible 42 .read = true ∧
      s.lm.loans.lowestFree 1024 = none) ∧
    (∀ limit s, limit = 0 ∨ limit = 1 ∨ limit = 601 → s = toLm (borrowH limit) (lent loanB) →
      borrowsWell s (borrowH limit) .read { vol42 with state := .lent, loanCount := 1 } nodeA ∧
      s.compatible 42 .read = false ∧ (borrowH limit).valueA = limit ∧
      s.lm.waits.lowestFree 256 = some 0) ∧
    ∀ s, s = toLm (borrowH 1) (waitsFull (lent loanB)) →
      borrowsWell s (borrowH 1) .read { vol42 with state := .lent, loanCount := 1 } nodeA ∧
      s.compatible 42 .read = false ∧ (borrowH 1).valueA ≠ 0 ∧
      s.lm.waits.lowestFree 256 = none := by
  refine ⟨?_, ?_, ?_, ?_⟩
  · rintro s rfl
    unfold borrowsWell borrows
    decide +kernel
  · rintro s rfl
    refine ⟨?_, by decide +kernel, loansFull_full part⟩
    unfold borrowsWell borrows
    decide +kernel
  · rintro limit s (rfl | rfl | rfl) rfl <;> unfold borrowsWell borrows <;> decide +kernel
  · rintro s rfl
    refine ⟨?_, by decide +kernel, by decide, waitsFull_full (lent loanB)⟩
    unfold borrowsWell borrows
    decide +kernel

theorem witness_BorrowRefused :
    (toLm (borrowH 0) { part with lm := State.reset.lm }).volume? 42 = none ∧
    (toLm (borrowH 0) { part with lm := State.reset.lm }).lendingFrame 0x01 = some (0, borrowH 0) ∧
    (∀ h : Header, h = { borrowH 0 with code := 3 } →
      borrows (toLm h part) h .sole vol42 nodeA ∧ vol42.cls.allows .sole = false) ∧
    (∀ e, e = { nodeA with state := .drained } ∨ e = { nodeA with state := .draining } →
      borrows (toLm (borrowH 0) (part.setNode 0 e)) (borrowH 0) .read vol42 e ∧
      vol42.cls.allows .read = true ∧ (e.state = .draining ∨ e.state = .drained)) ∧
    (∀ s vol, s = toLm (borrowH 0) (lent loanA) → vol = { vol42 with state := .lent, loanCount := 1 } →
      borrows s (borrowH 0) .read vol nodeA ∧ s.loanOn 0 42 = some (10, loanA)) ∧
    (∀ s vol, vol = { vol42 with waitList := [255] } →
      s = toLm (borrowH 0) ((part.setVolume 42 vol).setRecord 255
        { node := 0, volume := 42, mode := .read, deadline := 0 }) →
      borrows s (borrowH 0) .read vol nodeA ∧ s.loanOn 0 42 = none ∧ s.recordOn 0 42 = some 255) ∧
    (∀ s e, e = { nodeA with loanWait := 8 } → s = toLm (borrowH 0) (part.setNode 0 e) →
      borrows s (borrowH 0) .read vol42 e ∧ s.loanOn 0 42 = none ∧ s.recordOn 0 42 = none ∧
      8 ≤ e.loanWait) ∧
    (∀ s e, e = { nodeA with loanWait := 7 } →
      s = toLm (borrowH 0) ((part.setNode 0 e).setLmBay 9 {}) →
      borrows s (borrowH 0) .read vol42 e ∧ e.loanWait < 8 ∧ s.impaired vol42 = true) ∧
    ∀ s vol, vol = { vol42 with state := .clearFailed } →
      s = toLm (borrowH 0) (part.setVolume 42 vol) →
      borrows s (borrowH 0) .read vol nodeA ∧ vol.state = .clearFailed := by
  unfold borrows
  refine ⟨by decide +kernel, by decide +kernel, ?_, ?_, ?_, ?_, ?_, ?_, ?_⟩
  · rintro h rfl
    decide +kernel
  · rintro e (rfl | rfl) <;> decide +kernel
  · rintro s vol rfl rfl
    decide +kernel
  · rintro s vol rfl rfl
    decide +kernel
  · rintro s e rfl rfl
    decide +kernel
  · rintro s e rfl rfl
    decide +kernel
  · rintro s vol rfl rfl
    decide +kernel

/-- A RENEW or RETURN for handle 0283h, or another. -/
def loanH (kind : Byte) (handle : BitVec 16) : Header :=
  { Header.blank with kind := kind, tag := 6, handle := handle }

theorem witness_RenewAndReturn :
    (∀ k, k = 0x02 ∨ k = 0x03 →
      (toLm (loanH k 0x0283) (lent loanA)).lendingFrame k = some (0, loanH k 0x0283) ∧
      (toLm (loanH k 0x0283) (lent loanA)).loanOf 0x0283 0 = some loanA ∧ loanA.outstanding = 0 ∧
      (toLm (loanH k 0x0284) (lent loanA)).lendingFrame k = some (0, loanH k 0x0284) ∧
      (toLm (loanH k 0x0284) (lent loanA)).loanOf 0x0284 0 = none ∧
      (toLm (loanH k 0x0283) (lent loanB)).loanOf 0x0283 0 = none ∧
      ∀ st, st = .ending .recalled ∨ st = .recalling 5 →
        (toLm (loanH k 0x0283) (lent { loanA with state := st, outstanding := 1 })).loanOf 0x0283 0 =
          some { loanA with state := st, outstanding := 1 }) ∧
    (lent loanA).volume? loanA.volume = some { vol42 with state := .lent, loanCount := 1 } ∧
    (LoanState.recalling 5).isEnding = false := by
  refine ⟨?_, by decide +kernel, by decide⟩
  rintro k (rfl | rfl) <;> refine ⟨by decide +kernel, by decide +kernel, by decide +kernel,
    by decide +kernel, by decide +kernel, by decide +kernel, ?_⟩ <;> rintro st (rfl | rfl) <;>
    decide +kernel

/-- A claim for a handle waits at the loan manager. -/
def claimed (handle : BitVec 16) (l : Loan) : State :=
  { lent l with mail := { (lent l).mail with claim := some { handle := handle, node := 0 } } }

theorem witness_LoanClaim :
    (∀ h, h = 0x0283 ∨ h = 0x0284 ∨ h = 0xFFFF →
      (claimed h loanA).mail.claim = some { handle := h, node := 0 }) ∧
    (claimed 0x0284 loanA).loanOf 0x0284 0 = none ∧
    (claimed 0xFFFF loanA).loanOf 0xFFFF 0 = none ∧
    (claimed 0x0283 loanA).loanOf 0x0283 0 = some loanA ∧ loanA.state = .held ∧
    (claimed 0x0283 loanA).volume? loanA.volume =
      some { vol42 with state := .lent, loanCount := 1 } ∧
    ∀ st, st = .ending .reset ∨ st = .recalling 0 →
      (claimed 0x0283 { loanA with state := st }).loanOf 0x0283 0 =
        some { loanA with state := st } := by
  refine ⟨?_, by decide +kernel, by decide +kernel, by decide +kernel, rfl, by decide +kernel, ?_⟩
  · rintro h (rfl | rfl | rfl) <;> rfl
  · rintro st (rfl | rfl) <;> decide +kernel

/-- A report that the loan of a handle has fallen quiet waits at the loan manager. -/
def quiet (h : BitVec 16) (s : State) : State :=
  { s with mail := { s.mail with quietLoans := [h] } }

/-- A SCRATCH volume 3 on loan in entry 0 to node 0, the loan ENDING; of its bays only bay 7 is READY. -/
def scrEnding (vol : Volume) : State :=
  let s := State.reset.setUnit 7 (rdy 7)
  { s with
    nodes := [(0, { nodeA with loanWait := 1 })],
    lm := { s.lm with
      volumes := [(3, vol)],
      loans := [(0, { loanA with volume := 3, mode := .sole, state := .ending .returned })] } }

theorem witness_LoanFreed :
    (∀ s, s = quiet 0x0283 (lent loanA) → s.mail.quietLoans = [0x0283] ∧
      s.currentLoan 0x0283 = some loanA ∧ loanA.state.isEnding = false ∧ s.loan? 0 = none) ∧
    (quiet 0x0284 (lent loanA)).currentLoan 0x0284 = none ∧
    (∀ s l vol w, w = [] ∨ w = [0] → l = { loanA with state := .ending .expired } →
      vol = { vol42 with state := .lent, loanCount := 1, waitList := w } →
      s = quiet 0x0283 ((lent l).setVolume 42 vol) →
      s.currentLoan 0x0283 = some l ∧ l.state.isEnding = true ∧ l.outstanding = 0 ∧
      s.loan? 10 = some l ∧
      s.volume? l.volume = some vol ∧ s.node? l.holder = some nodeA ∧ vol.waitList = w ∧
      s.lm.retry = [] ∧ s.lm.resetShare = false ∧ vol.cls ≠ .scratch) ∧
    ∀ s l vol n segs, n = 1 ∨ n = 2 → segs = [seg 7 0 256] ∨ segs = [seg 7 0 256, seg 8 0 1] →
      vol = { volScr with loanCount := n, segments := segs } →
      l = { loanA with volume := 3, mode := .sole, state := .ending .returned } →
      s = quiet 0 (scrEnding vol) →
      s.mail.quietLoans = [0] ∧ s.currentLoan 0 = some l ∧ s.loan? 0 = some l ∧
      l.state.isEnding = true ∧
      l.outstanding = 0 ∧ s.volume? l.volume = some vol ∧
      s.node? l.holder = some { nodeA with loanWait := 1 } ∧ s.lm.retry = [] ∧
      s.lm.resetShare = false ∧ vol.cls = .scratch ∧ vol.loanCount = n ∧ vol.segments = segs ∧
      s.served (seg 7 0 256) = true ∧ s.served (seg 8 0 1) = false ∧
      (s.lmBay 7).pendingClear = [] ∧ (s.lmBay 7).listed < 8 := by
  refine ⟨?_, by decide +kernel, ?_, ?_⟩
  · rintro s rfl
    decide +kernel
  · rintro s l vol w (rfl | rfl) rfl rfl rfl <;> decide +kernel
  · rintro s l vol n segs (rfl | rfl) (rfl | rfl) rfl rfl rfl <;> decide +kernel

theorem witness_LoanTimers :
    (∀ s, s = { lent loanA with now := secs 60 } ∨
        s = { asked (request 3) [] (lent loanA) with now := secs 60 } →
      s.loan? 10 = some loanA ∧ loanA.state = .held ∧ loanA.termDeadline = s.now ∧ ChannelLaw s) ∧
    (∀ s, s = { lent loanA with now := secs 60 - 1 } →
      s.loan? 10 = some loanA ∧ s.now < loanA.termDeadline) ∧
    ∀ l, l = { loanA with state := .recalling 5, outstanding := 1 } →
      { lent l with now := 5 }.loan? 10 = some l ∧ l.state = .recalling 5 ∧
      5 ≤ { lent l with now := 5 }.now ∧ { lent l with now := 4 }.loan? 10 = some l ∧
      { lent l with now := 4 }.now < 5 ∧ l.state ≠ .held := by
  refine ⟨?_, ?_, ?_⟩
  · rintro s (rfl | rfl) <;> exact ⟨by decide +kernel, rfl, by decide +kernel, by decide, by decide,
      by decide, by decide +kernel⟩
  · rintro s rfl
    decide +kernel
  · rintro l rfl
    decide +kernel

/-- Volume 42 with two waiting records, the head of node 0 for reading. -/
def waiting (vol : Volume) : State :=
  { part with lm := { part.lm with
      volumes := [(42, vol)],
      waits := [(0, { node := 0, volume := 42, mode := .read, deadline := 7 }),
                (1, { node := 1, volume := 42, mode := .write, deadline := 9 })] } }

theorem witness_WaitExpiry :
    ∀ vol : Volume, vol = { vol42 with waitList := [0, 1] } ∨ vol = { vol42 with waitList := [0] } ∨
        vol = { vol42 with waitList := [1, 0] } →
      (waiting vol).lm.waits.get 0 =
        some { node := 0, volume := 42, mode := .read, deadline := 7 } ∧
      (waiting vol).volume? 42 = some vol ∧ (waiting vol).node? 0 = some nodeA ∧
      7 ≤ { waiting vol with now := 7 }.now ∧ { waiting vol with now := 6 }.now < 7 ∧
      (waiting vol).lm.waits.get 2 = none := by
  rintro vol (rfl | rfl | rfl) <;> decide +kernel

/-- Volume 42 stands in the grant retry order, with node 0 waiting to read, and the loan entries `loans`
are in use. -/
def retrying (vol : Volume) (loans : Tbl Loan) : State :=
  { waiting vol with lm := { (waiting vol).lm with retry := [42], loans := loans } }

/-- Every loan entry but entry 0 is in use, for reading another volume. -/
def allButFirst : Tbl Loan :=
  (List.range 1023).map fun i => (i + 1, { loanA with holder := 3, volume := 5 })

theorem allButFirst_get (i : Nat) (h : i < 1023) : (allButFirst.get (i + 1)).isSome = true := by
  have H : ∀ (l : List Nat), i ∈ l → (Tbl.get (l.map fun i => (i + 1, { loanA with
      holder := 3, volume := 5 })) (i + 1)).isSome = true := by
    intro l
    induction l with
    | nil => simp
    | cons k t ih =>
      intro hi
      by_cases e : i = k
      · simp [Tbl.get, e]
      · simpa [Tbl.get, e] using ih (by simpa [e] using hi)
  exact H _ (by simpa using h)

theorem allButFirst_full (l : Loan) : Tbl.lowestFree ((0, l) :: allButFirst) 1024 = none := by
  have H : ∀ fuel i, i + fuel ≤ 1024 → Tbl.freeFrom ((0, l) :: allButFirst) fuel i = none := by
    intro fuel
    induction fuel with
    | zero => intros; rfl
    | succ k ih =>
      intro i h
      have : (Tbl.get ((0, l) :: allButFirst) i).isSome = true := by
        cases i with
        | zero => simp [Tbl.get]
        | succ i => simpa [Tbl.get] using allButFirst_get i (by omega)
      obtain ⟨x, hx⟩ := Option.isSome_iff_exists.1 this
      simp [Tbl.freeFrom, hx, ih (i + 1) (by omega)]
  exact H 1024 0 (by omega)

theorem allButFirst_set (l : Loan) : allButFirst.set 0 l = (0, l) :: allButFirst := by
  unfold allButFirst
  rw [List.range_succ_eq_map, List.map_cons]
  rfl

/-- The given loan entries are in use and two nodes wait to read. -/
def twoReaders (loans : Tbl Loan) : State :=
  (retrying { vol42 with waitList := [0, 2] } loans).setRecord 2
    { node := 2, volume := 42, mode := .read, deadline := 9 }

/-- With entry 0 alone free, the first reader is granted it and the volume stays in the retry order. -/
theorem twoReaders_retries (loans : Tbl Loan) (h0 : loans.get 0 = none)
    (hc : loans.all (fun e => e.2.volume != 42 || e.2.mode == .read) = true)
    (hs : ∀ l, loans.set 0 l = (0, l) :: loans)
    (hf : ∀ l, Tbl.lowestFree ((0, l) :: loans) 1024 = none) :
    42 ∈ ((twoReaders loans).grant 42).lm.retry := by
  have hl : (twoReaders loans).lm.loans = loans := rfl
  have hv : (twoReaders loans).volume? 42 = some { vol42 with waitList := [0, 2] } := rfl
  have hfree : loans.lowestFree 1024 = some 0 := by simp [Tbl.lowestFree, Tbl.freeFrom, h0]
  have hw : (twoReaders loans).lm.waits.get 0 =
      some { node := 0, volume := 42, mode := .read, deadline := 7 } := rfl
  have hcomp : (twoReaders loans).compatible 42 .read = true := rfl
  generalize hu : (twoReaders loans).grantRecord 42 0
      { node := 0, volume := 42, mode := .read, deadline := 7 } 0 = u
  have hul : ∃ l : Loan, l.mode = .read ∧ u.lm.loans = (0, l) :: loans := by
    subst hu
    exact ⟨_, rfl, hs _⟩
  obtain ⟨l, hm, hul⟩ := hul
  have huv : u.volume? 42 = some { vol42 with waitList := [2], loanCount := 1, state := .lent } := by
    subst hu
    rfl
  have huw : u.lm.waits.get 2 = some { node := 2, volume := 42, mode := .read, deadline := 9 } := by
    subst hu
    rfl
  have hur : u.lm.retry = [42] := by
    subst hu
    rfl
  have huc : u.compatible 42 .read = true := by
    simpa [State.compatible, huv, hul, hm] using hc
  simp [State.grant, State.grantEnd, hv, State.grantLoop, hw, hcomp, hl, hfree, hu, huw, huc, hul, hf,
    State.noteRetry, hur]

theorem witness_GrantFromHead :
    (part.volume? 42 = some vol42 ∧ vol42.waitList = [] ∧ part.lm.retry = []) ∧
    (∀ vol : Volume, vol = { vol42 with waitList := [0, 1] } →
      (waiting vol).volume? 42 = some vol ∧ vol.waitList.Nodup ∧
      (waiting vol).lm.waits.get 0 =
        some { node := 0, volume := 42, mode := .read, deadline := 7 } ∧
      (waiting vol).compatible 42 .read = true ∧
      (waiting vol).lm.loans.lowestFree 1024 = some 0 ∧
      (loansFull (waiting vol)).compatible 42 .read = true ∧
      (loansFull (waiting vol)).lm.loans.lowestFree 1024 = none) ∧
    (∀ vol : Volume, vol = { vol42 with waitList := [0, 1], state := .clearing } →
      (waiting vol).volume? 42 = some vol ∧ (waiting vol).compatible 42 .read = false) ∧
    (∀ vol s, vol = { vol42 with waitList := [0] } → s = retrying vol [] →
      s.lm.retry = [42] ∧ s.lm.loans.lowestFree 1024 ≠ none ∧ s.volume? 42 ≠ none ∧
      42 ∉ (s.grant 42).lm.retry) ∧
    ∀ s, s = twoReaders allButFirst →
      s.lm.retry = [42] ∧ s.lm.loans.lowestFree 1024 ≠ none ∧ s.volume? 42 ≠ none ∧
      42 ∈ (s.grant 42).lm.retry := by
  refine ⟨by decide +kernel, ?_, ?_, ?_, ?_⟩
  · rintro vol rfl
    exact ⟨by decide +kernel, by decide +kernel, by decide +kernel, by decide +kernel,
      by decide +kernel, by decide +kernel, loansFull_full _⟩
  · rintro vol rfl
    decide +kernel
  · rintro vol s rfl rfl
    decide +kernel
  · rintro s rfl
    exact ⟨rfl, by decide +kernel, by decide +kernel, twoReaders_retries _ (by decide +kernel)
      (by decide +kernel) allButFirst_set allButFirst_full⟩

/-- The agent's soft reset waits at the loan manager. -/
def resetting (l : Loan) : State :=
  { lent l with mail := { (lent l).mail with resetLm := true } }

theorem witness_LoanManagerReset :
    (∀ l, l = { loanA with outstanding := 1 } ∨ l = loanA ∨
        l = { loanA with state := .ending .returned } →
      (resetting l).mail.resetLm = true ∧ (resetting l).lm.loans.wf 1024 = true ∧
      (resetting l).lm.waits.wf 256 = true ∧
      (resetting l).loan? 10 = some l ∧
      ∀ v vol r, (resetting l).volume? v = some vol → r ∈ vol.waitList →
        ∃ w, (resetting l).lm.waits.get r = some w ∧ w.volume = v) ∧
    (∀ s, s = { waiting { vol42 with waitList := [1, 0] } with
        mail := { part.mail with resetLm := true } } →
      s.mail.resetLm = true ∧ s.lm.loans.wf 1024 = true ∧ s.lm.waits.wf 256 = true ∧
      (s.node? 0).isSome = true ∧ (s.lm.waits.filter fun x => x.2.node == 0).length = 1) ∧
    ∀ share st s, share = true ∨ share = false → st = LoanState.held ∨ st = .ending .reset →
      s = { lent { loanA with state := st } with
        lm := { (lent { loanA with state := st }).lm with resetShare := share } } →
      settledChannel s.mail.lmToAgent = true ∧ s.lm.resetShare = share ∧
      (st = .held → ∀ e ∈ s.lm.loans, e.2.state ≠ .ending .reset) ∧
      (st = .ending .reset → ∃ e ∈ s.lm.loans, e.2.state = .ending .reset) := by
  refine ⟨fun l hl => ⟨rfl, ?_, rfl, rfl, ?_⟩, ?_, ?_⟩
  · rcases hl with rfl | rfl | rfl <;> decide +kernel
  · intro v vol r hv hr
    by_cases e : v = 42
    · have : vol.waitList = [] := by
        simp [resetting, lent, State.volume?, Tbl.get, e] at hv
        simp [← hv, vol42]
      simp [this] at hr
    · simp [resetting, lent, State.volume?, Tbl.get, e] at hv
  · rintro s rfl
    decide +kernel
  · rintro share st s (rfl | rfl) (rfl | rfl) rfl <;> decide +kernel

theorem witness_HandleLaw : (10 < 1024 ∧ 3 < 64) ∧ (0 < 1024 ∧ 0 < 64) ∧ 1023 < 1024 ∧ 63 < 64 := by
  decide

/-! ### Witnesses: block requests -/

/-- A block request of node 0 for handle 0283h. -/
def blockH (k : ReqKind) (offset : BitVec 48) (count : BitVec 16) : Header :=
  { Header.blank with kind := k.code, tag := 5, handle := 0x0283, offset := offset, count := count }

/-- The hypotheses of an accepted request on volume 42. -/
def presents (s : State) (k : ReqKind) (h : Header) (l : Loan) (data : List Byte) : Prop :=
  let v := { vol42 with state := .lent, loanCount := 1 }
  s.requestFrame k.code = some (0, 2, h, data) ∧ s.node? 0 = some nodeA ∧
  s.checkLoan 0 nodeA k h = .inr (l, v) ∧
  s.checkPieces v (admittingOf 0 2 k h data l v).cuts = none

/-- A request is between its checks and the answer to its claim. -/
def admitting : Admitting :=
  admittingOf 0 2 .read { readH with count := 0 } [] loanA vol42

/-- The WRITE here carries one byte: the size of its payload is checked before the request unit takes it
(R148). -/
theorem witness_RequestPresented :
    (∀ h, h = blockH .read 250 0 ∨ h = blockH .read 1399 1 ∨ h = blockH .read 0 257 →
      presents (toRu h [] (lent loanA)) .read h loanA []) ∧
    (∀ h, h = { blockH .check 1399 0 with flags := 1 } ∨ h = blockH .check 0 0 ∨
        h = blockH .check 0 0xFFFF →
      presents (toRu h [] (lent loanA)) .check h loanA []) ∧
    (∀ h data, h = { blockH .write 0 1 with payloadLen := 1 } → data = [7] →
      presents (toRu h data (lent { loanA with mode := .write })) .write h
        { loanA with mode := .write } data) ∧
    { part with ru := { part.ru with admitting := some admitting } }.ru.admitting ≠ none := by
  refine ⟨?_, ?_, ?_, by decide⟩
  · rintro h (rfl | rfl | rfl) <;> unfold presents <;> decide +kernel
  · rintro h (rfl | rfl | rfl) <;> unfold presents <;> decide +kernel
  · rintro h data rfl rfl
    unfold presents
    decide +kernel

/-- The hypotheses of a refused request, with the node. -/
def refuses (s : State) (k : ReqKind) (h : Header) (e : Node) : Prop :=
  s.requestFrame k.code = some (0, 2, h, []) ∧ s.node? 0 = some e

/-- A request of node 0 in record 0, with its pieces in records 0 and 1. -/
def reqA : Request where
  node := 0
  tag := 5
  handle := 0x0283
  volume := 42
  kind := .read
  offset := 299
  countField := 2
  toEnd := false
  requested := 2
  effective := 2
  short := false
  port := 2
  state := .running
  overrun := false
  data := []
  pieces := [0, 1]

def piece0 (st : PieceState) : Piece :=
  { serial := 4, request := 0, bay := 5, start := 1000299, length := 1, window := 299, state := st,
    done := 0 }

def piece1 (st : PieceState) : Piece :=
  { serial := 5, request := 0, bay := 9, start := 50000, length := 1, window := 300, state := st,
    done := 0 }

/-- The request unit with that request; its node and its loan count it. -/
def work (q : Request) (p0 p1 : PieceState) : State :=
  let s := (lent { loanA with outstanding := 1 }).setNode 0
    { nodeA with tags := [5], outstanding := 1 }
  { s with ru := { s.ru with
      requests := [(0, q)], pieces := [(0, piece0 p0), (1, piece1 p1)] } }

theorem witness_RequestRefused :
    (∀ e s, e = { nodeA with state := .drained } → s = toRu readH [] ((lent loanA).setNode 0 e) →
      refuses s .read readH e ∧ e.state = .drained) ∧
    (∀ e s, e = { nodeA with tags := [5] } → s = toRu readH [] ((lent loanA).setNode 0 e) →
      refuses s .read readH e ∧ readH.tag ∈ e.tags ∧ e.state ≠ .draining ∧ e.state ≠ .drained) ∧
    (∀ s, s = toRu readH [] { lent loanA with
        ru := { part.ru with requests := fullTbl 512 { reqA with node := 3 } } } →
      refuses s .read readH nodeA ∧ readH.tag ∉ nodeA.tags ∧
      s.ru.requests.lowestFree 512 = none) ∧
    (∀ s, s = toRu readH [] part →
      refuses s .read readH nodeA ∧ s.ru.requests.lowestFree 512 = some 0 ∧
      s.loanOf readH.handle 0 = none) ∧
    (∀ l s, l = { loanA with state := .ending .recalled } → s = toRu readH [] (lent l) →
      refuses s .read readH nodeA ∧ s.loanOf readH.handle 0 = some l ∧ l.state.isEnding = true) ∧
    (∀ s h, h = blockH .write 0 1 → s = toRu h [] (lent loanA) →
      refuses s .write h nodeA ∧ s.loanOf h.handle 0 = some loanA ∧
      loanA.state.isEnding = false ∧ loanA.mode = .read) ∧
    (∀ s h v, h = blockH .read 1400 1 → s = toRu h [] (lent loanA) →
      v = { vol42 with state := .lent, loanCount := 1 } →
      refuses s .read h nodeA ∧ s.loanOf h.handle 0 = some loanA ∧
      s.volume? loanA.volume = some v ∧ v.window = h.offset.toNat) ∧
    (∀ s v cuts, v = { vol42 with state := .lent, loanCount := 1 } →
      cuts = (admittingOf 0 2 .read readH [] loanA v).cuts →
      s = toRu readH [] ((lent loanA).setUnit 9 { rdy 9 with state := .service }) →
      refuses s .read readH nodeA ∧ s.loanOf readH.handle 0 = some loanA ∧
      s.volume? loanA.volume = some v ∧ readH.offset.toNat < v.window ∧
      ∃ c ∈ cuts, s.cutServed v c = false) ∧
    (∀ s v cuts, v = { vol42 with state := .lent, loanCount := 1 } →
      cuts = (admittingOf 0 2 .read readH [] loanA v).cuts →
      s = toRu readH [] ((lent loanA).setUnit 9 { rdy 9 with state := .standby }) →
      refuses s .read readH nodeA ∧ s.volume? loanA.volume = some v ∧
      (∀ c ∈ cuts, s.cutServed v c = true) ∧ v.wake = false ∧
      ∃ c ∈ cuts, (s.unit c.bay).state.asleep = true) ∧
    ∀ s v cuts, v = { vol42 with state := .lent, loanCount := 1 } →
      cuts = (admittingOf 0 2 .read readH [] loanA v).cuts →
      s = toRu readH [] { lent loanA with
        ru := { part.ru with pieces := (List.range 63).map fun i => (i, piece0 .queued) } } →
      refuses s .read readH nodeA ∧ s.volume? loanA.volume = some v ∧
      (∀ c ∈ cuts, s.cutServed v c = true) ∧
      (∀ c ∈ cuts, (s.unit c.bay).state.asleep = false) ∧ s.hasRoomFor cuts = false := by
  unfold refuses
  refine ⟨?_, ?_, ?_, ?_, ?_, ?_, ?_, ?_, ?_, ?_⟩
  · rintro e s rfl rfl
    decide +kernel
  · rintro e s rfl rfl
    decide +kernel
  · rintro s rfl
    refine ⟨by decide +kernel, by decide +kernel, ?_⟩
    simp only [toRu, fullTbl_full]
  · rintro s rfl
    decide +kernel
  · rintro l s rfl rfl
    decide +kernel
  · rintro s h rfl rfl
    decide +kernel
  · rintro s h v rfl rfl rfl
    decide +kernel
  · rintro s v cuts rfl rfl rfl
    decide +kernel
  · rintro s v cuts rfl rfl rfl
    decide +kernel
  · rintro s v cuts rfl rfl rfl
    decide +kernel

def ref0 : PieceRef := { num := 0, serial := 4 }

def job (k : ReqKind) (n : Nat) : Job :=
  { piece := ref0, kind := k, start := 1000, length := n, data := List.replicate n 0, done := 0 }

theorem witness_WindowCut :
    250 + 256 ≤ vol42.window ∧ 0 + 1400 = vol42.window ∧ 1400 + 0 = vol42.window ∧
    (vol42.cut 250 256)[2]?.isSome = true ∧
    (∀ j k, j = job .read 2 ∧ k = 1001 ∨ j = job .write 2 ∧ k = 1000 ∨
        j = { job .check 300 with done := 256 } ∧ k = 1299 →
      j.done ≤ j.length ∧ (j.kind = .write → j.data.length = j.length) ∧
      DriveCmd.touches j.command k) := by
  refine ⟨by decide, by decide, by decide, by decide, ?_⟩
  rintro j k (⟨rfl, rfl⟩ | ⟨rfl, rfl⟩ | ⟨rfl, rfl⟩)
  · exact ⟨by decide, by decide, (by decide : 1000 ≤ 1001 ∧ 1001 < 1000 + 2)⟩
  · exact ⟨by decide, by decide, (by decide : 1000 ≤ 1000 ∧ 1000 < 1000 + 2)⟩
  · exact ⟨by decide, by decide, (by decide : 1256 ≤ 1299 ∧ 1299 < 1256 + 44)⟩

/-- The request unit waits for the answer to its claim. -/
def answering (a : ClaimAnswer) : State :=
  { part with
    ru := { part.ru with admitting := some admitting },
    mail := { part.mail with claimAnswer := some a } }

theorem witness_ClaimAnswered :
    (answering .accepted).ru.admitting = some admitting ∧
    (answering .accepted).mail.claimAnswer = some .accepted ∧
    (answering .accepted).ru.requests.lowestFree 512 = some 0 ∧
    (answering .accepted).ru.pieces.wf 1024 = true ∧
    (answering .accepted).ru.pieces.length + admitting.cuts.length ≤ 1024 ∧
    (answering .accepted).node? admitting.node = some nodeA ∧ admitting.cuts.length = 3 ∧
    (answering (.refused .loanEnding)).mail.claimAnswer = some (.refused .loanEnding) := by
  decide +kernel

/-- An ABORT of a tag. -/
def abortH (tag : BitVec 8) : Header := { Header.blank with kind := 0x13, tag := tag }

theorem witness_Abort :
    (∀ s, s = toRu (abortH 6) [] (work reqA .active .queued) →
      s.requestFrame 0x13 = some (0, 2, abortH 6, []) ∧ s.requestByTag 0 (abortH 6).tag = none) ∧
    (∀ q s, q = reqA ∨ q = { reqA with state := .queued } ∨
        q = { reqA with state := .aborting .overrun } →
      s = toRu (abortH 5) [] (work q .active .queued) →
      s.requestFrame 0x13 = some (0, 2, abortH 5, []) ∧ s.requestByTag 0 (abortH 5).tag = some (0, q)) := by
  refine ⟨?_, ?_⟩
  · rintro s rfl
    decide +kernel
  · rintro q s (rfl | rfl | rfl) rfl <;> decide +kernel

/-- A report of a drive unit on piece 0 waits at the request unit. -/
def reported (m : UnitToRu) (s : State) : State := s.setBmail 5 { unitToRu := [m] }

theorem witness_PieceReports :
    (∀ m, m = .answer ref0 true ∨ m = .answer ref0 false ∨ m = .started ref0 ∨ m = .done ref0 ∨
        m = .staged ref0 1 false ∨ m = .failed ref0 .mediaError 1 ∨ m = .withdrawn ref0 .aborted →
      ((reported m (work reqA .done .active)).bmail 5).unitToRu = [m] ∧
      (reported m (work reqA .done .active)).pieceOf ref0 = some (piece0 .done) ∧
      (piece0 .done).state.final = true ∧ (reported m part).pieceOf ref0 = none) ∧
    (∀ m q st, st = PieceState.queued ∨ st = .active → m = .started ref0 ∨ m = .done ref0 ∨
        m = .withdrawn ref0 .reset ∨ m = .failed ref0 .mediaError 1 →
      q = reqA ∨ q = { reqA with state := .queued } ∨ q = { reqA with overrun := true } →
      ∀ s, s = reported m (work q st .queued) →
      (s.bmail 5).unitToRu = [m] ∧ s.pieceOf ref0 = some (piece0 st) ∧
      s.request? (piece0 st).request = some q ∧ (piece0 st).state.final = false ∧
      s.GoesOn q ref0.num) ∧
    (∀ s other, other = PieceState.queued ∨ other = .done →
      s = (reported (.failed ref0 .diskFault 0) (work reqA (.staged 1 false 9) other)).setDelivery 2 [0] →
      (s.bmail 5).unitToRu = [.failed ref0 .diskFault 0] ∧
      s.pieceOf ref0 = some (piece0 (.staged 1 false 9)) ∧ s.request? 0 = some reqA ∧
      s.delivery reqA.port = [0]) := by
  refine ⟨?_, ?_, ?_⟩
  · rintro m (rfl | rfl | rfl | rfl | rfl | rfl | rfl) <;> decide +kernel
  · intro m q st hst hm hq s hs
    have goes : s.GoesOn q ref0.num :=
      ⟨1, by rcases hq with rfl | rfl | rfl <;> decide, by decide, piece1 .queued,
        by subst hs; simp [reported, work, State.piece?, Tbl.get], by decide⟩
    refine ⟨by simp [hs, reported], ?_, ?_, ?_, goes⟩
    · subst hs
      rfl
    · subst hs
      rfl
    · rcases hst with rfl | rfl <;> rfl
  · rintro s other (rfl | rfl) rfl <;> decide +kernel

/-- A request in record 0 whose pieces have come to given states, of a node and a loan in given states,
and what a soft reset's share waits for. -/
def finishing (p0 p1 : PieceState) (ns : NodeState) (ls : LoanState) (w : Option (List Nat)) : State :=
  let s := work reqA p0 p1
  { s.setNode 0 { nodeA with tags := [5], outstanding := 1, state := ns } with
    ru := { s.ru with resetShare := w },
    lm := { s.lm with loans := [(10, { loanA with state := ls, outstanding := 1 })] } }

theorem witness_RequestCompletes :
    (∀ p0 p1 ns ls w s l e, p0 = PieceState.done ∨ p0 = .failed .overrun →
      p1 = PieceState.done ∨ p1 = .withdrawn .reset →
      (ns = .admitted ∧ ls = .held) ∨ (ns = .draining ∧ ls = .ending .returned) →
      w = none ∨ w = some [0] ∨ w = some [0, 4] →
      s = finishing p0 p1 ns ls w → l = { loanA with state := ls, outstanding := 1 } →
      e = { nodeA with tags := [5], outstanding := 1, state := ns } →
      s.request? 0 = some reqA ∧
      (∀ n ∈ reqA.pieces, ∃ p, s.piece? n = some p ∧ p.state.final = true) ∧
      s.currentLoan reqA.handle = some l ∧ s.node? reqA.node = some e ∧
      settledChannel s.mail.ruToAgent = true ∧ s.ru.resetShare = w) ∧
    (∀ s, s = work reqA .done .active → s.request? 0 = some reqA ∧
      ∃ n ∈ reqA.pieces, ∃ p, s.piece? n = some p ∧ p.state.final = false) ∧
    ∀ m st q, (m = UnitToRu.done ref0 ∧ st = PieceState.active) ∨
        (m = .withdrawn ref0 .aborted ∧ st = .queued) ∨
        (m = .failed ref0 .diskUnavailable 0 ∧ st = .queued) ∨
        (m = .failed ref0 .mediaError 0 ∧ st = .active) →
      q = reqA ∨ q = { reqA with overrun := true } →
      ∀ s, s = reported m (work q st .done) →
      (s.bmail 5).unitToRu = [m] ∧ s.pieceOf ref0 = some (piece0 st) ∧
      s.request? (piece0 st).request = some q ∧ (piece0 st).state.final = false := by
  refine ⟨?_, ?_, ?_⟩
  · rintro p0 p1 ns ls w s l e h0 h1 _ _ rfl rfl rfl
    refine ⟨rfl, ?_, rfl, rfl, rfl, rfl⟩
    intro n hn
    have : n = 0 ∨ n = 1 := by simpa [reqA] using hn
    rcases this with rfl | rfl
    · exact ⟨piece0 p0, rfl, by rcases h0 with rfl | rfl <;> rfl⟩
    · exact ⟨piece1 p1, rfl, by rcases h1 with rfl | rfl <;> rfl⟩
  · rintro s rfl
    exact ⟨rfl, 1, by decide, piece1 .active, rfl, rfl⟩
  · rintro m st q (⟨rfl, rfl⟩ | ⟨rfl, rfl⟩ | ⟨rfl, rfl⟩ | ⟨rfl, rfl⟩) (rfl | rfl) s rfl <;>
      decide +kernel

/-- Port 2 sends to nothing and has no general room left for a DATA frame. -/
def noRoom (s : State) : State := s.setPort 2 nearlyFull

/-- The request of `work` with both pieces STAGED in port 2's delivery list, `k` blocks in the first. -/
def delivering (k : Nat) (md : Bool) : State :=
  (work reqA (.staged k md 9) (.staged 1 false 9)).setDelivery 2 [0, 1]

theorem witness_Delivery :
    (∀ s q, q = { reqA with overrun := true } ∨ q = reqA →
      s = reported (.staged ref0 1 false) (work q .active .queued) →
      (s.bmail 5).unitToRu = [.staged ref0 1 false] ∧ s.pieceOf ref0 = some (piece0 .active) ∧
      (piece0 .active).state.final = false ∧ s.request? 0 = some q) ∧
    reqA.overrun = false ∧
    (∀ m, m = PortToRu.room ∨ m = .linkDown ∨ m = .linkUp →
      (((delivering 1 false).setPmail 2 { toRu := [m] }).pmail 2).toRu = [m]) ∧
    State.reset.delivery 2 = [] ∧
    (∀ k md, k = 1 ∨ k = 2 ∨ k = 3 → md = true ∨ md = false →
      ∀ s, s = delivering k md →
      s.delivery 2 = [0, 1] ∧ s.piece? 0 = some (piece0 (.staged k md 9)) ∧
      s.request? 0 = some reqA ∧ s.dataRoom 2 (min 2 k) = true ∧ (noRoom s).dataRoom 2 (min 2 k) = false ∧
      (noRoom s).delivery 2 = [0, 1] ∧ ((noRoom s).deliver 2).delivery 2 = [0, 1]) ∧
    ∀ st, (piece0 st).done + 2 < 3 ∧ (piece0 st).done < 1 ∧ 2 ≤ (piece0 st).done + 2 := by
  refine ⟨?_, rfl, ?_, by decide +kernel, ?_, fun st => ⟨?_, ?_, ?_⟩⟩
  · rintro s q (rfl | rfl) rfl <;> decide +kernel
  · rintro m (rfl | rfl | rfl) <;> decide +kernel
  · rintro k md (rfl | rfl | rfl) (rfl | rfl) s rfl <;> decide +kernel
  all_goals simp [piece0]

/-- Two STAGED pieces, or a STAGED and a QUEUED one, at the deadline and a moment before. -/
theorem witness_Overrun :
    ∀ now q st, now = 8 ∨ now = 9 → q = reqA ∨ q = { reqA with state := .aborting .aborted } →
      st = PieceState.queued ∨ st = .staged 1 true 30 →
      ∀ s, s = { (work q (.staged 1 false 9) st).setDelivery 2 [0, 1] with now := now } →
      s.piece? 0 = some (piece0 (.staged 1 false 9)) ∧ s.piece? 1 = some (piece1 st) ∧
      s.request? 0 = some q ∧ s.now = now ∧ 0 ∈ q.pieces ∧ 1 ∈ q.pieces ∧ q.pieces.Nodup := by
  rintro now q st (rfl | rfl) (rfl | rfl) (rfl | rfl) s rfl <;> decide +kernel

/-- The agent's soft reset waits at the request unit. -/
def ruResetting (s : State) : State := { s with mail := { s.mail with resetRu := true } }

theorem witness_RequestUnitReset :
    (∀ s, s = ruResetting (answering .accepted) →
      s.mail.resetRu = true ∧ s.ru.admitting ≠ none) ∧
    (∀ s, s = ruResetting State.reset →
      s.mail.resetRu = true ∧ s.ru.admitting = none ∧ s.ru.requests = [] ∧ ChannelLaw s) ∧
    (∀ s, s = ruResetting (work reqA .active .queued) →
      s.mail.resetRu = true ∧ s.ru.admitting = none ∧ s.ru.requests ≠ [] ∧
      s.ru.requests.wf 512 = true) := by
  refine ⟨?_, ?_, ?_⟩
  · rintro s rfl
    decide +kernel
  · rintro s rfl
    exact ⟨rfl, rfl, rfl, reset_ChannelLaw⟩
  · rintro s rfl
    decide +kernel

/-! ### Witnesses: drive units

Each theorem gives the drive unit and the messages of a bay; `bay_any` makes a state of them. -/

def ref1 : PieceRef := { num := 1, serial := 5 }

theorem witness_PieceCommands :
    (∀ m : BayMail, m = { ruToUnit := [.append (job .read 1) (disk 5).serial] } →
      m.ruToUnit = .append (job .read 1) (disk 5).serial :: [] ∧
      DriveUnit.absent.state.healthy = false ∧
      (∀ u, u = { rdy 5 with releaseUnderWay := true } →
        u.state.healthy = true ∧ u.releaseUnderWay = true) ∧
      (rdy 5).state.healthy = true ∧ (rdy 5).releaseUnderWay = false ∧
      (∀ d, (rdy 9).disk = some d → d.serial ≠ (disk 5).serial) ∧
      (∀ st, st = DriveState.standby ∨ st = .active ∨ st = .wakeWait ∨ st = .ready →
        ∃ d, { rdy 5 with state := st }.disk = some d ∧ d.serial = (disk 5).serial ∧
          { rdy 5 with state := st }.state.healthy = true)) ∧
    (∀ m : BayMail, m = { ruToUnit := [.withdraw ref0 .aborted] } →
      m.ruToUnit = .withdraw ref0 .aborted :: [] ∧
      (∃ j ∈ { rdy 5 with queue := [job .read 1] }.queue, j.piece = ref0) ∧
      (∀ j ∈ (rdy 5).queue, j.piece ≠ ref0) ∧
      (∃ j, { rdy 5 with state := .active, hand := some (job .read 1) }.hand = some j ∧
        j.piece = ref0) ∧
      (∃ x, { rdy 5 with staging := some { piece := ref0, blocks := [0] } }.staging = some x ∧
        x.piece = ref0) ∧
      (∀ j, (rdy 5).hand = some j → j.piece ≠ ref0) ∧
      (∀ x, (rdy 5).staging = some x → x.piece ≠ ref0)) ∧
    ∀ m : BayMail, m = { ruToUnit := [.emptied ref0] } → m.ruToUnit = .emptied ref0 :: [] := by
  refine ⟨?_, ?_, ?_⟩
  · rintro m rfl
    refine ⟨rfl, rfl, ?_, rfl, rfl, ?_, ?_⟩
    · rintro u rfl
      exact ⟨rfl, rfl⟩
    · intro d hd
      cases hd
      decide
    · rintro st (rfl | rfl | rfl | rfl) <;> exact ⟨disk 5, rfl, rfl, rfl⟩
  · rintro m rfl
    exact ⟨rfl, ⟨_, List.mem_singleton_self _, rfl⟩, by simp [rdy, DriveUnit.absent],
      ⟨_, rfl, rfl⟩, ⟨_, rfl, rfl⟩, by simp [rdy, DriveUnit.absent],
      by simp [rdy, DriveUnit.absent]⟩
  · rintro m rfl
    rfl

/-- An extent of volume 3 with some blocks zeroed. -/
def ext (start length progress : Nat) (current : Bool) : Extent :=
  { vol := 3, seg := 0, start := start, length := length, progress := progress, current := current }

/-- A clear engine with a list of extents. -/
def eng (st : EngineState) (l : List Extent) : Engine := { state := st, list := l, closed := false }

theorem witness_ChoiceLaw :
    (State.reset.unit 5).state ≠ .ready ∧
    (∀ u, u = { rdy 5 with staging := some { piece := ref0, blocks := [0] } } →
      u.state = .ready ∧ u.staging ≠ none) ∧
    (∀ u, u = { rdy 5 with engine := eng .sweeping [ext 0 257 256 true] } →
      u.state = .ready ∧ u.staging = none ∧ u.engine.state = .sweeping ∧ u.hand = none ∧
      u.queue = [] ∧ u.engine.list.find? (·.current) = some (ext 0 257 256 true)) ∧
    (∀ u, u = { rdy 5 with
        engine := eng .sweeping [ext 0 600 0 true], queue := [job .write 1], pauseCounter := 8 } →
      u.engine.state = .sweeping ∧ u.params.allowance = u.pauseCounter ∧
      u.engine.list.find? (·.current) = some (ext 0 600 0 true)) ∧
    (∀ u, u = { rdy 5 with
        engine := eng .sweeping [ext 0 600 0 true], queue := [job .write 1], pauseCounter := 7 } →
      u.state = .ready ∧ u.staging = none ∧ u.queue ≠ [] ∧ u.pauseCounter < u.params.allowance ∧
      u.hand = none ∧ u.queue = job .write 1 :: []) ∧
    (∀ u, u = { rdy 5 with hand := some (job .check 300), pauseCounter := 64 } →
      u.state = .ready ∧ u.staging = none ∧ u.engine.state ≠ .sweeping ∧
      u.hand = some (job .check 300)) ∧
    ((rdy 5).hand = none ∧ (rdy 5).queue = [] ∧ (rdy 5).engine.state ≠ .sweeping) ∧
    (job .read 1).kind = .read ∧ (job .write 1).kind = .write ∧ (job .check 300).kind = .check := by
  refine ⟨by decide, ?_, ?_, ?_, ?_, ?_, by decide +kernel, rfl, rfl, rfl⟩ <;> rintro u rfl <;>
    decide +kernel

theorem witness_IdleTimerAndValues :
    (∀ u, u = rdy 5 ∨ u = { rdy 5 with idleTimer := some 3 } →
      u.state = .ready ∧ u.queue = [] ∧ u.hand = none ∧ u.staging = none ∧ u.engine.list = [] ∧
      u.engine.state = .empty ∧ u.clearWaiting = false ∧ u.params.keepSpinning = false ∧
      u.releaseUnderWay = false) ∧
    ({ rdy 5 with clearWaiting := true }.clearWaiting ≠ false) ∧
    (∀ s, s = { bay 5 { rdy 5 with idleTimer := some 3 } {} with now := 3 } →
      (s.unit 5).idleTimer = some 3 ∧ 3 ≤ s.now) ∧
    (∀ s, s = { bay 5 { rdy 5 with idleTimer := some 3 } {} with now := 2 } →
      (s.unit 5).idleTimer = some 3 ∧ s.now < 3) ∧
    (∀ k m, m = { keeps := [k] : BayMail } → m.keeps = k :: []) ∧
    (∀ a m, m = { allowances := [a] : BayMail } → m.allowances = a :: []) ∧
    (∀ l m, m = { limits := [l] : BayMail } → m.limits = l :: []) ∧
    { State.reset with mail := { State.reset.mail with limits := [6000] } }.mail.limits =
      6000 :: [] := by
  refine ⟨?_, by decide, ?_, ?_, ?_, ?_, ?_, rfl⟩
  · rintro u (rfl | rfl) <;> decide +kernel
  · rintro s rfl
    decide +kernel
  · rintro s rfl
    decide +kernel
  · rintro k m rfl
    rfl
  · rintro k m rfl
    rfl
  · rintro k m rfl
    rfl

/-- A drive unit with a command in flight. -/
def flying (st : DriveState) (c : DriveCmd) : DriveUnit :=
  { rdy 5 with state := st, inFlight := some (7, c), issued := 8, commandTimer := some 4 }

theorem witness_IdentifyCompletion :
    (∀ r u, u = { flying .identifying .identify with releaseUnderWay := r } →
      u.inFlight = some (7, .identify) ∧ u.releaseUnderWay = r) ∧
    settledChannel ({} : BayMail).unitToAgent = true ∧ 0 < 1 ∧
    ({ serial := 1, capacity := min 4294967296 4294967295 } : Disk).capacity = 4294967295 := by
  refine ⟨?_, rfl, Nat.one_pos, rfl⟩
  rintro r u rfl
  exact ⟨rfl, rfl⟩

/-- A state of bay 5 at a moment. -/
def at5 (u : DriveUnit) (now : Nat) : State := { bay 5 u {} with now := now }

theorem at5_unit (u : DriveUnit) (now : Nat) : (at5 u now).unit 5 = u := (bay_any 5 u {}).1

theorem witness_FaultEntered :
    (at5 (flying .identifying .identify) 0).Fails 5 (.identifyCompletion 5 7 (.good 1 0))
      .failedIdentify ∧
    (at5 (flying .identifying .identify) 0).Fails 5 (.identifyCompletion 5 7 .linkLost) .linkLost ∧
    (at5 { flying .active (.fetch 0 1) with hand := some (job .read 1), queue := [job .check 2] } 0).Fails
      5 (.fetchCompletion 5 7 .failed) .failedCompletion ∧
    (at5 { flying .active (.store 0 [0]) with hand := some (job .write 1) } 0).Fails 5
      (.storeCompletion 5 7 .linkLost) .linkLost ∧
    (at5 { flying .active (.probe 0 1) with hand := some (job .check 1), releaseUnderWay := true }
      0).Fails 5 (.probeCompletion 5 7 .failed) .failedCompletion ∧
    (at5 { flying .active (.zero 0 1) with engine := eng .sweeping [ext 0 1 0 true] } 0).Fails 5
      (.zeroCompletion 5 7 .failed) .failedCompletion ∧
    (at5 (flying .spinningUp .spinUp) 0).Fails 5 (.spinUpCompletion 5 7 (.media 0))
      .failedCompletion ∧
    (at5 (flying .spinningDown .spinDown) 0).Fails 5 (.spinDownCompletion 5 7 .failed)
      .failedCompletion ∧
    (at5 (flying .active (.fetch 0 1)) 4).Fails 5 (.commandTimerExpiry 5) .timeLimit ∧
    (at5 { flying .spinningUp .spinUp with commandTimer := none, spinUpTimer := some 4 } 4).Fails 5
      (.spinUpLimitExpiry 5) .timeLimit ∧
    (at5 { rdy 5 with state := .wakeWait } 0).Fails 5 (.linkLost 5) .linkLost ∧
    settledChannel ((at5 (rdy 5) 0).bmail 5).unitToAgent = true ∧
    (∀ d, (flying .active (.fetch 0 1)).commandTimer = some d → (at5 (rdy 5) 3).now < d) ∧
    (∀ d, { rdy 5 with spinUpTimer := some 4 }.spinUpTimer = some d → (at5 (rdy 5) 3).now < d) ∧
    DriveUnit.absent.state = .absent := by
  unfold State.Fails
  refine ⟨?_, ?_, ?_, ?_, ?_, ?_, ?_, ?_, ?_, ?_, ?_, by decide +kernel, ?_, ?_, rfl⟩
  iterate 11
    rw [at5_unit]
    simp [flying, rdy, at5, eng, ext, Engine.worked]
  · intro d h
    cases h
    decide
  · intro d h
    cases h
    decide

theorem witness_TransferCompletions :
    (∀ k c r u, k = ReqKind.read ∧ c = DriveCmd.fetch 1000 2 ∨ k = .write ∧ c = .store 1000 [0, 0] ∨
        k = .check ∧ c = .probe 1000 2 →
      u = { flying .active c with hand := some (job k 2), releaseUnderWay := r } →
      (at5 u 0).unit 5 = u ∧ u.inFlight = some (7, c) ∧ u.hand = some (job k 2) ∧
      u.releaseUnderWay = r) ∧
    ([0, 0] : List Block).length = 2 ∧ ([0] : List Block) ≠ [] ∧ ([0] : List Block).length < 2 ∧
    1 < ([0, 0] : List Block).length ∧
    (job .check 2).length ≤ (job .check 2).done + 2 ∧
    (job .check 257).done + 256 < (job .check 257).length ∧
    (∀ s, s = work { reqA with kind := .check, state := .aborting .reset } .active .queued →
      s.abortCause ref0 = some .reset) ∧
    (∀ s, s = work { reqA with kind := .check } .active .queued → s.abortCause ref0 = none) ∧
    (∀ c, (flying .active (.fetch 0 1)).inFlight ≠ some (6, c)) := by
  refine ⟨?_, rfl, by decide, by decide, by decide, by decide, by decide, ?_, ?_, ?_⟩
  · rintro k c r u (⟨rfl, rfl⟩ | ⟨rfl, rfl⟩ | ⟨rfl, rfl⟩) rfl <;> exact ⟨at5_unit _ _, rfl, rfl, rfl⟩
  · rintro s rfl
    decide +kernel
  · rintro s rfl
    decide +kernel
  · simp [flying]

theorem witness_ZeroCompletion :
    (∀ closed x u, x = ext 256 600 0 true ∨ x = ext 256 600 344 true → u = { flying .active
        (.zero (256 + x.progress) 256) with
          engine := { state := .sweeping, list := [ext 9 1 0 false] ++ x :: [ext 999 5 0 true],
                      closed := closed } } →
      (at5 u 0).unit 5 = u ∧ u.inFlight = some (7, .zero (256 + x.progress) 256) ∧
      u.engine.list = [ext 9 1 0 false] ++ x :: [ext 999 5 0 true] ∧
      (∀ y ∈ [ext 9 1 0 false], y.current = false) ∧ x.current = true ∧
      u.engine.closed = closed) ∧
    (ext 256 600 0 true).progress + 256 < (ext 256 600 0 true).length ∧
    (ext 256 600 344 true).length = (ext 256 600 344 true).progress + 256 ∧ 255 < 256 ∧
    (∃ y ∈ [ext 9 1 0 false] ++ [ext 999 5 0 true], y.current = true) ∧
    ∀ y ∈ [ext 9 1 0 false] ++ [], y.current = false := by
  refine ⟨?_, by decide, by decide, by decide, by decide, by decide⟩
  rintro closed x u (rfl | rfl) rfl <;>
    exact ⟨at5_unit _ _, rfl, rfl, by decide, rfl, rfl⟩

theorem witness_SpinCompletions :
    (∀ r u, u = { flying .spinningUp .spinUp with releaseUnderWay := r } →
      u.inFlight = some (7, .spinUp) ∧ u.releaseUnderWay = r) ∧
    (∀ q u, u = { flying .spinningDown .spinDown with queue := q } →
      u.inFlight = some (7, .spinDown) ∧ u.releaseUnderWay = false ∧ u.queue = q ∧ u.hand = none ∧
      u.engine.state ≠ .sweeping) ∧
    (∀ u, u = { flying .spinningDown .spinDown with releaseUnderWay := true } →
      u.releaseUnderWay = true ∧ u.state = .spinningDown) ∧ [job .read 1] ≠ [] := by
  refine ⟨?_, ?_, ?_, by simp⟩
  · rintro r u rfl
    exact ⟨rfl, rfl⟩
  · rintro q u rfl
    exact ⟨rfl, rfl, rfl, rfl, by simp [flying, rdy, DriveUnit.absent]⟩
  · rintro u rfl
    exact ⟨rfl, rfl⟩

/-! ### Witnesses: arbiter, clearing, releases and bays -/

/-- A message of bay 5 waits at an arbiter in a given state. -/
def arbiter (a : Arbiter) (m : UnitToArb) : State :=
  { bay 5 DriveUnit.absent { unitToArb := [m] } with arb := a }

theorem witness_SpinUpArbiter :
    (∀ m, m = .wanted ∨ m = .declined ∨ m = .ended ∨ m = .withdrawn →
      ((arbiter { budget := 1, places := [5], waitOrder := [3] } m).bmail 5).unitToArb = m :: [] ∧
      (5 : Bay) ∈ (arbiter { budget := 1, places := [5], waitOrder := [3] } m).arb.places ∧
      (5 : Bay) ∉ (arbiter { budget := 8, places := [1], waitOrder := [] } m).arb.places ∧
      (5 : Bay) ∉ (arbiter { budget := 8, places := [1], waitOrder := [] } m).arb.waitOrder ∧
      (5 : Bay) ∈ (arbiter { budget := 1, places := [1], waitOrder := [3, 5] } m).arb.waitOrder) ∧
    ∀ st, st = DriveState.wakeWait ∨ st = .spinningDown →
      ((bay 5 { rdy 5 with state := st } { grants := 1 }).unit 5).state = st ∧
      ((bay 5 { rdy 5 with state := st } { grants := 1 }).bmail 5).grants = 0 + 1 := by
  refine ⟨?_, ?_⟩
  · rintro m (rfl | rfl | rfl | rfl) <;> decide +kernel
  · rintro st (rfl | rfl) <;> decide +kernel

theorem witness_ClearEngine :
    (∀ m : BayMail, m = { lmToUnit := [.extent 3 0 (disk 5).serial 600 5] } →
      m.lmToUnit = .extent 3 0 (disk 5).serial 600 5 :: [] ∧
      DriveUnit.absent.state.healthy = false ∧ { eng .empty [] with closed := true }.closed = true ∧
      (∀ d, (rdy 9).disk = some d → d.serial ≠ (disk 5).serial) ∧
      (rdy 5).state.healthy = true ∧ (rdy 5).engine.closed = false ∧
      (∃ d, (rdy 5).disk = some d ∧ d.serial = (disk 5).serial) ∧ (rdy 5).engine.state = .empty ∧
      (rdy 5).engine.list = [] ∧ (rdy 5).params.gatherWindow ≠ 0 ∧
      (∀ u, u = { rdy 5 with params := { (rdy 5).params with gatherWindow := 0 } } →
        u.params.gatherWindow = 0 ∧ u.engine.state = .empty) ∧
      (∀ st, st = DriveState.ready ∨ st = .standby → { rdy 5 with state := st }.state = st)) ∧
    (∀ u, u = { rdy 5 with engine := eng (.gathering 9) [ext 700 1 0 true, ext 0 1 0 true] } →
      u.engine.state = .gathering 9 ∧ (at5 u 8).now < 9 ∧ 9 ≤ (at5 u 9).now) ∧
    (∀ start u bf af, start = 100 ∨ start = 101 ∨ start = 700 →
      u = { rdy 5 with engine := eng .sweeping (bf ++ af) } → bf = [ext 50 100 50 true] →
      af = [ext 650 1 0 true, ext 9 1 0 false] →
      u.engine.state = .sweeping ∧ u.engine.list.find? (·.current) = some (ext 50 100 50 true) ∧
      (start = 100 → start ≤ (ext 50 100 50 true).start + (ext 50 100 50 true).progress) ∧
      (start = 101 → (ext 50 100 50 true).start + (ext 50 100 50 true).progress < start) ∧
      (start = 101 → (∀ z ∈ bf, z.current = true ∧ z.start < start) ∧
        ∀ z, af.head? = some z → z.current = false ∨ start ≤ z.start)) ∧
    ∀ k, k = true ∨ k = false → ({ lmToUnit := [.pendingClear k] } : BayMail).lmToUnit =
      .pendingClear k :: [] := by
  refine ⟨?_, ?_, ?_, fun k _ => rfl⟩
  · rintro m rfl
    refine ⟨rfl, rfl, rfl, ?_, rfl, rfl, ⟨disk 5, rfl, rfl⟩, rfl, rfl, by decide, ?_, ?_⟩
    · intro d h
      cases h
      decide
    · rintro u rfl
      exact ⟨rfl, rfl⟩
    · rintro st _
      rfl
  · rintro u rfl
    decide +kernel
  · rintro start u bf af hs rfl rfl rfl
    refine ⟨rfl, rfl, ?_, ?_, ?_⟩
    · rintro rfl
      decide
    · rintro rfl
      decide
    · rintro rfl
      exact ⟨by decide, by intro z hz; cases hz; decide⟩

/-- A CLEARING volume 3 whose segment has a given clear status, and a report of bay 7. -/
def clearing (c : ClearStatus) (l : LmBay) (m : List UnitToLm) : State :=
  let s := (bay 7 (rdy 7) { unitToLm := m }).setLmBay 7 l
  { s with lm := { s.lm with
      volumes := [(3, { volScr with
        state := .clearing, loanCount := 0, segments := [{ seg 7 0 256 with clear := c }] })] } }

theorem witness_LoanManagerReports :
    (∀ m, m = .extentDone 3 0 ∨ m = .extentFailed 3 0 ∨ m = .health .fault (some (disk 7)) false ∨
        m = .health .ready (some (disk 7)) false ∨ m = .health .absent none true ∨
        m = .health .absent none false ∨ m = .releaseEnd →
      ∀ s, s = clearing .listed { listed := 1 } [m] →
      (s.bmail 7).unitToLm = m :: [] ∧ (s.lmBay 7).pendingClear = [] ∧
      (s.volume? 3).isSome = true) ∧
    (∀ r q s, q = [{ vol := 3, seg := 0 }] ∨ q = [{ vol := 3, seg := 0 }, { vol := 9, seg := 1 }] →
      s = clearing .pending { pendingClear := q } [.health .absent none r] →
      (s.bmail 7).unitToLm = [.health .absent none r] ∧ (s.lmBay 7).pendingClear = q ∧ q ≠ []) ∧
    (∀ st q s, q = [{ vol := 3, seg := 0 }] ∨ q = [{ vol := 3, seg := 0 }, { vol := 9, seg := 1 }] →
      s = (clearing .pending { pendingClear := q, listed := 7 } []).setUnit 7 { rdy 7 with state := st } →
      (s.lmBay 7).pendingClear = q ∧ (s.lmBay 7).listed < 8 ∧
      s.segment? { vol := 3, seg := 0 } = some { seg 7 0 256 with clear := .pending } ∧
      s.served { seg 7 0 256 with clear := .pending } = st.healthy) ∧
    (∀ c w ms, c = ClearStatus.pending ∨ c = .listed ∨ c = .done ∨ c = .failed →
      w = [] ∨ w = [4] → ms = [] ∨ ms = [AgentMsg.notice (.clearDone 1 1)] →
      ∀ s v, v = { volScr with
          state := .clearing, loanCount := 0, segments := [{ seg 7 0 256 with clear := c }],
          waitList := w } →
        s = { clearing c { listed := 8 } [] with
          lm := { (clearing c { listed := 8 } []).lm with volumes := [(3, v)] },
          mail := { State.reset.mail with lmToAgent := ms } } →
      ∃ e, s.volume? 3 = some e ∧ e.state = .clearing ∧ settledChannel s.mail.lmToAgent = true ∧
        e.waitList = w ∧ (s.lmBay 7).listed = 8 ∧
        (c = .pending ∨ c = .listed → ∃ g ∈ e.segments, g.clear = .pending ∨ g.clear = .listed) ∧
        (c = .done → ∀ g ∈ e.segments, g.clear = .done) ∧
        (c = .failed → (∀ g ∈ e.segments, g.clear ≠ .pending ∧ g.clear ≠ .listed) ∧
          ∃ g ∈ e.segments, g.clear ≠ .done)) ∧
    vol42.state ≠ .clearing := by
  refine ⟨?_, ?_, ?_, ?_, by decide⟩
  · rintro m (rfl | rfl | rfl | rfl | rfl | rfl | rfl) s rfl <;> decide +kernel
  · rintro (_ | _) q s (rfl | rfl) rfl <;> decide +kernel
  · rintro st q s (rfl | rfl) rfl <;> cases st <;> decide +kernel
  · rintro c w ms hc hw hm s v rfl rfl
    refine ⟨_, rfl, rfl, ?_, rfl, ?_⟩
    · rcases hm with rfl | rfl <;> rfl
    · rcases hc with rfl | rfl | rfl | rfl <;> rcases hw with rfl | rfl <;>
        exact ⟨by simp [clearing, State.lmBay, State.setLmBay], by decide, by decide, by decide⟩

/-- Bay 5 with its service controls. -/
def pressed (c : Service) (now : Nat) (st : DriveState) : State :=
  (at5 { rdy 5 with state := st } now).setControls 5 c

theorem witness_Buttons :
    (∀ s, s = pressed Service.absent 0 .ready → (s.controls 5).buttonDown = false ∧
      settledChannel (s.bmail 5).svcToAgent = true) ∧
    (∀ c st, c = { Service.absent with buttonDown := true, holdTimer := some (secs 6) } →
      st = DriveState.ready ∨ st = .absent ∨ st = .service →
      (pressed c (secs 6) st).controls 5 = c ∧ ((pressed c (secs 6) st).unit 5).state = st ∧
      c.buttonDown = true ∧ c.holdTimer = some (secs 6) ∧ secs 6 ≤ (pressed c (secs 6) st).now ∧
      ∀ d, c.holdTimer = some d → (pressed c (secs 6 - 1) st).now < d) := by
  refine ⟨?_, ?_⟩
  · rintro s rfl
    decide +kernel
  · rintro c st rfl (rfl | rfl | rfl) <;>
      exact ⟨by decide +kernel, by decide +kernel, rfl, rfl, by decide +kernel,
        by intro d h; cases h; decide +kernel⟩

/-- A forced release of bay 5 waits at the loan manager; volume 42 lies on that bay. -/
def overridden (l : Loan) (st : DriveState) (m : Bool) : State :=
  (((lent l).setUnit 5 { rdy 5 with state := st }).setBmail 5 { overrides := 1 }).setLmBay 5
    { releaseOutstanding := m }

/-- A RELEASE_BAY of bay 5. -/
def releaseH (flags : Byte) (b : BitVec 32 := 5) : Header :=
  { request 0x2C with flags := flags, valueA := b }

/-- The frame `asked` passes to the agent. -/
def manageF (h : Header) (body : List Byte) : InFrame := frame 0xB0 { h with kind := 0x30 } body

theorem witness_ReleaseStart :
    (∀ l s, l = { loanA with outstanding := 1 } → s = overridden l .ready false →
      (s.lmBay 5).pendingClear = [] ∧ (s.bmail 5).overrides = 0 + 1 ∧
      s.liveLoans (fun k => s.volumeOnBay k.volume 5) = [10] ∧ s.loan? 10 = some l ∧
      l.outstanding ≠ 0 ∧ (s.unit 5).state ≠ .service ∧ (s.unit 5).state ≠ .absent ∧
      (s.lmBay 5).releaseOutstanding = false ∧
      ∃ e ∈ s.lm.loans, s.volumeOnBay e.2.volume 5 = true) ∧
    (∀ s, s = (overridden loanA .ready false).setLmBay 5 { pendingClear := [{ vol := 3, seg := 0 }] } →
      s.liveLoans (fun k => s.volumeOnBay k.volume 5) = [10] ∧ s.loan? 10 = some loanA ∧
      loanA.outstanding = 0 ∧ (s.lmBay 5).pendingClear ≠ []) ∧
    (∀ b, b = 24 ∨ b = 0xFFFFFFFF →
      (asked (releaseH 4 b) [] part).Asks 0x2C 1 (manageF (releaseH 4 b) []) (releaseH 4 b) ∧
      24 ≤ (releaseH 4 b).valueA.toNat) ∧
    (((overridden loanA .service false).unit 5).state = .service ∧
      ((overridden loanA .absent false).unit 5).state = .absent ∧
      ((overridden loanA .ready true).lmBay 5).releaseOutstanding = true) ∧
    (State.reset.bmail 5).overrides = 0 ∧
    (∀ f, f = 0 ∨ f = 4 → ∀ l, l = { loanA with outstanding := 1 } →
      (asked (releaseH f) [] (overridden l .ready false)).Asks 0x2C 1 (manageF (releaseH f) [])
        (releaseH f) ∧
      (releaseH f).valueA.toNat = (5 : Bay).val ∧ (releaseH f).act = decide (f = 4)) ∧
    (∀ s, s = asked (releaseH 0) [] (part.setUnit 5 (rdy 5)) →
      ∀ e ∈ s.lm.loans, s.volumeOnBay e.2.volume 5 = false) := by
  refine ⟨?_, ?_, ?_, by decide +kernel, by decide +kernel, ?_, ?_⟩
  · rintro l s rfl rfl
    decide +kernel
  · rintro s rfl
    decide +kernel
  · unfold State.Asks
    rintro b (rfl | rfl) <;> decide +kernel
  · unfold State.Asks
    rintro f (rfl | rfl) l rfl <;> decide +kernel
  · rintro s rfl
    decide +kernel

theorem witness_ReleaseTaken :
    (∀ m : BayMail, m = { lmToUnit := [.release] } → m.lmToUnit = .release :: []) ∧
    DriveUnit.absent.state = .absent ∧
    (∀ u left bf af x, x = ext 300 600 0 true → bf = [ext 9 1 0 false] → af = [ext 950 1 0 true] →
      left = bf ++ af → u = { flying .active (.zero 300 256) with
        engine := eng .sweeping (bf ++ x :: af) } →
      u.inFlight = some (7, .zero 300 256) ∧ u.engine.list = bf ++ x :: af ∧ left = bf ++ af ∧
      (∀ y ∈ bf, y.current = false) ∧ x.current = true ∧ u.state = .active) ∧
    (∀ st u, u = { rdy 5 with state := st, queue := [job .read 1] } →
      (∀ n start len, u.inFlight ≠ some (n, .zero start len)) ∧ u.state = st) ∧
    (∀ u, u = flying .identifying .identify → ∀ n start len,
      u.inFlight ≠ some (n, .zero start len)) := by
  refine ⟨?_, rfl, ?_, ?_, ?_⟩
  · rintro m rfl
    rfl
  · rintro u left bf af x rfl rfl rfl rfl rfl
    exact ⟨rfl, rfl, rfl, by decide, rfl, rfl⟩
  · rintro st u rfl
    exact ⟨by simp [rdy, DriveUnit.absent], rfl⟩
  · rintro u rfl
    simp [flying]

theorem witness_Presence :
    (State.reset.unit 5).state = .absent ∧
    (∀ st, st = DriveState.standby ∨ st = .wakeWait ∨ st = .spinningUp ∨ st = .service →
      ((at5 { rdy 5 with state := st } 0).unit 5).state = st ∧ st ≠ .absent ∧
      settledChannel ((at5 { rdy 5 with state := st } 0).bmail 5).unitToAgent = true) := by
  refine ⟨by decide +kernel, ?_⟩
  rintro st (rfl | rfl | rfl | rfl) <;> decide +kernel

/-! ### Witnesses: management -/

/-- A request of the manager, as the agent reads it back. -/
def asks (code : Byte) (h : Header) (body : List Byte) (s : State) : Prop :=
  (asked h body s).Asks code 1 (manageF h body)
    { h with kind := 0x30, payloadLen := BitVec.ofNat 16 body.length }

theorem witness_ManageDiscipline :
    (requestCode .attach).isSome = true ∧ State.reset.managePassed = none ∧
    ((asked (request 3) [] State.reset).setWait .status).managePassed = none ∧
    (∀ f s, f = { inF 47 with payload := List.replicate 47 0x30 } →
      s = { asked (request 3) [] State.reset with
        cls := { State.reset.cls with passed := some { dest := .agent, port := 1, frame := f } } } →
      s.managePassed = some (1, f) ∧ Header.parse f.payload = none ∧ s.manageWaiting = none) ∧
    (∀ h, h = request 3 ∨ h = { request 3 with reserved := 1 } ∨ h = request 8 ∨
        h = { request 8 with version := 2 } →
      ∀ s, s = asked h [] State.reset →
      s.manageWaiting = some (1, manageF h [], h) ∧ s.managerSource h 0xB0 = true ∧
      { s with agent := State.reset.agent }.manageWaiting = some (1, manageF h [], h) ∧
      { s with agent := State.reset.agent }.managerSource h 0xB0 = false ∧
      (manageF h []).src = 0xB0) ∧
    requestCode .identify = some 0x03 ∧ isRequestCode (request 8).subcode = false ∧
    requestGood { request 3 with reserved := 1 } (manageF { request 3 with reserved := 1 } []).payload =
      false ∧
    (request 8).manageHeaderGood (manageF (request 8) []).payload = true ∧
    { request 8 with version := 2 }.manageHeaderGood
      (manageF { request 8 with version := 2 } []).payload = false ∧
    (asked (request 3) [] State.reset).agent.slot = some { addr := 0xB0, port := 3, seq := 7 } ∧
    State.reset.agent.slot = none := by
  refine ⟨by decide, by decide +kernel, by decide +kernel, ?_, ?_, by decide +kernel⟩
  · rintro f s rfl rfl
    decide +kernel
  · rintro h (rfl | rfl | rfl | rfl) s rfl <;> decide +kernel

theorem witness_AttachAndReads :
    (∀ s, s = asked (request 1) [] State.reset →
      s.manageWaiting = some (1, manageF (request 1) [], request 1) ∧ (request 1).subcode = 0x01 ∧
      s.agent.slot = some { addr := 0xB0, port := 3, seq := 7 } ∧ (manageF (request 1) []).src = 0xB0 ∧
      { s with agent := State.reset.agent }.manageWaiting =
        some (1, manageF (request 1) [], request 1) ∧
      { s with agent := { s.agent with slot := some { addr := 0xB1, port := 0, seq := 0 } }
        }.manageWaiting = some (1, manageF (request 1) [], request 1)) ∧
    (∀ l s, l = [] ∨ l = [AgentMsg.notice (.loanExpired 0x0283 42 .read 0xA0), .resetFinished] →
      s = { State.reset with mail := { State.reset.mail with lmToAgent := l } } →
      asks 2 (request 2) [] s ∧ ∀ m ∈ (asked (request 2) [] s).mail.lmToAgent,
        AgentMsg.waits m = true) ∧
    asks 3 (request 3) [] State.reset ∧
    asks 5 (request 5) [] State.reset ∧ State.reset.arb.waitOrder.length ≤ 24 ∧
    (asked (request 5) [] State.reset).agent.slot = some { addr := 0xB0, port := 3, seq := 7 } ∧
    (∀ v, v = 128 ∨ v = 127 ∨ v = 42 → asks 0x13 { request 0x13 with volume := v } [] part) ∧
    part.volume? 127 = none ∧ part.volume? 42 = some vol42 ∧
    (∀ l i, l = loanA ∨ l = { loanA with state := .ending .reset } →
      i = 1024 ∨ i = 1023 ∨ i = 10 → asks 0x19 { request 0x19 with valueA := i } [] (lent l) ∧
      (lent l).loan? 1023 = none ∧ (lent l).loan? 10 = some l) := by
  unfold asks State.Asks
  refine ⟨?_, ?_, by decide +kernel, by decide +kernel, by decide +kernel, by decide +kernel, ?_,
    by decide +kernel, by decide +kernel, ?_⟩
  · rintro s rfl
    decide +kernel
  · rintro l s (rfl | rfl) rfl <;> decide +kernel
  · rintro v (rfl | rfl | rfl) <;> decide +kernel
  · rintro l i (rfl | rfl) (rfl | rfl | rfl) <;> decide +kernel

/-- A parameter block with a mask, a budget and thresholds, and all else zero. -/
def block (mask budget on off : Nat) : List Byte :=
  be 4 mask ++ be 1 budget ++ List.replicate 8 0 ++ be 1 on ++ be 1 off ++ List.replicate 9 0

/-- The same, as it is read. -/
def blockOf (mask : BitVec 32) (budget on off : Nat) : ParamBlock where
  mask := mask
  budget := budget
  spinUpLimit := 0
  pieceLimit := 0
  deliveryLimit := 0
  allowance := 0
  gatherWindow := 0
  idleFactor := 0
  idleUnit := 0
  on := on
  off := off
  keepCarry := 0
  keepValue := 0

/-- The bytes of a parameter block that carries no other value. -/
def shortBlock (q : ParamBlock) : List Byte := block q.mask.toNat q.budget q.on q.off

/-- Counters are asked for; some units have not answered yet. -/
def counting (zero : Bool) (units : List CounterUnit) : State :=
  State.reset.setWait (.counters (request 6) zero units [])

theorem witness_Parameters :
    (∀ q ∈ [blockOf 1 9 0 0, blockOf 1 0 0 0, blockOf 0x80 0 32 0, blockOf 0x180 0 24 16,
        blockOf 1 8 0 0, blockOf 1 1 0 0],
      asks 4 (request 4) (shortBlock q) State.reset ∧
      paramBlock ((manageF (request 4) (shortBlock q)).payload.drop 48) = some q ∧
      (q.inRange = false ↔ q.budget = 9 ∨ (q.mask = 1 ∧ q.budget = 0)) ∧
      ((State.reset.agent.params.write q).on ≤ (State.reset.agent.params.write q).off ↔
        q.mask = 0x80) ∧ q.carries 0 = decide (q.mask = 1)) ∧
    (∀ q s, q = blockOf 1 2 0 0 →
      s = { (State.reset.setWait (.budget 9 q)) with
        arb := { budget := 4, places := [0, 1, 2], waitOrder := [] } } →
      s.agent.wait = .budget 9 q ∧ q.budget < s.arb.places.length) ∧
    (∀ q s, q = blockOf 1 3 0 0 →
      s = { (State.reset.setWait (.budget 9 q)) with
        arb := { budget := 2, places := [0, 1, 2], waitOrder := [4] } } →
      s.agent.wait = .budget 9 q ∧ s.arb.places.length = q.budget) ∧
    asks 6 (request 6) [] State.reset ∧ asks 6 { request 6 with flags := 4 } [] State.reset ∧
    ∀ zero units, units = [CounterUnit.port 3] ∨ units = [CounterUnit.bay 23, CounterUnit.port 3] →
      (counting zero units).agent.wait = .counters (request 6) zero units [] ∧
      CounterUnit.port 3 ∈ units ∧ CounterUnit.port 0 ∉ units ∧
      (units.filter (· ≠ CounterUnit.port 3) = [] ↔ units = [CounterUnit.port 3]) := by
  unfold asks State.Asks
  refine ⟨by decide +kernel, ?_, ?_, by decide +kernel, by decide +kernel, ?_⟩
  · rintro q s rfl rfl
    decide +kernel
  · rintro q s rfl rfl
    decide +kernel
  · rintro zero units (rfl | rfl) <;> exact ⟨rfl, by decide, by decide, by decide⟩

/-- A soft reset runs, with the shares reported so far and a list of requests in progress. -/
def running (r : Running) (l : List Entry) (lm ru : List AgentMsg) : State :=
  { State.reset with
    agent := { State.reset.agent with running := some r, progress := l }
    mail := { State.reset.mail with lmToAgent := lm, ruToAgent := ru } }

theorem witness_SoftResetAndNotices :
    (∀ s, s = State.reset ∨ s = running { lmDone := false, ruDone := false } [] [] [] ∨
        s = { State.reset with agent := { State.reset.agent with
          progress := List.replicate 64 { id := 0, tag := 0, work := .drain 1 } } } →
      asks 7 (request 7) [] s) ∧
    (∀ lm ru l rest, rest = [] ∨ rest = [AgentMsg.notice (.clearDone 3 1)] →
      l = [] ∨ l = [{ id := 2, tag := 8, work := EntryWork.reset [] false }] ∨
        l = [{ id := 1, tag := 7, work := .drain 0xA0 }, { id := 2, tag := 8, work := .reset [1] false }] →
      ∀ s, s = running { lmDone := lm, ruDone := ru } l (.resetFinished :: rest)
        (.resetFinished :: rest) →
      s.agent.running = some { lmDone := lm, ruDone := ru } ∧ settledChannel rest = true ∧
      s.mail.lmToAgent = .resetFinished :: rest ∧ s.mail.ruToAgent = .resetFinished :: rest ∧
      s.agent.progress = l) ∧
    (∀ w, w = [] ∨ w = [1] ∨ w = [5] → ∀ d r k : Entry, d = { id := 1, tag := 7, work := .drain 0xA0 } →
      r = { id := 2, tag := 8, work := .reset w true } → k = { id := 3, tag := 9, work := .reset [1] true } →
      (w ≠ [1] → Entry.Splits [d, r, k] [r] [d, k]) ∧ (w = [1] → Entry.Splits [d, r, k] [] [d, r, k])) ∧
    (noted.mail.lmToAgent = .notice (.clearDone 1 1) :: [] ∧
      noted.mail.nodeToAgent = .notice (.clearDone 1 1) :: [] ∧
      (noted.bmail 0).unitToAgent = .notice (.clearDone 1 1) :: [] ∧
      (noted.bmail 0).svcToAgent = .notice (.clearDone 1 1) :: [] ∧ noted.agent.slot = none ∧
      (asked (request 3) [] noted).agent.slot = some { addr := 0xB0, port := 3, seq := 7 }) := by
  refine ⟨?_, ?_, ?_, by decide +kernel⟩
  · unfold asks State.Asks
    rintro s (rfl | rfl | rfl) <;> decide +kernel
  · rintro lm ru l rest (rfl | rfl) _ s rfl <;> exact ⟨rfl, rfl, rfl, rfl, rfl⟩
  · rintro w (rfl | rfl | rfl) d r k rfl rfl rfl <;> unfold Entry.Splits <;> decide

/-- The payload of a definition: class, term, grace, and segments given as bay, base and length. -/
def defined (cls term grace : Nat) (l : List (Nat × Nat × Nat)) : List Byte :=
  be 1 cls ++ [0] ++ be 1 l.length ++ [0] ++ be 2 term ++ be 2 grace ++
  l.flatMap fun g => be 1 g.1 ++ [0, 0, 0] ++ be 4 g.2.1 ++ be 4 g.2.2

/-- The request of section 1.11, for volume 42. -/
def def42 : List Byte := defined 2 60 30 [(5, 1000000, 300), (9, 50000, 100), (5, 2000000, 1000)]

/-- A part with the disks of volume 42 and no volume. -/
def bare : State := { part with lm := { part.lm with volumes := [] } }

def defineH (v : BitVec 8) : Header := { request 0x10 with volume := v }

/-- A definition of volume `v` with a payload is asked, and read back. -/
def defines (v : BitVec 8) (body : List Byte) (s : State) (d : DefineArgs) : Prop :=
  asks 0x10 (defineH v) body s ∧
  defineArgs v.toNat ((manageF (defineH v) body).payload.drop 48) = some d

def args42 : DefineArgs where
  volume := 42
  cls := 2
  wake := false
  term := 60
  grace := 30
  segments := [{ bay := 5, base := 1000000, length := 300 }, { bay := 9, base := 50000, length := 100 },
    { bay := 5, base := 2000000, length := 1000 }]

/-- The segments of volume 42 on their disks, with a capacity for the disk of bay 9. -/
def placed42 (cap : Nat) : List (Segment × Nat) :=
  [(seg 5 1000000 300, 4294967295), (seg 9 50000 100, cap), (seg 5 2000000 1000, 4294967295)]

/-- The disk of bay 9 has a given capacity. -/
def capacity9 (n : Nat) : State :=
  bare.setUnit 9 { rdy 9 with disk := some { disk 9 with capacity := n } }

/-- The unit of bay 9 is in a drive state. -/
def state9 (st : DriveState) (s : State) : State := s.setUnit 9 { rdy 9 with state := st }

theorem capacity9_placed (h : Header) (b : List Byte) (n : Nat) :
    (asked h b (capacity9 n)).PlacedOn args42.segments (placed42 n) := by
  exact .cons ⟨5, disk 5, rfl, rfl, rfl, rfl⟩
    (.cons ⟨9, { disk 9 with capacity := n }, rfl, rfl, rfl, rfl⟩
      (.cons ⟨5, disk 5, rfl, rfl, rfl, rfl⟩ .nil))

theorem witness_VolumeRequests :
    (∀ d, d = { args42 with volume := 128 } → defines 128 def42 bare d ∧
      DefineArgs.valuesGood d = false) ∧
    (defines 42 def42 part args42 ∧ DefineArgs.valuesGood args42 = true ∧
      (part.volume? args42.volume).isSome = true) ∧
    (∀ s, s = state9 .fault bare ∨ s = bare.setUnit 9 DriveUnit.absent → defines 42 def42 s args42 ∧
      s.volume? args42.volume = none ∧
      ∃ g ∈ args42.segments, ∀ b : Bay, b.val = g.bay →
        (s.unit b).state.healthy = false ∨ (s.unit b).disk = none) ∧
    (∀ s, s = capacity9 50050 ∨ s = capacity9 50099 → defines 42 def42 s args42 ∧
      s.volume? args42.volume = none ∧ ∃ x ∈ placed42 50099, x.2 < x.1.base + x.1.length) ∧
    (∀ s, s = (capacity9 50100).setVolume 1 { vol42 with segments := [seg 5 1000200 200] } →
      defines 42 def42 s args42 ∧ s.volume? args42.volume = none ∧
      (∀ x ∈ placed42 50100, x.1.base + x.1.length ≤ x.2) ∧
      ∃ x ∈ placed42 50100, ∃ y ∈ s.definedSegments, overlaps x.1 y = true) ∧
    (∀ s, s = capacity9 50100 → defines 42 def42 s args42 ∧ s.volume? args42.volume = none ∧
      (∀ x ∈ placed42 50100, ∀ y ∈ s.definedSegments, overlaps x.1 y = false) ∧
      ((placed42 50100).map Prod.fst).Pairwise (fun x y => overlaps x y = false) ∧
      VolClass.ofValue args42.cls = some .shot) ∧
    (∀ v code, v = 128 ∨ v = 127 ∨ v = 42 → code = 0x11 ∨ code = 0x12 →
      asks code { request code with volume := v } [] part) ∧
    part.volume? 127 = none ∧ part.volume? 42 = some vol42 ∧ vol42.loanCount = 0 ∧
    vol42.waitList = [] ∧ vol42.state ≠ .clearing ∧ vol42.state ≠ .clearFailed ∧
    (∀ vol : Volume, vol = { vol42 with loanCount := 1 } ∨ vol = { vol42 with waitList := [0] } ∨
        vol = { vol42 with state := .clearing } →
      asks 0x11 { request 0x11 with volume := 42 } [] (part.setVolume 42 vol) ∧
      (part.setVolume 42 vol).volume? 42 = some vol ∧
      (0 < vol.loanCount ∨ vol.waitList ≠ [] ∨ vol.state = .clearing)) ∧
    (∀ vol s, vol = { volScr with state := .clearFailed } →
      s = (part.setVolume 42 vol).setLmBay 7 { listed := 8 } →
      asks 0x12 { request 0x12 with volume := 42 } [] s ∧ s.volume? 42 = some vol ∧
      vol.state = .clearFailed ∧ ∀ g ∈ vol.segments, 8 ≤ (s.lmBay g.bay).listed) ∧
    (∀ l, l = loanA ∨ l = { loanA with state := .recalling 1 } ∨
        l = { loanA with state := .ending .expired } →
      asks 0x18 { request 0x18 with handle := 0x0283 } [] (lent l) ∧
      (lent l).currentLoan 0x0283 = some l ∧ (lent l).currentLoan 0x0284 = none ∧
      asks 0x18 { request 0x18 with handle := 0x0284 } [] (lent l) ∧
      (lent l).volume? l.volume = some { vol42 with state := .lent, loanCount := 1 }) := by
  unfold defines asks State.Asks
  refine ⟨?_, by decide +kernel, ?_, ?_, ?_, ?_, ?_, by decide +kernel, by decide +kernel, rfl, rfl,
    by decide, by decide, ?_, ?_, ?_⟩
  · rintro d rfl
    decide +kernel
  · rintro s (rfl | rfl) <;> decide +kernel
  · rintro s (rfl | rfl) <;> decide +kernel
  · rintro s rfl
    decide +kernel
  · rintro s rfl
    decide +kernel
  · rintro v code (rfl | rfl | rfl) (rfl | rfl) <;> decide +kernel
  · rintro vol (rfl | rfl | rfl) <;> decide +kernel
  · rintro vol s rfl rfl
    decide +kernel
  · rintro l (rfl | rfl | rfl) <;> decide +kernel

def nodeH (code : Byte) (a : BitVec 48) : Header := { request code with offset := a }

/-- The agent has asked for a node's count. -/
def countWaits (w : AgentWait) (e : Node) : State := (part.setNode 0 e).setWait w

theorem witness_NodeRequests :
    (∀ a, a = 0 ∨ a = 0x010000000000 ∨ a = 0xA0 ∨ a = 0xC0 →
      asks 0x20 (nodeH 0x20 a) [] part ∧
      (a.getLsbD 40 = decide (a = 0x010000000000))) ∧
    ((part.nodeByAddr 0xA0).isSome = true ∧ part.nodeByAddr 0xC0 = none ∧ part.node? 1 = none ∧
      ∀ m, m < 1 → (part.node? m).isSome = true) ∧
    (∀ s, s = { part with nodes := fullTbl 512 nodeA } → asks 0x20 (nodeH 0x20 0xC0) [] s ∧
      s.nodeByAddr 0xC0 = none ∧ ∀ n, n < 512 → (s.node? n).isSome = true) ∧
    (∀ code st e s, code = 0x21 ∨ code = 0x22 ∨ code = 0x23 ∨ code = 0x24 →
      st = NodeState.admitted ∨ st = .halted ∨ st = .draining ∨ st = .drained →
      e = { nodeA with state := st } → s = part.setNode 0 e →
      asks code (nodeH code 0xA0) [] s ∧ s.nodeByAddr 0xA0 = some (0, e) ∧
      asks code (nodeH code 0xC0) [] s ∧ s.nodeByAddr 0xC0 = none ∧ s.agent.progress.length < 64) ∧
    (∀ s, s = { part with agent := { part.agent with
        progress := List.replicate 64 { id := 0, tag := 0, work := .drain 1 } } } →
      asks 0x22 (nodeH 0x22 0xA0) [] s ∧ s.agent.progress.length = 64) ∧
    (∀ w n e, w = AgentWait.drainCount 9 0xA0 0 ∨ w = .forgetCount 9 0xA0 0 → n = 0 ∨ n = 1 →
      e = { nodeA with state := .draining, outstanding := n } →
      ∀ s, s = countWaits w e →
      s.node? 0 = some e ∧ s.agent.wait = w ∧ s.ru.admitting = none ∧ 0 ∉ s.mail.quietNodes ∧
      (∀ r ∈ s.lm.waits, r.2.node ≠ 0) ∧ (∀ l ∈ s.lm.loans, l.2.holder ≠ 0)) ∧
    (∀ s e, e = { nodeA with state := .halted } → s = countWaits (.drainCount 9 0xA0 0) e →
      s.node? 0 = some e ∧ s.agent.wait = .drainCount 9 0xA0 0 ∧ s.ru.admitting = none ∧
      0 ∉ s.mail.quietNodes) ∧
    (∀ s l e, l = loanA ∨ l = { loanA with state := .ending .returned } →
      e = { nodeA with state := .halted } →
      s = (((lent l).setNode 0 e).setRecord 3
        { node := 0, volume := 42, mode := .read, deadline := 9 }).setWait (.forgetCount 9 0xA0 0) →
      s.node? 0 = some e ∧ s.agent.wait = .forgetCount 9 0xA0 0 ∧ s.ru.admitting = none ∧
      0 ∉ s.mail.quietNodes ∧ e.outstanding = 0 ∧
      (s.lm.waits.numbersWhere fun w => w.node == 0) = [3] ∧
      (s.lm.loans.numbersWhere fun l => l.holder == 0) = [10]) ∧
    (∀ s, s = { countWaits (.drainCount 9 0xA0 0) nodeA with
        ru := { part.ru with admitting := some admitting } } → s.ru.admitting ≠ none) ∧
    ∀ st e s, st = NodeState.draining ∨ st = .halted → e = { nodeA with state := st } →
      s = { part.setNode 0 e with mail := { part.mail with quietNodes := [0] } } →
      s.mail.quietNodes = 0 :: [] ∧ s.node? 0 = some e ∧ e.state = st ∧ s.agent.wait = .free ∧
      (s.setWait (.drainCount 9 0xA0 0)).agent.wait = .drainCount 9 0xA0 0 := by
  unfold asks State.Asks
  refine ⟨?_, by decide +kernel, ?_, ?_, ?_, ?_, ?_, ?_, ?_, ?_⟩
  · rintro a (rfl | rfl | rfl | rfl) <;> decide +kernel
  · rintro s rfl
    refine ⟨by decide +kernel, by decide +kernel, fun n hn => ?_⟩
    simp [State.node?, fullTbl_get nodeA 512 n hn]
  · rintro code st e s (rfl | rfl | rfl | rfl) (rfl | rfl | rfl | rfl) rfl rfl <;> decide +kernel
  · rintro s rfl
    decide +kernel
  · rintro w n e (rfl | rfl) (rfl | rfl) rfl s rfl <;> decide +kernel
  · rintro s e rfl rfl
    decide +kernel
  · rintro s l e (rfl | rfl) rfl rfl <;> decide +kernel
  · rintro s rfl
    decide
  · rintro st e s (rfl | rfl) rfl rfl <;> decide +kernel

/-- A request naming a bay. -/
def bayH (code : Byte) (b : BitVec 32) : Header := { request code with valueA := b }

theorem witness_DiskRequests :
    (∀ code, code ∈ [0x28, 0x29, 0x2A, 0x2B, 0x2D] → ∀ b, b = 5 ∨ b = 23 ∨ b = 24 →
      ∀ st, st = DriveState.standby ∨ st = .ready ∨ st = .active ∨ st = .fault →
      ∀ s, s = at5 { rdy 5 with state := st } 0 →
      asks code (bayH code b) [] s ∧ (s.unit 5).state = st ∧ (s.unit 5).queue = [] ∧
      (s.unit 5).hand = none ∧ (s.unit 5).staging = none ∧ (s.unit 5).engine.list = []) ∧
    24 ≤ (bayH 0x28 24).valueA.toNat ∧ (bayH 0x28 23).valueA.toNat = (23 : Bay).val ∧
    requestCode .wakeDisk = some 0x28 ∧ requestCode .ackService = some 0x2D ∧
    { rdy 5 with queue := [job .read 1] }.queue ≠ [] := by
  refine ⟨?_, by decide, by decide, by decide, by decide, by simp⟩
  unfold asks State.Asks
  simp only [List.mem_cons, List.not_mem_nil, or_false]
  rintro code (rfl | rfl | rfl | rfl | rfl) b (rfl | rfl | rfl) st (rfl | rfl | rfl | rfl) s rfl <;>
    decide +kernel

/-! ### Witnesses: the laws -/

/-- A part with volume 42, bay 5 spinning up on a place of the arbiter, and nothing waiting. -/
def lawful : State :=
  let s := ((bay 5 { rdy 5 with
      state := .spinningUp, inFlight := some (0, .spinUp), issued := 1,
      spinUpTimer := some (secs 30) } {}).setControls 5
    { Service.absent with lock := .locked, present := true }).setVolume 42 vol42
  { s with arb := { s.arb with places := [5] } }

theorem lawful_volume (v : Nat) (x : Volume) (h : lawful.volume? v = some x) : v = 42 ∧ x = vol42 := by
  have e : lawful.lm.volumes = [(42, vol42)] := by
    simp only [lawful, State.setVolume, bay]
    rfl
  simp only [State.volume?, e, Tbl.get] at h
  split at h
  · rename_i hv
    exact ⟨hv, (Option.some.inj h).symm⟩
  · cases h

theorem lawful_diskMap : DiskMapLaw lawful := by
  intro v w i j vol wol g h hv hw hg hh hne
  obtain ⟨rfl, rfl⟩ := lawful_volume v vol hv
  obtain ⟨rfl, rfl⟩ := lawful_volume w wol hw
  have hi : i < 3 := (List.getElem?_eq_some_iff.1 hg).1
  have hj : j < 3 := (List.getElem?_eq_some_iff.1 hh).1
  have hij : i ≠ j := fun e => hne (by rw [e])
  have : i = 0 ∨ i = 1 ∨ i = 2 := by omega
  have : j = 0 ∨ j = 1 ∨ j = 2 := by omega
  rcases ‹i = 0 ∨ i = 1 ∨ i = 2› with rfl | rfl | rfl <;>
    rcases ‹j = 0 ∨ j = 1 ∨ j = 2› with rfl | rfl | rfl <;>
    first
    | exact absurd rfl hij
    | (cases hg
       cases hh
       decide +kernel)

theorem witness_DriveLawsKept :
    CommandLaw lawful ∧ OutputLaw lawful ∧ ChannelLaw lawful ∧ ∃ t, step lawful = .next t := by
  refine ⟨?_, ?_, ⟨rfl, rfl, rfl, ?_⟩, _, rfl⟩
  · unfold CommandLaw DriveUnit.lawful
    decide +kernel
  · unfold OutputLaw
    decide +kernel
  · decide +kernel

theorem witness_SpinUpLawKept :
    CommandLaw lawful ∧ SpinUpLaw lawful ∧ lawful.spinning = [5] ∧ ∃ t, step lawful = .next t := by
  refine ⟨witness_DriveLawsKept.1, ⟨by decide, by decide, by decide, by decide, ?_, ?_⟩,
    by decide +kernel, _, rfl⟩
  · decide +kernel
  · intro tag p h
    cases h

theorem witness_DiskMapLawKept : DiskMapLaw lawful ∧ ∃ t, step lawful = .next t :=
  ⟨lawful_diskMap, _, rfl⟩

theorem witness_CapacityLawKept : CapacityLaw lawful ∧ ∃ t, step lawful = .next t := by
  refine ⟨⟨rfl, rfl, rfl, rfl, fun i => ?_, rfl, rfl, rfl⟩, _, rfl⟩
  show 0 < 64
  decide

theorem witness_HeaderRoundTrip :
    Header.parse readH.encode = some readH ∧ Header.parse (List.replicate 47 0) = none := by
  decide +kernel

/-! ### One step against the spec's worked cases -/

/-- The state after a command that answers one; the power-on state otherwise. -/
def after (c : Instr) (s : State) : State :=
  match exec c s with
  | .next t => t
  | .fault _ | .refused _ => State.reset

/-- Header of the newest frame in a port's egress queue. -/
def lastHdr (s : State) (p : Port) : Option Header := (s.port p).egress.getLast?.map OutFrame.hdr

/-- The table of R20. -/
theorem test_handles : handleOf 0 0 = 0x0000 ∧ handleOf 10 3 = 0x0283 ∧ handleOf 37 5 = 0x0945 ∧
    handleOf 37 63 = 0x097F ∧ handleOf 37 0 = 0x0940 ∧ handleOf 1023 63 = 0xFFFF := by decide

/-- R102: factor 1 is 10 s, 6 is 60 s, 15 is 150 s and 0 is 160 s; the long unit gives 5, 60 and 80
minutes. -/
theorem test_idle_times : idleTime 1 false = secs 10 ∧ idleTime 6 false = secs 60 ∧
    idleTime 15 false = secs 150 ∧ idleTime 0 false = secs 160 ∧ idleTime 1 true = secs 300 ∧
    idleTime 12 true = secs 3600 ∧ idleTime 0 true = secs 4800 := by decide

/-- Section 3.4: READ at offset 250 with count field 0 on volume 42. -/
theorem test_cut_read : (vol42.cut 250 256).map (fun c => (c.bay, c.start, c.length, c.window)) =
    [(5, 1000250, 50, 250), (9, 50000, 100, 300), (5, 2000000, 106, 400)] := by decide

/-- Section 3.4: CHECK at offset 10, TO_END. -/
theorem test_cut_check : (vol42.cut 10 1390).map (fun c => (c.bay, c.start, c.length)) =
    [(5, 1000010, 290), (9, 50000, 100), (5, 2000000, 1000)] := by decide

/-- The state of section 2.11: entries 0 to 9 are in use on another volume, entry 10 has generation 3. -/
def ex211 (now : Nat) (vol : Volume) (loans : Tbl Loan) (waits : Tbl WaitRec) : State :=
  { part with
    now := secs now
    lm := { part.lm with
      volumes := [(42, vol)]
      loans := ((List.range 10).map fun i => (i, { loanA with holder := 9, volume := 5 })) ++ loans
      generations := [(10, 3)]
      waits := waits } }

/-- t = 0: BORROW, READ, wait limit 0 is granted with handle 0283h. -/
theorem test_borrow_granted :
    ∀ t, t = after .borrow (toLm (borrowH 0) (ex211 0 vol42 [] [])) →
      lastHdr t 2 = some { Header.blank with
        kind := 0x20, tag := 5, subcode := 0x01, code := Code.ok.value, handle := 0x0283, volume := 42,
        valueA := 60 } ∧
      (t.loan? 10).map Loan.termDeadline = some (secs 60) ∧
      (t.volume? 42).map Volume.state = some .lent := by
  rintro t rfl
  decide +kernel

/-- t = 1: BORROW, WRITE, wait limit 20 beside a READ loan waits at position 1 with deadline 21. -/
theorem test_borrow_queued :
    ∀ vol t, vol = { vol42 with state := .lent, loanCount := 1 } →
      t = after .borrow (toLm { borrowH 20 with code := 2 } (ex211 1 vol [(10, { loanA with holder := 1 })] [])) →
      lastHdr t 2 = some { Header.blank with
        kind := 0x20, tag := 5, subcode := 0x01, code := Code.queued.value, volume := 42, valueA := 1,
        valueB := 20 } ∧
      (t.lm.waits.get 0).map WaitRec.deadline = some (secs 21) := by
  rintro vol t rfl rfl
  decide +kernel

/-- t = 21: B's wait deadline passes, C is granted entry 11 with handle 02C0h and term deadline 81. -/
theorem test_wait_expiry :
    ∀ vol t, vol = { vol42 with state := .lent, loanCount := 1, waitList := [0, 1] } →
      t = after (.waitTimerExpiry 0) (ex211 21 vol [(10, { loanA with holder := 1 })]
        [(0, { node := 2, volume := 42, mode := .write, deadline := secs 21 }),
         (1, { node := 0, volume := 42, mode := .read, deadline := secs 102 })]) →
      lastHdr t 2 = some { Header.blank with
        kind := 0x23, subcode := 0x01, handle := 0x02C0, volume := 42, code := 1, valueA := 60 } ∧
      (t.loan? 11).map Loan.termDeadline = some (secs 81) ∧
      (t.volume? 42).map (fun v => (v.waitList, v.loanCount)) = some ([], 2) := by
  rintro vol t rfl rfl
  decide +kernel

/-- t = 30: RETURN of 0283h is answered OK; entry 10's generation becomes 4. -/
theorem test_return :
    ∀ vol t, vol = { vol42 with state := .lent, loanCount := 2 } →
      t = after .returnLoan (toLm (loanH 0x03 0x0283) (ex211 30 vol [(10, loanA)] [])) →
      t.loan? 10 = none ∧ t.generation 10 = 4 ∧
      (t.volume? 42).map Volume.loanCount = some 1 := by
  rintro vol t rfl rfl
  decide +kernel

/-- t = 55: RENEW in RECALLING with grace deadline 70 is answered IN_RECALL with 15 s. -/
theorem test_renew_in_recall :
    ∀ vol t, vol = { vol42 with state := .lent, loanCount := 1 } →
      t = after .renew (toLm (loanH 0x02 0x0283)
        (ex211 55 vol [(10, { loanA with state := .recalling (secs 70) })] [])) →
      (lastHdr t 2).map (fun h => (h.code, h.valueA)) = some (Code.inRecall.value, 15) := by
  rintro vol t rfl rfl
  decide +kernel

/-- t = 70: the grace expiry frees C's loan and E is granted WRITE on entry 10 with handle 0284h. -/
theorem test_grace_expiry :
    ∀ vol t, vol = { vol42 with state := .lent, loanCount := 1, waitList := [0] } →
      t = after (.graceExpiry 11) { ex211 70 vol [(11, { loanA with holder := 1, state := .recalling (secs 70) })]
          [(0, { node := 0, volume := 42, mode := .write, deadline := secs 325 })] with
        lm := { (ex211 70 vol [(11, { loanA with holder := 1, state := .recalling (secs 70) })]
          [(0, { node := 0, volume := 42, mode := .write, deadline := secs 325 })]).lm with
            generations := [(10, 4)] } } →
      (lastHdr t 2).map Header.handle = some 0x0284 ∧ t.generation 11 = 1 ∧
      (t.loan? 10).map Loan.termDeadline = some (secs 130) := by
  rintro vol t rfl rfl
  decide +kernel

/-- Section 12.2, t = 20: the term expiry sends ENDED with EXPIRED and tells the manager; with the slot
empty at the expiry the manager is not told (R47). -/
theorem test_term_expiry :
    ∀ vol s slot t, vol = { vol42 with state := .lent, loanCount := 2 } →
      s = asked (request 3) [] (ex211 60 vol [(10, loanA)] []) → slot = s.agent.slot ∨ slot = none →
      t = after (.termExpiry 10) { s with agent := { s.agent with slot := slot } } →
      (lastHdr t 2).map (fun h => (h.kind, h.subcode, h.handle, h.detail)) =
        some (0x23, 0x03, 0x0283, EndReason.expired.value) ∧
      t.mail.lmToAgent.length = (if slot.isSome then 1 else 0) ∧ t.generation 10 = 4 := by
  rintro vol s slot t rfl rfl (rfl | rfl) rfl <;> decide +kernel

/-- R47: an expiry that waits to be notified when the manager leaves is not notified to the next. -/
theorem test_detach_drops_expiry :
    ∀ s, s = asked (request 2) [] State.reset →
      (after .detach { s with mail := { s.mail with lmToAgent :=
        [.notice (.loanExpired 0x0283 42 .read 0xA0), .notice (.clearDone 3 1)] } }).mail.lmToAgent =
        [.notice (.clearDone 3 1)] := by
  rintro s rfl
  decide +kernel

/-- Section 3.4: READ at offset 1,300 with count field 200 covers 100 blocks, SHORT set. -/
theorem test_read_short :
    ∀ t, t = after .read (toRu (blockH .read 1300 200) [] (lent loanA)) →
      t.ru.admitting.map (fun a => (a.requested, a.effective, a.short, a.cuts.map Cut.start)) =
        some (200, 100, true, [2000900]) := by
  rintro t rfl
  decide +kernel

/-- Section 3.4: READ at offset 1,400 is refused OUT_OF_WINDOW. -/
theorem test_read_out_of_window :
    ∀ t, t = after .read (toRu (blockH .read 1400 1) [] (lent loanA)) →
      (lastHdr t 2).map (fun h => (h.kind, h.subcode, h.code)) =
        some (0x22, 0x10, Code.outOfWindow.value) ∧ t.ru.admitting = none := by
  rintro t rfl
  decide +kernel

/-- Section 3.4: WRITE at offset 1,399 with count 2 covers one block, SHORT set. -/
theorem test_write_short :
    ∀ t, t = after .write (toRu (blockH .write 1399 2) [] (lent { loanA with mode := .write })) →
      t.ru.admitting.map (fun a => (a.effective, a.short, a.cuts.map Cut.start)) =
        some (1, true, [2000999]) := by
  rintro t rfl
  decide +kernel

/-- Section 3.4: CHECK at offset 0 with count field 0 asks for 65,536 blocks and covers 1,400. -/
theorem test_check_short :
    ∀ t, t = after .check (toRu (blockH .check 0 0) [] (lent loanA)) →
      t.ru.admitting.map (fun a => (a.requested, a.effective, a.short)) =
        some (65536, 1400, true) := by
  rintro t rfl
  decide +kernel

/-- R35, section 12.2: a claim on a HELD loan is accepted and renews the term. -/
theorem test_loan_claim :
    ∀ t, t = after .loanClaim { claimed 0x0283 loanA with now := secs 24 } →
      t.mail.claimAnswer = some .accepted ∧
      (t.loan? 10).map (fun l => (l.outstanding, l.termDeadline)) = some (1, secs 84) := by
  rintro t rfl
  decide +kernel

/-- Section 3.7: pieces DONE with 50, FAILED with 40 of MEDIA_ERROR and DONE with 106 give a good count
of 90 and MEDIA_ERROR. -/
theorem test_good_count :
    ∀ ps : List Piece, ps = [{ piece0 .done with length := 50, done := 50 },
        { piece0 (.failed .mediaError) with length := 100, done := 40 },
        { piece0 .done with length := 106, done := 106 }] →
      goodWalk ps = (90, some .mediaError) := by
  rintro ps rfl
  decide

/-- Section 4.11: bay 5, READY, with pause allowance 2 and a sweep of 600 blocks to go. -/
def bay5 (q : List Job) (h : Option Job) (counter : Nat) : DriveUnit :=
  { rdy 5 with
    queue := q, hand := h, pauseCounter := counter
    engine := { state := .sweeping, list := [ext 1000 600 0 true], closed := false }
    params := { (rdy 5).params with allowance := 2 } }

/-- Section 4.11, first row: a WRITE at the head of the queue is started while the counter is 0. -/
theorem test_piece_starts :
    ∀ t, t = after (.stagingEmptied 5) (bay 5
        { bay5 [job .write 1, job .check 300] none 0 with
          staging := some { piece := ref1, blocks := [0] } }
        { ruToUnit := [.emptied ref1] }) →
      (t.unit 5).inFlight = some (0, .store 1000 [0]) ∧ (t.unit 5).pauseCounter = 1 ∧
      (t.unit 5).queue = [job .check 300] ∧ (t.unit 5).state = .active := by
  rintro t rfl
  decide +kernel

/-- Section 4.11: the first run of a CHECK piece ends with the counter at 2, so a chunk of 256 blocks is
started and the counter set to 0. -/
theorem test_chunk_after_run :
    ∀ t, t = after (.probeCompletion 5 7 .good) (bay 5
        { bay5 [job .read 50] (some (job .check 300)) 2 with
          state := .active, inFlight := some (7, .probe 1000 256) } {}) →
      ((t.unit 5).inFlight.map Prod.snd) = some (.zero 1000 256) ∧ (t.unit 5).pauseCounter = 0 ∧
      (t.unit 5).hand.map Job.done = some 256 := by
  rintro t rfl
  decide +kernel

/-- Section 4.11: after that chunk the CHECK piece in hand goes on with its last 44 blocks. -/
theorem test_run_after_chunk :
    ∀ t, t = after (.zeroCompletion 5 7 .good) (bay 5
        { bay5 [job .read 50] (some { job .check 300 with done := 256 }) 0 with
          state := .active, inFlight := some (7, .zero 1000 256) } {}) →
      ((t.unit 5).inFlight.map Prod.snd) = some (.probe 1256 44) ∧ (t.unit 5).pauseCounter = 1 ∧
      (t.unit 5).engine.list.map Extent.progress = [256] := by
  rintro t rfl
  decide +kernel

/-- Section 4.11: a good FETCH stages its blocks, and nothing is started before they are placed. -/
theorem test_fetch_stages :
    ∀ t, t = after (.fetchCompletion 5 7 (.good [1, 2])) (bay 5
        { bay5 [] (some (job .read 2)) 2 with
          state := .active, inFlight := some (7, .fetch 1000 2) } {}) →
      (t.unit 5).state = .ready ∧ (t.unit 5).inFlight = none ∧
      (t.bmail 5).unitToRu = [.staged ref0 2 false] := by
  rintro t rfl
  decide +kernel

/-- Section 4.12: a command timer's expiry puts bay 9 into FAULT and fails its pieces. -/
theorem test_command_timer :
    ∀ t, t = after (.commandTimerExpiry 5) (at5 { flying .active (.store 1000 [0]) with
        hand := some (job .write 1), queue := [{ job .read 40 with piece := ref1 }],
        engine := eng (.gathering 99) [ext 0 9 0 true] } 4) →
      (t.unit 5).state = .fault ∧ (t.unit 5).timeouts = 1 ∧
      (t.bmail 5).unitToRu = [.failed ref0 .diskFault 0, .failed ref1 .diskFault 0] ∧
      (t.bmail 5).unitToLm = [.extentFailed 3 0, .health .fault (some (disk 5)) false] := by
  rintro t rfl
  decide +kernel

/-- Section 4.12: the completion that arrives after the fault is ignored. -/
theorem test_late_completion :
    exec (.storeCompletion 5 7 .good) (at5 { rdy 5 with state := .fault, issued := 8 } 5) =
      .next (at5 { rdy 5 with state := .fault, issued := 8 } 5) := by rfl

/-- Section 5.7: with the count equal to the budget a wanted bay waits. -/
theorem test_spin_up_wanted :
    (after (.spinUpWanted 5) (arbiter { budget := 4, places := [3, 7, 9, 12], waitOrder := [] } .wanted)).arb =
      { budget := 4, places := [3, 7, 9, 12], waitOrder := [5] } := by
  decide +kernel

/-- Section 5.7: an ended spin-up gives its place to the oldest waiting bay. -/
theorem test_spin_up_ended :
    ∀ t, t = after (.spinUpEnded 5)
        (arbiter { budget := 4, places := [3, 5, 9, 12], waitOrder := [14, 20] } .ended) →
      t.arb = { budget := 4, places := [3, 9, 12, 14], waitOrder := [20] } ∧
      (t.bmail 14).grants = 1 := by
  rintro t rfl
  decide +kernel

/-- Section 5.7: a grant that finds the unit ABSENT is declined. -/
theorem test_grant_declined :
    ((after (.spinUpGrant 5) (bay 5 DriveUnit.absent { grants := 1 })).bmail 5).unitToArb =
      [.declined] := by
  decide +kernel

/-- R73, R75: a delivery timer fails both STAGED pieces of its request with OVERRUN, and the END follows. -/
theorem test_overrun_two_staged :
    ∀ t, t = after (.deliveryTimerExpiry 0)
        { (work reqA (.staged 1 false 9) (.staged 1 true 30)).setDelivery 2 [0, 1] with now := 9 } →
      t.request? 0 = none ∧ t.delivery 2 = [] ∧ (t.bmail 5).ruToUnit = [.emptied ref0] ∧
      (t.bmail 9).ruToUnit = [.emptied { num := 1, serial := 5 }] ∧
      (lastHdr t 2).map (fun h => (h.kind, h.code)) = some (0x22, Code.overrun.value) := by
  rintro t rfl
  decide +kernel

/-- R131: on a port that the manager and a node share, the notice of the end of a clear comes first, the
GRANTED or WAIT_EXPIRED of the waiting record after it. -/
theorem test_clear_notice_first :
    ∀ m c k e s, (m = UnitToLm.extentDone 3 0 ∧ c = Instr.extentDone 7 ∧ k = (0x06 : Byte) ∧ e = (0x01 : Byte)) ∨
        (m = .extentFailed 3 0 ∧ c = .extentFailed 7 ∧ k = 0x07 ∧ e = 0x04) →
      s = clearing .listed { listed := 1 } [m] →
      ∀ t, t = after c ({ s with
        nodes := [(0, nodeA)],
        agent := { s.agent with slot := some { addr := 0xB0, port := 2, seq := 7 } },
        lm := { s.lm with
          volumes := [(3, { volScr with
            state := .clearing, loanCount := 0, segments := [{ seg 7 0 256 with clear := .listed }],
            waitList := [0] })],
          waits := [(0, { node := 0, volume := 3, mode := .sole, deadline := 9 })] } }.setPort 2 upPort) →
      (t.port 2).egress.map (fun f => (f.hdr.kind, f.hdr.subcode)) = [(0x32, k), (0x23, e)] ∧
      t.mail.lmToAgent = [] := by
  rintro m c k e s (⟨rfl, rfl, rfl, rfl⟩ | ⟨rfl, rfl, rfl, rfl⟩) rfl t rfl <;> decide +kernel

/-- Section 12.3: an extent above the sweep position joins the CURRENT extents in order. -/
theorem test_clear_extent :
    ∀ t, t = after (.clearExtent 5) (bay 5
        { flying .active (.fetch 0 1) with
          engine := eng .sweeping [ext 3000 100 0 true, ext 6000 100 0 true] }
        { lmToUnit := [.extent 3 0 (disk 5).serial 5000 100] }) →
      (t.unit 5).engine.list = [ext 3000 100 0 true, ext 5000 100 0 true, ext 6000 100 0 true] := by
  rintro t rfl
  decide +kernel

/-- Section 12.3: the gather expiry sorts the extents by start block. -/
theorem test_gather_expiry :
    ∀ t, t = after (.gatherTimerExpiry 5) (at5 { flying .active (.fetch 0 1) with
        engine := eng (.gathering 4) [ext 7000 100 0 true, ext 1000 100 0 true, ext 4000 100 0 true] }
        4) →
      (t.unit 5).engine = eng .sweeping [ext 1000 100 0 true, ext 4000 100 0 true,
        ext 7000 100 0 true] := by
  rintro t rfl
  decide +kernel

/-- Section 12.4, t = 0: a press sets flag and timer, and the lamp blinks while the bay stays locked. -/
theorem test_button_press :
    ∀ t, t = after (.buttonPress 5) (at5 (flying .active (.zero 0 1)) 0) →
      (t.controls 5).pressedFlag = true ∧ (t.controls 5).holdTimer = some (secs 6) ∧
      (t.controls 5).lamp = .blinking ∧ (t.controls 5).lock = .locked := by
  rintro t rfl
  decide +kernel

/-- Section 12.4, t = 13: a good SPIN-DOWN ends the release in SERVICE, lamp ON, UNLOCKED. -/
theorem test_release_ends :
    ∀ t, t = after (.spinDownCompletion 5 7 .good)
        (at5 { flying .spinningDown .spinDown with releaseUnderWay := true } 0) →
      (t.unit 5).state = .service ∧ (t.unit 5).releaseUnderWay = false ∧
      (t.controls 5).lamp = .on ∧ (t.controls 5).lock = .unlocked := by
  rintro t rfl
  decide +kernel

/-- R84, R142: a disk inserted in an empty bay is identified under the piece limit. -/
theorem test_presence_gained :
    ∀ t, t = after (.presenceGained 5) State.reset →
      (t.unit 5).state = .identifying ∧ (t.unit 5).inFlight = some (0, .identify) ∧
      (t.unit 5).commandTimer = some (secs 10) ∧ (t.controls 5).lock = .locked := by
  rintro t rfl
  decide +kernel

/-- R86: an IDENTIFY of capacity 0 is a failed one. -/
theorem test_identify_capacity_zero :
    ((after (.identifyCompletion 5 7 (.good 1 0)) (at5 (flying .identifying .identify) 0)).unit 5).state =
      .fault := by
  decide +kernel

/-- R161: a fill of ON bytes does not pause; a byte more does, with time 65,535 and a repeat 20 ms on. -/
theorem test_pausing :
    ∀ p, p = { upPort with ingress := [{ inF 0 with payload := [] }] } →
      (p.examineAt 98304 0).pausing = false ∧ (p.examineAt 98305 0).pausing = true ∧
      (p.examineAt 98305 0).wire = .pause 65535 ∧
      (p.examineAt 98305 0).repeatTimer = some (20 * msec) := by
  rintro p rfl
  decide

/-- R163: pause time 1 is 512 bit times. -/
theorem test_received_pause :
    ((after (.receivedPause 0 1 true) (onPort 0 upPort)).port 0).receivedPause = some 512 := by
  decide +kernel

/-- Section 1.11: VOLUME_EXISTS comes before DISK_UNAVAILABLE, which a healthy bay 9 with 50,050 blocks
turns into OUT_OF_RANGE. -/
theorem test_define_refusals :
    ∀ code : State → Option Byte,
      code = (fun s => (lastHdr (after .defineVolume (asked (defineH 42) def42
        (s.setPort 1 upPort))) 1).map Header.code) →
      code (state9 .fault part) = some Code.volumeExists.value ∧
      code (state9 .fault bare) = some Code.diskUnavailable.value ∧
      code (capacity9 50050) = some Code.outOfRange.value ∧
      code (capacity9 50100) = some Code.ok.value := by
  rintro code rfl
  decide +kernel

/-- R12, R13: a unit that is STANDBY while its report is on its way is healthy, the new volume is not
impaired at that moment, and after a fault it is from the report onward (R7). -/
theorem test_define_before_report :
    ∀ s t, s = (state9 .standby bare).setLmBay 9 {} →
      t = (state9 .fault (after .defineVolume (asked (defineH 42) def42 s))).setBmail 9
        { unitToLm := [.health .fault (some (disk 9)) false] } →
      (t.volume? 42).map (fun v => t.impaired v) = some false ∧
      ((after (.healthReport 9) t).volume? 42).map (fun v => (after (.healthReport 9) t).impaired v) =
        some true := by
  rintro s t rfl rfl
  decide +kernel

/-- R13: term 0 and grace 0 stand for 60 s and 30 s. -/
theorem test_define_defaults :
    ∀ t, t = after .defineVolume (asked (defineH 9) (defined 3 0 0 [(5, 0, 500000)]) bare) →
      (t.volume? 9).map (fun v => (v.cls, v.term, v.grace, v.state)) =
        some (.scratch, 60, 30, .idle) := by
  rintro t rfl
  decide +kernel

/-- R37, section 2.11, t = 40: RECALL_LOAN sets the grace deadline 30 s ahead. -/
theorem test_recall :
    ∀ t, t = after .recallLoan (asked { request 0x18 with handle := 0x0283 } []
        { lent loanA with now := secs 40 }) →
      (t.loan? 10).map Loan.state = some (.recalling (secs 70)) := by
  rintro t rfl
  decide +kernel

/-- R170: an ATTACH fills the empty slot. -/
theorem test_attach :
    ∀ s, s = asked (request 1) [] State.reset →
      (after .attach { s with agent := State.reset.agent }).agent.slot =
        some { addr := 0xB0, port := 1, seq := 0 } := by
  rintro s rfl
  decide +kernel

/-- Section 5.7: a budget below the count is refused PARAM_CONFLICT. -/
theorem test_budget_refused :
    ∀ s t, s = (asked (request 3) [] (onPort 3 upPort)).setWait (.budget 9 (blockOf 1 2 0 0)) →
      t = after .budgetChange { s with arb := { budget := 4, places := [7, 9, 14, 20], waitOrder := [16] } } →
      t.arb = { budget := 4, places := [7, 9, 14, 20], waitOrder := [16] } ∧
      (lastHdr t 3).map Header.code = some Code.paramConflict.value := by
  rintro s t rfl rfl
  decide +kernel

/-- R145: the lowest free node entry is taken, ADMITTED, with no last port. -/
theorem test_admit :
    ∀ t, t = after .admitNode (asked (nodeH 0x20 0xC0) [] part) →
      t.node? 1 = some { nodeA with addr := 0xC0, lastPort := none } := by
  rintro t rfl
  decide +kernel

/-- R80: a quiet report that is taken while the count for a drain is asked for drains no node. -/
theorem test_drain_waits_for_count :
    ∀ t, t = after .nodeQuiet { countWaits (.drainCount 9 0xA0 0) { nodeA with state := .draining } with
        mail := { part.mail with quietNodes := [0] } } →
      (t.node? 0).map Node.state = some .draining ∧ t.mail.quietNodes = [] := by
  rintro t rfl
  decide +kernel

/-- R172: while the agent waits, a MANAGE frame of another source is not discarded: the classifier waits
with it. -/
theorem test_manage_waits :
    ∀ f t, f = frame 0xC0 { request 3 with kind := 0x30 } [] →
      t = after .classifyFrame ((arrived f).setWait .status) →
      (t.port 2).unknownSource = 0 ∧ t.cls.passed = some { dest := .agent, port := 2, frame := f } ∧
      exec .classifyFrame t = .next t := by
  rintro f t rfl rfl
  refine ⟨by decide +kernel, by decide +kernel, rfl⟩

/-- R166: a frame is sent with the port's own address as its source and with type B7A6h. -/
theorem test_sent_source :
    ∀ s, s = onPort 0 { upPort with wire := .frame, egress := [plainF 1] } →
      (s.sending 0).map (fun f => (f.src, f.dst, f.type, f.payload.length)) =
        some (Config.portAddress 0, some 0xA0, .alt, 49) := by
  rintro s rfl
  rfl

/-- R148: a frame with a fifth tag bit is malformed, check 4. -/
theorem test_malformed_tag :
    malformed { borrowH 0 with tag := 0x10 }.encode = some .reservedSet ∧
    malformed (borrowH 0).encode = none := by
  decide +kernel

/-- R180, R181: the bytes of a BORROW frame, written out: version 1, kind 01h, tag 5, volume 42 at byte
17, mode READ at byte 16, wait limit 20 at bytes 20 to 23. -/
theorem test_borrow_bytes :
    Header.parse ([1, 0x01, 0, 5, 0, 0, 0, 0, 0, 0, 0, 0, 0, 0, 0, 0, 1, 42, 0, 0, 0, 0, 0, 20] ++
      List.replicate 24 0) = some (borrowH 20) := by
  decide +kernel

/-- R180, R181: the bytes of a READ frame: handle 0283h at bytes 4 and 5, offset 250 at bytes 8 to 13,
count at bytes 14 and 15. -/
theorem test_read_bytes :
    Header.parse ([1, 0x10, 0, 5, 0x02, 0x83, 0, 0, 0, 0, 0, 0, 0, 250, 1, 0x2C] ++
      List.replicate 32 0) = some (blockH .read 250 300) := by
  decide +kernel

/-- The words of the table spell no command: its rows have no bits. -/
theorem test_no_words : decodeTableWord 8 0 = none ∧ decodeTableWord 64 1 = none := by decide

end Sys2Proof.Tests
end

section
/-! SUPPORT. The disk map and the sizes of the tables (R1, R8, R19, R23, R52, R62, R143): what each writer and
each shared operation keeps of the two laws. Only DEFINE_VOLUME adds a segment to the disk map; every other
writer of a volume leaves its segments where they lie. -/

namespace Sys2Proof.Machine

/-- The blocks of a disk that a segment takes, which is all that R8 reads of it. -/
def Segment.span (g : Segment) : Serial × Nat × Nat := (g.identity, g.base, g.length)

theorem overlaps_of_span {g g' h h' : Segment} (eg : Segment.span g = Segment.span g')
    (eh : Segment.span h = Segment.span h') : overlaps g h = overlaps g' h' := by
  simp only [Segment.span, Prod.mk.injEq] at eg eh
  simp only [overlaps, eg, eh]

theorem overlaps_comm (g h : Segment) : overlaps g h = overlaps h g := by
  rw [Bool.eq_iff_iff]
  simp only [overlaps, Bool.and_eq_true, beq_iff_eq, decide_eq_true_eq]
  constructor <;> rintro ⟨⟨e, h1⟩, h2⟩ <;> exact ⟨⟨e.symm, h2⟩, h1⟩

/-- Between two states the disk map law (R8) and the law of capacities are kept. -/
structure TablesKept (s t : State) : Prop where
  diskMap : DiskMapLaw s → DiskMapLaw t
  capacity : CapacityLaw s → CapacityLaw t

theorem TablesKept.refl (s : State) : TablesKept s s := ⟨id, id⟩

theorem TablesKept.trans {s t u : State} (h : TablesKept s t) (k : TablesKept t u) : TablesKept s u :=
  ⟨k.diskMap ∘ h.diskMap, k.capacity ∘ h.capacity⟩

theorem TablesKept.foldl {α : Type} (f : State → α → State) (h : ∀ s x, TablesKept s (f s x))
    (xs : List α) (s : State) : TablesKept s (xs.foldl f s) := by
  induction xs generalizing s with
  | nil => exact .refl s
  | cons x xs ih => exact (h s x).trans (ih _)

/-- The laws read the tables alone. -/
theorem TablesKept.of_tables {s t : State} (nodes : t.nodes = s.nodes)
    (volumes : t.lm.volumes = s.lm.volumes) (loans : t.lm.loans = s.lm.loans)
    (generations : t.lm.generations = s.lm.generations) (waits : t.lm.waits = s.lm.waits)
    (requests : t.ru.requests = s.ru.requests) (pieces : t.ru.pieces = s.ru.pieces) :
    TablesKept s t := by
  constructor
  · simp only [DiskMapLaw, State.volume?, volumes, imp_self]
  · simp only [CapacityLaw, State.generation, nodes, volumes, loans, generations, waits, requests,
      pieces, imp_self]

/-- What writes none of the parts with tables keeps the laws. -/
theorem UnchangedBut.tablesKept {l : List Part} {s t : State} (h : UnchangedBut l s t)
    (hl : Part.nodes ∉ l ∧ Part.lm ∉ l ∧ Part.ru ∉ l) : TablesKept s t := by
  have hn : t.nodes = s.nodes := h .nodes hl.1
  have hm : t.lm = s.lm := h .lm hl.2.1
  have hr : t.ru = s.ru := h .ru hl.2.2
  exact .of_tables hn (by rw [hm]) (by rw [hm]) (by rw [hm]) (by rw [hm]) (by rw [hr]) (by rw [hr])

/-- A disk map whose every volume stood in another with its segments where they lie is as lawful. -/
theorem DiskMapLaw.of_spans {s t : State}
    (h : ∀ v e, t.volume? v = some e →
      ∃ d, s.volume? v = some d ∧ e.segments.map Segment.span = d.segments.map Segment.span)
    (hs : DiskMapLaw s) : DiskMapLaw t := by
  have find : ∀ v e (i : Nat) g, t.volume? v = some e → e.segments[i]? = some g →
      ∃ d g', s.volume? v = some d ∧ d.segments[i]? = some g' ∧ Segment.span g = Segment.span g' := by
    intro v e i g hv hi
    obtain ⟨d, hd, es⟩ := h v e hv
    have hg : (d.segments.map Segment.span)[i]? = some (Segment.span g) := by simp [← es, hi]
    rw [List.getElem?_map, Option.map_eq_some_iff] at hg
    obtain ⟨g', hg', e'⟩ := hg
    exact ⟨d, g', hd, hg', e'.symm⟩
  intro v w i j e f g k hv hw hi hj hne
  obtain ⟨d, g', hd, hg', eg⟩ := find v e i g hv hi
  obtain ⟨c, k', hc, hk', ek⟩ := find w f j k hw hj
  rw [overlaps_of_span eg ek]
  exact hs v w i j d c g' k' hd hc hg' hk' hne

theorem DiskMapLaw.of_volumes {s t : State} (h : t.lm.volumes = s.lm.volumes) (hs : DiskMapLaw s) :
    DiskMapLaw t := .of_spans (fun v e he => ⟨e, by rwa [State.volume?, h] at he, rfl⟩) hs

/-! ### The writers of one table -/

section Writers
variable (s : State)

theorem State.setVolume_tablesKept {v : Nat} {d e : Volume} (hv : s.volume? v = some d)
    (hs : e.segments.map Segment.span = d.segments.map Segment.span) :
    TablesKept s (s.setVolume v e) where
  diskMap := DiskMapLaw.of_spans fun w f hf => by
    by_cases hw : w = v
    · subst hw
      rw [State.setVolume_volume_self] at hf
      cases hf
      exact ⟨d, hv, hs⟩
    · rw [State.setVolume_volume_ne _ _ _ _ hw] at hf
      exact ⟨f, hf, rfl⟩
  capacity := by
    rintro ⟨hn, hV, hl, hg, hG, hw, hr, hp⟩
    exact ⟨hn, Tbl.set_wf _ _ _ _ hV (Tbl.lt_of_get _ _ _ _ hV hv), hl, hg, hG, hw, hr, hp⟩

theorem State.modVolume_tablesKept (v : Nat) {f : Volume → Volume}
    (hf : ∀ e, (f e).segments.map Segment.span = e.segments.map Segment.span) :
    TablesKept s (s.modVolume v f) := by
  unfold State.modVolume
  split
  · exact s.setVolume_tablesKept (by assumption) (hf _)
  · exact .refl s

theorem State.eraseVolume_tablesKept (v : Nat) : TablesKept s (s.eraseVolume v) where
  diskMap := DiskMapLaw.of_spans fun w f hf => by
    by_cases hw : w = v
    · subst hw
      simp [State.volume?, State.eraseVolume] at hf
    · refine ⟨f, ?_, rfl⟩
      simpa [State.volume?, State.eraseVolume, Tbl.get_erase_ne _ _ _ hw] using hf
  capacity := by
    rintro ⟨hn, hV, hl, hg, hG, hw, hr, hp⟩
    exact ⟨hn, Tbl.erase_wf _ _ _ hV, hl, hg, hG, hw, hr, hp⟩

theorem State.setLoan_tablesKept {i : Nat} (x : Loan) (hi : CapacityLaw s → i < 1024) :
    TablesKept s (s.setLoan i x) where
  diskMap := .of_volumes rfl
  capacity hc := by
    have hlt := hi hc
    obtain ⟨hn, hV, hl, hg, hG, hw, hr, hp⟩ := hc
    exact ⟨hn, hV, Tbl.set_wf _ _ _ _ hl hlt, hg, hG, hw, hr, hp⟩

theorem CapacityLaw.loan_lt {s : State} {i : Nat} {l : Loan} (hc : CapacityLaw s)
    (h : s.loan? i = some l) : i < 1024 := by
  obtain ⟨-, -, hl, -⟩ := hc
  exact Tbl.lt_of_get _ _ _ _ hl h

theorem State.setLoan_tablesKept_of_some {i : Nat} {l : Loan} (x : Loan) (h : s.loan? i = some l) :
    TablesKept s (s.setLoan i x) := s.setLoan_tablesKept x fun hc => hc.loan_lt h

/-- The first step of R44: the entry is free and its generation has risen by 1 modulo 64. -/
theorem State.eraseLoan_tablesKept {i : Nat} {l : Loan} (h : s.loan? i = some l) :
    TablesKept s ({ s with lm := { s.lm with loans := s.lm.loans.erase i } }.setGeneration i
      ((s.generation i + 1) % 64)) where
  diskMap := .of_volumes rfl
  capacity hc := by
    have hi := hc.loan_lt h
    obtain ⟨hn, hV, hl, hg, hG, hw, hr, hp⟩ := hc
    have hg' : (if (s.generation i + 1) % 64 = 0 then s.lm.generations.erase i
        else s.lm.generations.set i ((s.generation i + 1) % 64)).wf 1024 = true := by
      split
      · exact Tbl.erase_wf _ _ _ hg
      · exact Tbl.set_wf _ _ _ _ hg hi
    have hG' : ∀ j, (if (s.generation i + 1) % 64 = 0 then s.lm.generations.erase i
        else s.lm.generations.set i ((s.generation i + 1) % 64)).getD j 0 < 64 := by
      intro j
      by_cases hj : j = i
      · subst hj
        split
        · simp [Tbl.getD]
        · simp only [Tbl.getD_set_self]
          omega
      · have hGj : s.lm.generations.getD j 0 < 64 := hG j
        split
        · simpa [Tbl.getD, Tbl.get_erase_ne _ _ _ hj] using hGj
        · simpa [Tbl.getD_set_ne _ _ _ _ _ hj] using hGj
    exact ⟨hn, hV, Tbl.erase_wf _ _ _ hl, hg', hG', hw, hr, hp⟩

theorem State.setRecord_tablesKept {r : Nat} (w : WaitRec) (hr : r < 256) :
    TablesKept s (s.setRecord r w) where
  diskMap := .of_volumes rfl
  capacity := by
    rintro ⟨hn, hV, hl, hg, hG, hw, hq, hp⟩
    exact ⟨hn, hV, hl, hg, hG, Tbl.set_wf _ _ _ _ hw hr, hq, hp⟩

theorem State.eraseRecord_tablesKept (r : Nat) :
    TablesKept s { s with lm := { s.lm with waits := s.lm.waits.erase r } } where
  diskMap := .of_volumes rfl
  capacity := by
    rintro ⟨hn, hV, hl, hg, hG, hw, hq, hp⟩
    exact ⟨hn, hV, hl, hg, hG, Tbl.erase_wf _ _ _ hw, hq, hp⟩

theorem State.updateLoans_tablesKept (f : Loan → Loan) :
    TablesKept s { s with lm := { s.lm with loans := s.lm.loans.update f } } where
  diskMap := .of_volumes rfl
  capacity := by
    rintro ⟨hn, hV, hl, hg, hG, hw, hq, hp⟩
    exact ⟨hn, hV, Tbl.update_wf _ _ _ hl, hg, hG, hw, hq, hp⟩

theorem State.setNode_tablesKept {n : Nat} (e : Node) (h : CapacityLaw s → n < 512) :
    TablesKept s (s.setNode n e) where
  diskMap := .of_volumes rfl
  capacity hc := by
    have hlt := h hc
    obtain ⟨hn, hV, hl, hg, hG, hw, hq, hp⟩ := hc
    exact ⟨Tbl.set_wf _ _ _ _ hn hlt, hV, hl, hg, hG, hw, hq, hp⟩

theorem State.setNode_tablesKept_of_some {n : Nat} {d : Node} (e : Node) (h : s.node? n = some d) :
    TablesKept s (s.setNode n e) :=
  s.setNode_tablesKept e fun ⟨hn, _⟩ => Tbl.lt_of_get _ _ _ _ hn h

/-- An entry found by its address has a number below the size of the table. -/
theorem State.setNode_tablesKept_of_addr {a : Addr} {n : Nat} {d : Node} (e : Node)
    (h : s.nodeByAddr a = some (n, d)) : TablesKept s (s.setNode n e) :=
  s.setNode_tablesKept e fun ⟨hn, _⟩ => by
    simp only [Tbl.wf, Bool.and_eq_true, List.all_eq_true, decide_eq_true_eq] at hn
    exact hn.2 _ (List.mem_map_of_mem (f := Prod.fst) (List.mem_of_find?_eq_some h))

theorem State.modNode_tablesKept (n : Nat) (f : Node → Node) : TablesKept s (s.modNode n f) := by
  unfold State.modNode
  split
  · exact s.setNode_tablesKept_of_some _ (by assumption)
  · exact .refl s

theorem State.eraseNode_tablesKept (n : Nat) : TablesKept s { s with nodes := s.nodes.erase n } where
  diskMap := .of_volumes rfl
  capacity := by
    rintro ⟨hn, hV, hl, hg, hG, hw, hq, hp⟩
    exact ⟨Tbl.erase_wf _ _ _ hn, hV, hl, hg, hG, hw, hq, hp⟩

theorem State.setRequest_tablesKept {r : Nat} (q : Request) (h : CapacityLaw s → r < 512) :
    TablesKept s (s.setRequest r q) where
  diskMap := .of_volumes rfl
  capacity hc := by
    have hlt := h hc
    obtain ⟨hn, hV, hl, hg, hG, hw, hq, hp⟩ := hc
    exact ⟨hn, hV, hl, hg, hG, hw, Tbl.set_wf _ _ _ _ hq hlt, hp⟩

theorem CapacityLaw.request_lt {s : State} {r : Nat} {q : Request} (hc : CapacityLaw s)
    (h : s.request? r = some q) : r < 512 := by
  obtain ⟨-, -, -, -, -, -, hq, -⟩ := hc
  exact Tbl.lt_of_get _ _ _ _ hq h

theorem State.setRequest_tablesKept_of_some {r : Nat} {d : Request} (q : Request)
    (h : s.request? r = some d) : TablesKept s (s.setRequest r q) :=
  s.setRequest_tablesKept q fun hc => hc.request_lt h

theorem State.setPiece_tablesKept {n : Nat} (x : Piece) (h : CapacityLaw s → n < 1024) :
    TablesKept s (s.setPiece n x) where
  diskMap := .of_volumes rfl
  capacity hc := by
    have hlt := h hc
    obtain ⟨hn, hV, hl, hg, hG, hw, hq, hp⟩ := hc
    exact ⟨hn, hV, hl, hg, hG, hw, hq, Tbl.set_wf _ _ _ _ hp hlt⟩

theorem CapacityLaw.piece_lt {s : State} {n : Nat} {p : Piece} (hc : CapacityLaw s)
    (h : s.piece? n = some p) : n < 1024 := by
  obtain ⟨-, -, -, -, -, -, -, hp⟩ := hc
  exact Tbl.lt_of_get _ _ _ _ hp h

theorem State.setPiece_tablesKept_of_some {n : Nat} {d : Piece} (x : Piece)
    (h : s.piece? n = some d) : TablesKept s (s.setPiece n x) :=
  s.setPiece_tablesKept x fun hc => hc.piece_lt h

theorem Tbl.foldl_erase_wf {α : Type} (l : List Nat) (tb : Tbl α) (n : Nat) (h : tb.wf n = true) :
    (l.foldl (fun t i => t.erase i) tb).wf n = true := by
  induction l generalizing tb with
  | nil => exact h
  | cons i l ih => exact ih _ (Tbl.erase_wf _ _ _ h)

/-- The request and its pieces leave their tables at the request's end (R75). -/
theorem State.eraseRequest_tablesKept (r : Nat) (l : List Nat) :
    TablesKept s { s with ru := { s.ru with
      pieces := l.foldl (fun tb n => tb.erase n) s.ru.pieces,
      requests := s.ru.requests.erase r } } where
  diskMap := .of_volumes rfl
  capacity := by
    rintro ⟨hn, hV, hl, hg, hG, hw, hq, hp⟩
    exact ⟨hn, hV, hl, hg, hG, hw, Tbl.erase_wf _ _ _ hq, Tbl.foldl_erase_wf _ _ _ hp⟩

end Writers

end Sys2Proof.Machine
end

section
/-! SUPPORT. The loan manager's operations keep the disk map law and the law of capacities. -/

namespace Sys2Proof.Machine

variable (s : State)

/-! ### Segments keep their place -/

theorem map_span_of_same {f : Segment → Segment} (hf : ∀ g, Segment.span (f g) = Segment.span g)
    (l : List Segment) : (l.map f).map Segment.span = l.map Segment.span := by
  simp [List.map_map, Function.comp_def, hf]

theorem modify_span_of_same {f : Segment → Segment} (hf : ∀ g, Segment.span (f g) = Segment.span g)
    (l : List Segment) (i : Nat) : (l.modify i f).map Segment.span = l.map Segment.span := by
  refine List.ext_getElem? fun j => ?_
  simp only [List.getElem?_map, List.getElem?_modify]
  cases l[j]? with
  | none => rfl
  | some g => by_cases hij : i = j <;> simp [hij, hf]

theorem State.setClear_tablesKept (r : SegRef) (c : ClearStatus) : TablesKept s (s.setClear r c) :=
  s.modVolume_tablesKept _ fun e =>
    modify_span_of_same (f := fun g => { g with clear := c }) (fun _ => rfl) e.segments r.seg

/-! ### Creating and granting loans -/

theorem State.createLoan_tablesKept (v n : Nat) (m : LoanMode) {i : Nat} (hi : i < 1024) :
    TablesKept s (s.createLoan v n m i) := by
  unfold State.createLoan
  split
  · exact .refl s
  · rename_i vol hv
    exact (s.setLoan_tablesKept _ fun _ => hi).trans
      (State.setVolume_tablesKept _ (d := vol) (by simpa using hv) rfl)

theorem State.dropRecord_tablesKept (v r : Nat) : TablesKept s (s.dropRecord v r) :=
  (s.eraseRecord_tablesKept r).trans (State.modVolume_tablesKept _ _ fun _ => rfl)

theorem State.grantRecord_tablesKept (v r : Nat) (w : WaitRec) {i : Nat} (hi : i < 1024) :
    TablesKept s (s.grantRecord v r w i) :=
  ((s.dropRecord_tablesKept v r).trans (State.createLoan_tablesKept _ _ _ _ hi)).trans
    ((State.placeForNode_unchanged _ _ _).tablesKept (by simp))

theorem State.grantLoop_tablesKept (v : Nat) (l : List Nat) :
    TablesKept s (State.grantLoop v l s).1 := by
  induction l generalizing s with
  | nil => exact .refl s
  | cons r l ih =>
    unfold State.grantLoop
    split
    · exact .refl s
    · split
      · exact .refl s
      · split
        · exact .refl s
        · rename_i i hi
          exact (s.grantRecord_tablesKept v r _ (Tbl.lowestFree_spec _ _ _ hi).1).trans (ih _)

theorem State.setRetry_tablesKept (l : List Nat) :
    TablesKept s { s with lm := { s.lm with retry := l } } := .of_tables rfl rfl rfl rfl rfl rfl rfl

theorem State.setResetShare_tablesKept (x : Bool) :
    TablesKept s { s with lm := { s.lm with resetShare := x } } := .of_tables rfl rfl rfl rfl rfl rfl rfl

theorem State.noteRetry_tablesKept (v : Nat) (e : GrantEnd) : TablesKept s (s.noteRetry v e) :=
  s.setRetry_tablesKept _

theorem State.grantEnd_tablesKept (v : Nat) : TablesKept s (s.grantEnd v).1 := by
  unfold State.grantEnd
  split
  · exact .refl s
  · exact (s.grantLoop_tablesKept v _).trans (State.noteRetry_tablesKept _ _ _)

theorem State.grant_tablesKept (v : Nat) : TablesKept s (s.grant v) := s.grantEnd_tablesKept v

theorem State.retryLoop_tablesKept (n : Nat) : TablesKept s (State.retryLoop n s) := by
  induction n generalizing s with
  | zero => exact .refl s
  | succ n ih =>
    unfold State.retryLoop
    split
    · exact .refl s
    · rename_i v _ _
      split
      · exact .refl s
      · have h := s.grantEnd_tablesKept v
        split <;> rename_i heq <;> rw [heq] at h
        · exact h
        · exact h.trans (ih _)
        · exact h.trans (ih _)

theorem State.retryGrants_tablesKept : TablesKept s s.retryGrants := s.retryLoop_tablesKept _

theorem State.leaveRetry_tablesKept (v : Nat) : TablesKept s (s.leaveRetry v) := by
  unfold State.leaveRetry
  split
  · split
    · exact s.setRetry_tablesKept _
    · exact .refl s
  · exact .refl s

theorem State.removeRecord_tablesKept (r : Nat) (notice : Bool) :
    TablesKept s (s.removeRecord r notice) := by
  unfold State.removeRecord
  split
  · exact .refl s
  · rename_i w _
    have h := ((s.dropRecord_tablesKept w.volume r).trans
      (State.modNode_tablesKept _ w.node fun e => { e with loanWait := e.loanWait - 1 })).trans
      (State.leaveRetry_tablesKept _ w.volume)
    dsimp only
    split
    · exact h.trans ((State.placeForNode_unchanged _ _ _).tablesKept (by simp))
    · exact h

theorem State.removeAndGrant_tablesKept (r : Nat) (notice : Bool) :
    TablesKept s (s.removeAndGrant r notice) := by
  unfold State.removeAndGrant
  split
  · exact .refl s
  · split
    · exact s.removeRecord_tablesKept r notice
    · split
      · exact (s.removeRecord_tablesKept r notice).trans (State.grant_tablesKept _ _)
      · exact s.removeRecord_tablesKept r notice

/-! ### Clearing -/

theorem State.clearNotice_tablesKept (w : List Nat) (n : Notice) :
    TablesKept s (s.clearNotice w n) := by
  have h : TablesKept s (s.lmNotice n) := (s.lmTellAgent_unchanged _).tablesKept (by simp)
  unfold State.clearNotice
  split
  · exact h
  · exact h.trans ((State.flushLm_unchanged _).tablesKept (by simp))

theorem State.examineClear_tablesKept (v : Nat) : TablesKept s (s.examineClear v) := by
  unfold State.examineClear
  split
  · exact .refl s
  · rename_i vol hv
    have h (st : VolState) : TablesKept s (s.setVolume v { vol with state := st }) :=
      s.setVolume_tablesKept hv rfl
    split
    · exact .refl s
    · split
      · exact ((h _).trans (State.clearNotice_tablesKept _ _ _)).trans (State.grant_tablesKept _ v)
      · exact ((h _).trans (State.clearNotice_tablesKept _ _ _)).trans
          (.foldl _ (fun t r => t.removeRecord_tablesKept r true) _ _)

theorem State.setLmBay_tablesKept (b : Bay) (x : LmBay) : TablesKept s (s.setLmBay b x) :=
  .of_tables rfl rfl rfl rfl rfl rfl rfl

theorem State.setPending_tablesKept (b : Bay) (q : List SegRef) : TablesKept s (s.setPending b q) := by
  have h := s.setLmBay_tablesKept b { s.lmBay b with pendingClear := q }
  unfold State.setPending
  dsimp only
  split
  · exact h
  · exact h.trans ((State.lmSend_unchanged _ b _).tablesKept (by simp))

theorem State.listSegment_tablesKept (b : Bay) (r : SegRef) : TablesKept s (s.listSegment b r) := by
  unfold State.listSegment
  split
  · exact .refl s
  · split
    · exact ((s.setClear_tablesKept r _).trans (State.setLmBay_tablesKept _ b _)).trans
        ((State.lmSend_unchanged _ b _).tablesKept (by simp))
    · exact (s.setClear_tablesKept r _).trans (State.examineClear_tablesKept _ _)

theorem State.listLoop_tablesKept (b : Bay) (l : List SegRef) :
    TablesKept s (State.listLoop b l s) := by
  induction l generalizing s with
  | nil => exact .refl s
  | cons r l ih =>
    unfold State.listLoop
    split
    · exact ((s.setPending_tablesKept b l).trans (State.listSegment_tablesKept _ b r)).trans (ih _)
    · exact .refl s

theorem State.listFromHead_tablesKept (b : Bay) : TablesKept s (s.listFromHead b) :=
  s.listLoop_tablesKept b _

theorem State.failPending_tablesKept (b : Bay) : TablesKept s (s.failPending b) :=
  (s.setPending_tablesKept b []).trans (.foldl _
    (fun t r => (t.setClear_tablesKept r _).trans (State.examineClear_tablesKept _ _)) _ _)

theorem State.toClearing_tablesKept (v : Nat) : TablesKept s (s.toClearing v) := by
  unfold State.toClearing
  split
  · exact .refl s
  · rename_i vol hv
    exact ((s.setVolume_tablesKept hv (map_span_of_same
      (f := fun g => { g with clear := .pending }) (fun _ => rfl) vol.segments)).trans
      (.foldl _ (fun t (r : Bay × SegRef) => t.setPending_tablesKept r.1 _) _ _)).trans
      (.foldl _ (fun t (r : Bay × SegRef) => t.listFromHead_tablesKept r.1) _ _)

/-! ### Ending and freeing loans -/

theorem State.volumeFreed_tablesKept (v : Nat) : TablesKept s (s.volumeFreed v) := by
  unfold State.volumeFreed
  split
  · exact .refl s
  · rename_i vol hv
    have write {e : Volume} (he : e.segments = vol.segments) : TablesKept s (s.setVolume v e) :=
      s.setVolume_tablesKept hv (by rw [he])
    split
    · split
      · exact .trans (write (by rfl)) (State.toClearing_tablesKept _ v)
      · exact .trans (write (by rfl)) (State.grant_tablesKept _ v)
    · exact .trans (write (by rfl)) (State.grant_tablesKept _ v)

theorem State.checkLmReset_tablesKept : TablesKept s s.checkLmReset := by
  unfold State.checkLmReset
  split
  · exact (s.setResetShare_tablesKept false).trans ((State.lmTellAgent_unchanged _ _).tablesKept (by simp))
  · exact .refl s

theorem State.freeLoan_tablesKept (i : Nat) : TablesKept s (s.freeLoan i) := by
  unfold State.freeLoan
  split
  · exact .refl s
  · rename_i l hl
    exact ((((s.eraseLoan_tablesKept hl).trans (State.modNode_tablesKept _ _ _)).trans
      (State.volumeFreed_tablesKept _ _)).trans (State.retryGrants_tablesKept _)).trans
      (State.checkLmReset_tablesKept _)

theorem State.freeIfQuiet_tablesKept (i : Nat) : TablesKept s (s.freeIfQuiet i) := by
  unfold State.freeIfQuiet
  split
  · exact .refl s
  · split
    · exact s.freeLoan_tablesKept i
    · exact .refl s

theorem State.endWithNotice_tablesKept (i : Nat) (r : EndReason) :
    TablesKept s (s.endWithNotice i r) := by
  unfold State.endWithNotice
  split
  · exact .refl s
  · exact (s.setLoan_tablesKept_of_some _ (by assumption)).trans
      ((State.placeForNode_unchanged _ _ _).tablesKept (by simp))

theorem State.releaseLoanStep_tablesKept (b : Bay) : TablesKept s (s.releaseLoanStep b) :=
  .foldl _ (fun t i => (t.endWithNotice_tablesKept i _).trans (State.freeIfQuiet_tablesKept _ i)) _ s

theorem State.forgetLoanStep_tablesKept (n : Nat) : TablesKept s (s.forgetLoanStep n) :=
  ((TablesKept.foldl _ (fun t r => t.removeAndGrant_tablesKept r false) _ s).trans
    (State.updateLoans_tablesKept _ _)).trans (.foldl _ (fun t i => t.freeLoan_tablesKept i) _ _)

theorem State.beginRelease_tablesKept (b : Bay) : TablesKept s (s.beginRelease b) :=
  (((s.setLmBay_tablesKept b _).trans (State.releaseLoanStep_tablesKept _ b)).trans
    (State.failPending_tablesKept _ b)).trans ((State.lmSend_unchanged _ b _).tablesKept (by simp))

/-! ### Frames of nodes -/

theorem State.loan_of_currentLoan {h : BitVec 16} {l : Loan} (hl : s.currentLoan h = some l) :
    s.loan? (handleIndex h) = some l := by
  unfold State.currentLoan at hl
  split at hl
  · split at hl
    · cases hl
      assumption
    · cases hl
  · cases hl

theorem State.loan_of_loanOf {h : BitVec 16} {n : Nat} {l : Loan} (hl : s.loanOf h n = some l) :
    s.loan? (handleIndex h) = some l := by
  unfold State.loanOf at hl
  split at hl
  · split at hl
    · cases hl
      exact s.loan_of_currentLoan (by assumption)
    · cases hl
  · cases hl

theorem State.placeForNode_tablesKept (n : Nat) (h : Header) : TablesKept s (s.placeForNode n h) :=
  (s.placeForNode_unchanged n h).tablesKept (by simp)

theorem State.borrowGrant_tablesKept (n v : Nat) (m : LoanMode) (vol : Volume) (h : Header) :
    TablesKept s (s.borrowGrant n v m vol h) := by
  unfold State.borrowGrant
  split
  · exact s.placeForNode_tablesKept _ _
  · rename_i i hi
    exact ((s.createLoan_tablesKept v n m (Tbl.lowestFree_spec _ _ _ hi).1).trans
      (State.modNode_tablesKept _ _ _)).trans (State.placeForNode_tablesKept _ _ _)

theorem State.borrowQueue_tablesKept (n v : Nat) (m : LoanMode) {vol : Volume} (limit : Nat)
    (h : Header) (hv : s.volume? v = some vol) :
    TablesKept s (s.borrowQueue n v m vol limit h) := by
  unfold State.borrowQueue
  split
  · exact s.placeForNode_tablesKept _ _
  · rename_i r hr
    refine .trans (.trans ?_ (State.modNode_tablesKept _ _ _)) (State.placeForNode_tablesKept _ _ _)
    exact (s.setRecord_tablesKept _ (Tbl.lowestFree_spec _ _ _ hr).1).trans
      (State.setVolume_tablesKept _ (d := vol) (by simpa using hv) (by rfl))

theorem State.borrowOutcome_tablesKept (n v : Nat) (m : LoanMode) {vol : Volume} (h : Header)
    (hv : s.volume? v = some vol) : TablesKept s (s.borrowOutcome n v m vol h) := by
  unfold State.borrowOutcome
  dsimp only
  split
  · exact s.borrowGrant_tablesKept n v m vol h
  · split
    · exact s.placeForNode_tablesKept _ _
    · exact s.borrowQueue_tablesKept n v m _ h hv

theorem State.borrow_tablesKept (n : Nat) (h : Header) : TablesKept s (s.borrow n h) := by
  unfold State.borrow
  split
  · exact .refl s
  · dsimp only
    split
    · exact s.borrowOutcome_tablesKept _ _ _ _ (by assumption)
    · exact s.placeForNode_tablesKept _ _
    · exact s.placeForNode_tablesKept _ _
    · exact .refl s

theorem State.renew_tablesKept (n : Nat) (h : Header) : TablesKept s (s.renew n h) := by
  unfold State.renew
  split
  · exact s.placeForNode_tablesKept _ _
  · rename_i l hl
    split
    · exact s.placeForNode_tablesKept _ _
    · exact s.placeForNode_tablesKept _ _
    · exact (s.setLoan_tablesKept_of_some _ (s.loan_of_loanOf hl)).trans
        (State.placeForNode_tablesKept _ _ _)

theorem State.returnLoan_tablesKept (n : Nat) (h : Header) : TablesKept s (s.returnLoan n h) := by
  unfold State.returnLoan
  split
  · exact s.placeForNode_tablesKept _ _
  · rename_i l hl
    have live := ((s.setLoan_tablesKept_of_some { l with state := .ending .returned }
      (s.loan_of_loanOf hl)).trans (State.placeForNode_tablesKept _ n
        { answerHeader h .ok with
          handle := h.handle, valueA := BitVec.ofNat 32 l.outstanding })).trans
      (State.freeIfQuiet_tablesKept _ (handleIndex h.handle))
    split
    · exact s.placeForNode_tablesKept _ _
    · exact live
    · exact live

theorem State.judgeClaim_tablesKept (c : Claim) : TablesKept s (s.judgeClaim c).2 := by
  unfold State.judgeClaim
  split
  · exact .refl s
  · rename_i l hl
    have h := s.loan_of_loanOf hl
    split
    · exact .refl s
    · exact s.setLoan_tablesKept_of_some _ h
    · exact s.setLoan_tablesKept_of_some _ h

theorem State.expireTerm_tablesKept (i : Nat) (l : Loan) : TablesKept s (s.expireTerm i l) := by
  have h : ∀ t : State, TablesKept t (t.expiredNotice i l) := fun t => by
    unfold State.expiredNotice
    split
    · exact (t.lmTellAgent_unchanged _).tablesKept (by simp)
    · exact .refl t
  exact ((s.endWithNotice_tablesKept i _).trans (h _)).trans (State.freeIfQuiet_tablesKept _ i)

theorem State.resetLoans_tablesKept : TablesKept s s.resetLoans := by
  have records := TablesKept.foldl _ (fun t r => t.removeRecord_tablesKept r true) s.lm.waits.numbers s
  have ends (l : List Nat) (t : State) := TablesKept.foldl _
    (fun t i => t.endWithNotice_tablesKept i .reset) l t
  have frees (l : List Nat) (t : State) := TablesKept.foldl _
    (fun t i => t.freeIfQuiet_tablesKept i) l t
  exact ((((records.trans (State.setRetry_tablesKept _ [])).trans (ends _ _)).trans
    (frees _ _)).trans (State.setResetShare_tablesKept _ true)).trans (State.checkLmReset_tablesKept _)

end Sys2Proof.Machine
end

section
/-! SUPPORT. The operations of the request unit and of the node block keep the disk map law and the law of
capacities. -/

namespace Sys2Proof.Machine

variable (s : State)

/-! ### Admission and completion of requests -/

theorem State.setNextSerial_tablesKept (n : Nat) :
    TablesKept s { s with ru := { s.ru with nextSerial := n } } :=
  .of_tables rfl rfl rfl rfl rfl rfl rfl

theorem State.setRuShare_tablesKept (x : Option (List Nat)) :
    TablesKept s { s with ru := { s.ru with resetShare := x } } :=
  .of_tables rfl rfl rfl rfl rfl rfl rfl

theorem State.setDelivery_tablesKept (p : Port) (l : List Nat) : TablesKept s (s.setDelivery p l) :=
  .of_tables rfl rfl rfl rfl rfl rfl rfl

theorem State.admitCuts_tablesKept (a : Admitting) (r : Nat) (l : List Cut) (ns : List Nat) :
    TablesKept s (State.admitCuts a r l s ns).1 := by
  induction l generalizing s ns with
  | nil => exact .refl s
  | cons c l ih =>
    unfold State.admitCuts
    split
    · exact .refl s
    · rename_i n hn
      exact (((s.setPiece_tablesKept _ fun _ => (Tbl.lowestFree_spec _ _ _ hn).1).trans
        (State.setNextSerial_tablesKept _ _)).trans ((State.ruSend_unchanged _ _ _).tablesKept (by simp))).trans
        (ih _ _)

theorem State.admitRequest_tablesKept (a : Admitting) : TablesKept s (s.admitRequest a) := by
  unfold State.admitRequest
  split
  · exact .refl s
  · rename_i r hr
    exact ((s.admitCuts_tablesKept a r _ _).trans
      (State.setRequest_tablesKept _ _ fun _ => (Tbl.lowestFree_spec _ _ _ hr).1)).trans
      (State.modNode_tablesKept _ _ _)

theorem State.lowerLoan_tablesKept (h : BitVec 16) : TablesKept s (s.lowerLoan h) := by
  unfold State.lowerLoan
  split
  · exact .refl s
  · rename_i l hl
    have k := s.setLoan_tablesKept_of_some { l with outstanding := l.outstanding - 1 }
      (s.loan_of_currentLoan hl)
    dsimp only
    split
    · exact k.trans ((State.setMail_unchanged _ _).tablesKept (by simp))
    · exact k

theorem State.lowerNode_tablesKept (n : Nat) (tag : BitVec 8) : TablesKept s (s.lowerNode n tag) := by
  unfold State.lowerNode
  split
  · exact .refl s
  · rename_i e he
    have k := s.setNode_tablesKept_of_some
      { e with tags := e.tags.filter (· ≠ tag), outstanding := e.outstanding - 1 } he
    dsimp only
    split
    · exact k.trans ((State.setMail_unchanged _ _).tablesKept (by simp))
    · exact k

theorem State.ruShareEnds_tablesKept (r : Nat) : TablesKept s (s.ruShareEnds r) := by
  unfold State.ruShareEnds
  split
  · exact .refl s
  · split
    · exact (s.setRuShare_tablesKept _).trans ((State.ruTellAgent_unchanged _ _).tablesKept (by simp))
    · exact s.setRuShare_tablesKept _

theorem State.finish_tablesKept (r : Nat) (q : Request) : TablesKept s (s.finish r q) :=
  (((((s.place_unchanged q.port _).tablesKept (by simp)).trans
    (State.eraseRequest_tablesKept _ r q.pieces)).trans
    (State.lowerLoan_tablesKept _ _)).trans (State.lowerNode_tablesKept _ _ _)).trans
    (State.ruShareEnds_tablesKept _ r)

theorem State.finishIfFinal_tablesKept (r : Nat) : TablesKept s (s.finishIfFinal r) := by
  unfold State.finishIfFinal
  split
  · exact .refl s
  · split
    · exact s.finish_tablesKept r _
    · exact .refl s

theorem State.requestRuns_tablesKept (r : Nat) : TablesKept s (s.requestRuns r) := by
  unfold State.requestRuns
  split
  · split
    · exact s.setRequest_tablesKept_of_some _ (by assumption)
    · exact .refl s
  · exact .refl s

/-! ### Delivery -/

theorem State.leaveDelivery_tablesKept (p : Port) (n : Nat) : TablesKept s (s.leaveDelivery p n) :=
  s.setDelivery_tablesKept p _

theorem State.placeData_tablesKept (p : Port) {n : Nat} {pc : Piece} (q : Request) (k i : Nat) (m : Bool)
    (hn : s.piece? n = some pc) : TablesKept s (s.placeData p n pc q k i m) := by
  have write (x : Piece) (f : OutFrame) : TablesKept s ((s.place p f).setPiece n x) :=
    ((s.place_unchanged p f).tablesKept (by simp)).trans
      (State.setPiece_tablesKept_of_some _ _ (d := pc) (by simpa [State.place] using hn))
  unfold State.placeData
  dsimp only
  split
  · exact (((write _ _).trans (State.leaveDelivery_tablesKept _ p n)).trans
      ((State.ruSend_unchanged _ _ _).tablesKept (by simp))).trans (State.finishIfFinal_tablesKept _ _)
  · exact write _ _

theorem State.deliverLoop_tablesKept (p : Port) (n : Nat) : TablesKept s (State.deliverLoop p n s) := by
  induction n generalizing s with
  | zero => exact .refl s
  | succ n ih =>
    unfold State.deliverLoop
    split
    · exact .refl s
    · split
      · exact (s.leaveDelivery_tablesKept p _).trans (ih _)
      · rename_i pc hpc
        split
        · split
          · exact (s.placeData_tablesKept p _ _ _ _ hpc).trans (ih _)
          · exact .refl s
        · exact (s.leaveDelivery_tablesKept p _).trans (ih _)

theorem State.deliver_tablesKept (p : Port) : TablesKept s (s.deliver p) := s.deliverLoop_tablesKept p _

theorem State.discardStaged_tablesKept (p : Port) (n : Nat) : TablesKept s (s.discardStaged p n) := by
  unfold State.discardStaged
  split
  · rename_i pc hpc
    split
    · exact ((s.setPiece_tablesKept_of_some _ hpc).trans (State.leaveDelivery_tablesKept _ p n)).trans
        ((State.ruSend_unchanged _ _ _).tablesKept (by simp))
    all_goals exact .refl s
  · exact .refl s

theorem State.overrunRequest_tablesKept {r : Nat} {q : Request} (hr : s.request? r = some q) :
    TablesKept s (s.overrunRequest r q) :=
  ((((s.setRequest_tablesKept_of_some _ hr).trans
    (.foldl _ (fun t n => t.discardStaged_tablesKept q.port n) _ _)).trans
    ((State.withdrawQueued_unchanged _ _ _).tablesKept (by simp))).trans
    (State.finishIfFinal_tablesKept _ r)).trans (State.deliver_tablesKept _ q.port)

/-! ### Drive unit reports -/

theorem State.piece_of_pieceOf {r : PieceRef} {pc : Piece} (h : s.pieceOf r = some pc) :
    s.piece? r.num = some pc := by
  unfold State.pieceOf at h
  split at h
  · split at h
    · cases h
      assumption
    · cases h
  · cases h

theorem State.endPiece_tablesKept {n : Nat} {d : Piece} (pc : Piece) (st : PieceState) (k : Nat)
    (hn : s.piece? n = some d) : TablesKept s (s.endPiece n pc st k) :=
  (s.setPiece_tablesKept_of_some _ hn).trans (State.finishIfFinal_tablesKept _ _)

theorem State.pieceStarted_tablesKept (r : PieceRef) : TablesKept s (s.pieceStarted r) := by
  unfold State.pieceStarted
  split
  · exact .refl s
  · split
    · exact (s.setPiece_tablesKept_of_some _ (s.piece_of_pieceOf (by assumption))).trans
        (State.requestRuns_tablesKept _ _)
    · exact .refl s

theorem State.pieceStaged_tablesKept (r : PieceRef) (k : Nat) (m : Bool) :
    TablesKept s (s.pieceStaged r k m) := by
  unfold State.pieceStaged
  split
  · exact .refl s
  · rename_i pc hpc
    have hp := s.piece_of_pieceOf hpc
    split
    · exact .refl s
    · split
      · exact .refl s
      · split
        · exact ((s.ruSend_unchanged _ _).tablesKept (by simp)).trans
            (State.endPiece_tablesKept _ _ _ _ (d := pc) (by simpa [State.ruSend] using hp))
        · exact ((s.setPiece_tablesKept_of_some _ hp).trans
            (State.setDelivery_tablesKept _ _ _)).trans (State.deliver_tablesKept _ _)

theorem State.pieceDone_tablesKept (r : PieceRef) : TablesKept s (s.pieceDone r) := by
  unfold State.pieceDone
  split
  · exact .refl s
  · split
    · exact .refl s
    · exact s.endPiece_tablesKept _ _ _ (s.piece_of_pieceOf (by assumption))

theorem State.requestRuns_piece (r n : Nat) : (s.requestRuns r).piece? n = s.piece? n := by
  unfold State.requestRuns
  split
  · split <;> rfl
  · rfl

theorem State.pieceFailed_tablesKept (r : PieceRef) (f : FailReason) (k : Nat) :
    TablesKept s (s.pieceFailed r f k) := by
  unfold State.pieceFailed
  split
  · exact .refl s
  · rename_i pc hpc
    have hp := s.piece_of_pieceOf hpc
    split
    · exact .refl s
    · exact .refl s
    · exact .refl s
    · split
      · exact .refl s
      · exact ((s.leaveDelivery_tablesKept _ _).trans (State.endPiece_tablesKept _ _ _ _
          (d := pc) (by simpa [State.leaveDelivery] using hp))).trans (State.deliver_tablesKept _ _)
    · exact (s.requestRuns_tablesKept _).trans
        (State.endPiece_tablesKept _ _ _ _ (d := pc) (by rwa [State.requestRuns_piece]))
    · split
      · exact .refl s
      · split
        · exact s.endPiece_tablesKept _ _ _ hp
        · exact s.endPiece_tablesKept _ _ _ hp

theorem State.pieceWithdrawn_tablesKept (r : PieceRef) (f : FailReason) :
    TablesKept s (s.pieceWithdrawn r f) := by
  unfold State.pieceWithdrawn
  split
  · exact .refl s
  · split
    · exact .refl s
    · exact s.endPiece_tablesKept _ _ _ (s.piece_of_pieceOf (by assumption))

/-! ### Block request frames and the soft reset -/

theorem State.takeRequest_tablesKept (k : ReqKind) (n : Nat) (p : Port) (h : Header) (d : List Byte) :
    TablesKept s (s.takeRequest k n p h d) := by
  unfold State.takeRequest
  split
  · exact .refl s
  · split
    · exact (s.refuse_unchanged _ _ _ _ _ _).tablesKept (by simp)
    · dsimp only
      split
      · exact (s.refuse_unchanged _ _ _ _ _ _).tablesKept (by simp)
      · exact .of_tables rfl rfl rfl rfl rfl rfl rfl

/-- A request found by its tag has a number below the size of the table. -/
theorem State.setRequest_tablesKept_of_tag {n : Nat} {tag : BitVec 8} {r : Nat} {d : Request}
    (q : Request) (h : s.requestByTag n tag = some (r, d)) : TablesKept s (s.setRequest r q) :=
  s.setRequest_tablesKept q fun ⟨_, _, _, _, _, _, hq, _⟩ => by
    simp only [Tbl.wf, Bool.and_eq_true, List.all_eq_true, decide_eq_true_eq] at hq
    exact hq.2 _ (List.mem_map_of_mem (f := Prod.fst) (List.mem_of_find?_eq_some h))

theorem State.abortTag_tablesKept (n : Nat) (p : Port) (h : Header) : TablesKept s (s.abortTag n p h) := by
  unfold State.abortTag
  split
  · exact (s.place_unchanged p _).tablesKept (by simp)
  · rename_i r q hq
    have k := (s.setRequest_tablesKept_of_tag { q with state := .aborting .aborted } hq).trans
      ((State.withdrawQueued_unchanged _ { q with state := .aborting .aborted } .aborted).tablesKept (by simp))
    split
    · exact .refl s
    · exact k
    · exact k

theorem State.resetRequest_tablesKept (r : Nat) : TablesKept s (s.resetRequest r) := by
  unfold State.resetRequest
  split
  · exact .refl s
  · exact (s.setRequest_tablesKept_of_some _ (by assumption)).trans
      ((State.withdrawQueued_unchanged _ _ _).tablesKept (by simp))

theorem State.resetRequests_tablesKept : TablesKept s s.resetRequests := by
  have h := TablesKept.foldl _ (fun t r => t.resetRequest_tablesKept r) s.ru.requests.numbers s
  unfold State.resetRequests
  dsimp only
  split
  · exact h.trans ((State.ruTellAgent_unchanged _ _).tablesKept (by simp))
  · exact h.trans (State.setRuShare_tablesKept _ _)

/-! ### The node block -/

theorem State.nodeStatus_tablesKept (h : Header) (c : Code) : TablesKept s (s.nodeStatus h c) :=
  (s.nodeStatus_unchanged h c).tablesKept (by simp)

theorem State.haltNode_tablesKept (p : Port) (f : InFrame) {a : Addr} {n : Nat} {e : Node}
    (c : HaltCause) (hn : s.nodeByAddr a = some (n, e)) : TablesKept s (s.haltNode p f n e c) := by
  have h := (((s.setPort_unchanged p ((s.port p).unclaim f)).tablesKept (by simp)).trans
    (State.setNode_tablesKept_of_addr _ { e with state := .halted } (a := a) hn)).trans
    ((State.nodeTellAgent_unchanged _
      (.notice (.nodeHalted e.addr c p (f.kind.getD Config.absentKind) e.state))).tablesKept (by simp))
  unfold State.haltNode
  dsimp only
  split
  · exact h.trans ((State.nodeTellAgent_unchanged _ _).tablesKept (by simp))
  · exact h

theorem State.passTo_tablesKept (d : PassedTo) (p : Port) (f : InFrame) : TablesKept s (s.passTo d p f) :=
  (s.setCls_unchanged _).tablesKept (by simp)

theorem State.passNodeFrame_tablesKept (p : Port) (f : InFrame) {a : Addr} {n : Nat} {e : Node}
    (hn : s.nodeByAddr a = some (n, e)) : TablesKept s (s.passNodeFrame p f n e) := by
  have h := s.setNode_tablesKept_of_addr { e with lastPort := some p } hn
  unfold State.passNodeFrame
  dsimp only
  split
  · exact h.trans (State.passTo_tablesKept _ _ _ _)
  · exact h.trans (State.passTo_tablesKept _ _ _ _)

theorem State.nodeFrame_tablesKept (p : Port) (f : InFrame) : TablesKept s (s.nodeFrame p f) := by
  unfold State.nodeFrame
  split
  · exact (s.setPort_unchanged p _).tablesKept (by simp)
  · split
    · exact (s.setPort_unchanged p _).tablesKept (by simp)
    · split
      · exact s.haltNode_tablesKept p f _ (by assumption)
      · exact s.passNodeFrame_tablesKept p f (by assumption)

theorem State.manageFrame_tablesKept (p : Port) (f : InFrame) : TablesKept s (s.manageFrame p f) := by
  unfold State.manageFrame
  split
  · exact s.passTo_tablesKept _ _ _
  · split
    · exact .refl s
    · split
      · exact s.passTo_tablesKept _ _ _
      · exact (s.setPort_unchanged p _).tablesKept (by simp)

theorem State.quietNode_tablesKept (n : Nat) : TablesKept s (s.quietNode n) := by
  unfold State.quietNode
  split
  · exact .refl s
  · split
    · exact (s.setNode_tablesKept_of_some _ (by assumption)).trans
        ((State.nodeTellAgent_unchanged _ _).tablesKept (by simp))
    · exact .refl s

theorem State.admitNode_tablesKept (h : Header) (a : Addr) : TablesKept s (s.admitNode h a) := by
  unfold State.admitNode
  split
  · exact s.nodeStatus_tablesKept h _
  · split
    · exact s.nodeStatus_tablesKept h _
    · split
      · exact s.nodeStatus_tablesKept h _
      · rename_i n hn
        exact (s.setNode_tablesKept _ fun _ => (Tbl.lowestFree_spec _ _ _ hn).1).trans
          (State.nodeStatus_tablesKept _ h _)

theorem State.readmitNode_tablesKept (h : Header) (a : Addr) : TablesKept s (s.readmitNode h a) := by
  unfold State.readmitNode
  split
  · exact s.nodeStatus_tablesKept h _
  · rename_i n e hn
    have k := (s.setNode_tablesKept_of_addr { e with state := .admitted } hn).trans
      (State.nodeStatus_tablesKept _ h .ok)
    split
    · exact k
    · exact k
    · exact s.nodeStatus_tablesKept h _
    · exact s.nodeStatus_tablesKept h _

theorem State.drainNode_tablesKept (h : Header) (a : Addr) : TablesKept s (s.drainNode h a) := by
  unfold State.drainNode
  split
  · exact s.nodeStatus_tablesKept h _
  · rename_i n e hn
    split
    · exact s.nodeStatus_tablesKept h _
    · exact s.nodeStatus_tablesKept h _
    · exact (s.addEntry_unchanged _ _).tablesKept (by simp)
    · exact (s.setNode_tablesKept_of_addr _ hn).trans ((State.setWait_unchanged _ _).tablesKept (by simp))

theorem State.drainProceeds_tablesKept (tag : BitVec 8) (a : Addr) (n : Nat) :
    TablesKept s (s.drainProceeds tag a n) := by
  unfold State.drainProceeds
  dsimp only
  split
  · exact s.nodeStatus_tablesKept _ _
  · rename_i e he
    split
    · split
      · exact (s.setNode_tablesKept_of_some _ he).trans (State.nodeStatus_tablesKept _ _ _)
      · exact ((s.setWait_unchanged _).tablesKept (by simp)).trans
          ((State.addEntry_unchanged _ _ _).tablesKept (by simp))
    · split
      · exact (s.setNode_tablesKept_of_some _ he).trans (State.nodeStatus_tablesKept _ _ _)
      · exact ((s.setWait_unchanged _).tablesKept (by simp)).trans
          ((State.addEntry_unchanged _ _ _).tablesKept (by simp))
    · exact s.nodeStatus_tablesKept _ _
    · exact s.nodeStatus_tablesKept _ _

theorem State.forgetProceeds_tablesKept (tag : BitVec 8) (a : Addr) (n : Nat) :
    TablesKept s (s.forgetProceeds tag a n) := by
  unfold State.forgetProceeds
  dsimp only
  split
  · exact s.nodeStatus_tablesKept _ _
  · split
    · exact ((s.forgetLoanStep_tablesKept n).trans (State.eraseNode_tablesKept _ n)).trans
        (State.nodeStatus_tablesKept _ _ _)
    · exact s.nodeStatus_tablesKept _ _

end Sys2Proof.Machine
end

section
/-! SUPPORT. What the checks of a definition decide (R8, R12), and that a definition which passes them keeps the
disk map law. -/

namespace Sys2Proof.Machine

variable (s : State)

/-! ### The checks of R12 -/

theorem anyOverlap_eq_false_iff (l : List Segment) :
    anyOverlap l = false ↔ l.Pairwise fun x y => overlaps x y = false := by
  induction l with
  | nil => simp [anyOverlap]
  | cons g l ih => simp [anyOverlap, ih]

theorem State.overlapping_eq_false_iff (l : List Segment) :
    s.overlapping l = false ↔
      (∀ g ∈ l, ∀ y ∈ s.definedSegments, overlaps g y = false) ∧
        l.Pairwise fun x y => overlaps x y = false := by
  simp [State.overlapping, anyOverlap_eq_false_iff]

/-- A segment of a request is placed on the bay it names, where the unit there is healthy with a disk. -/
theorem State.placeSegment_eq_some_iff (g : SegArg) (x : Segment × Nat) :
    s.placeSegment g = some x ↔ ∃ (b : Bay) (d : Disk), b.val = g.bay ∧
      (s.unit b).state.healthy = true ∧ (s.unit b).disk = some d ∧
      x = ({ bay := b, identity := d.serial, base := g.base, length := g.length, clear := .none },
        d.capacity) := by
  unfold State.placeSegment State.healthyDisk
  constructor
  · intro h
    split at h
    · rename_i hb
      split at h
      · rename_i d hd
        split at hd
        · cases h
          exact ⟨⟨g.bay, hb⟩, d, rfl, by assumption, hd, rfl⟩
        · cases hd
      · cases h
    · cases h
  · rintro ⟨b, d, hb, hh, hd, rfl⟩
    have e : (⟨g.bay, hb ▸ b.isLt⟩ : Bay) = b := Fin.ext hb.symm
    simp [← hb, hh, hd]

theorem State.placeSegments_eq_some_iff (l : List SegArg) (xs : List (Segment × Nat)) :
    s.placeSegments l = some xs ↔ s.PlacedOn l xs := by
  induction l generalizing xs with
  | nil => cases xs <;> simp [State.placeSegments, State.PlacedOn]
  | cons g l ih =>
    have step : s.placeSegments (g :: l) = some xs ↔
        ∃ x ys, s.placeSegment g = some x ∧ s.placeSegments l = some ys ∧ xs = x :: ys := by
      conv_lhs => rw [State.placeSegments]
      cases s.placeSegment g <;> cases s.placeSegments l <;> simp [eq_comm]
    rw [step]
    cases xs with
    | nil => simp [State.PlacedOn]
    | cons x ys =>
      simp only [List.cons.injEq, State.PlacedOn, List.forall₂_cons]
      rw [← s.placeSegment_eq_some_iff, ← State.PlacedOn, ← ih]
      constructor
      · rintro ⟨_, _, hx, hys, rfl, rfl⟩
        exact ⟨hx, hys⟩
      · rintro ⟨hx, hys⟩
        exact ⟨x, ys, hx, hys, rfl, rfl⟩

/-- A definition that passes every check makes a volume whose number is in range, and whose segments lie apart
from each other and from every defined segment (R8, R12). -/
theorem State.judgeDefine_accepts {d : DefineArgs} {e : Volume} (h : s.judgeDefine d = .inr e) :
    d.volume ≤ 127 ∧ (∀ g ∈ e.segments, ∀ y ∈ s.definedSegments, overlaps g y = false) ∧
      e.segments.Pairwise fun x y => overlaps x y = false := by
  unfold State.judgeDefine at h
  split at h
  · cases h
  · rename_i hgood
    split at h
    · cases h
    · split at h
      · split at h
        · cases h
        · split at h
          · cases h
          · rename_i hov
            cases h
            refine ⟨?_, (s.overlapping_eq_false_iff _).1 (Bool.eq_false_of_not_eq_true hov)⟩
            simp only [DefineArgs.valuesGood, Bool.not_eq_true, Bool.not_eq_false', Bool.and_eq_true,
              decide_eq_true_eq] at hgood
            omega
      · cases h

/-! ### The disk map after a definition -/

theorem State.mem_definedSegments {v : Nat} {e : Volume} {i : Nat} {g : Segment}
    (hv : s.volume? v = some e) (hi : e.segments[i]? = some g) : g ∈ s.definedSegments :=
  List.mem_flatMap.2 ⟨(v, e), Tbl.mem_of_get _ _ _ hv, List.mem_of_getElem? hi⟩

theorem overlaps_of_pairwise {l : List Segment} (h : l.Pairwise fun x y => overlaps x y = false)
    {i j : Nat} {g k : Segment} (hi : l[i]? = some g) (hj : l[j]? = some k) (hne : i ≠ j) :
    overlaps g k = false := by
  obtain ⟨hil, rfl⟩ := List.getElem?_eq_some_iff.1 hi
  obtain ⟨hjl, rfl⟩ := List.getElem?_eq_some_iff.1 hj
  rw [List.pairwise_iff_getElem] at h
  rcases Nat.lt_or_gt_of_ne hne with lt | lt
  · exact h _ _ hil hjl lt
  · rw [overlaps_comm]
    exact h _ _ hjl hil lt

theorem State.setVolume_diskMap {v : Nat} {e : Volume} (hs : DiskMapLaw s)
    (apart : ∀ g ∈ e.segments, ∀ y ∈ s.definedSegments, overlaps g y = false)
    (within : e.segments.Pairwise fun x y => overlaps x y = false) : DiskMapLaw (s.setVolume v e) := by
  intro u w i j f k g h hu hw hi hj hne
  by_cases cu : u = v <;> by_cases cw : w = v
  · subst cu cw
    rw [State.setVolume_volume_self] at hu hw
    cases hu; cases hw
    exact overlaps_of_pairwise within hi hj fun c => hne (by rw [c])
  · subst cu
    rw [State.setVolume_volume_self] at hu
    rw [State.setVolume_volume_ne _ _ _ _ cw] at hw
    cases hu
    exact apart g (List.mem_of_getElem? hi) h (s.mem_definedSegments hw hj)
  · subst cw
    rw [State.setVolume_volume_self] at hw
    rw [State.setVolume_volume_ne _ _ _ _ cu] at hu
    cases hw
    rw [overlaps_comm]
    exact apart h (List.mem_of_getElem? hj) g (s.mem_definedSegments hu hi)
  · rw [State.setVolume_volume_ne _ _ _ _ cu] at hu
    rw [State.setVolume_volume_ne _ _ _ _ cw] at hw
    exact hs u w i j f k g h hu hw hi hj hne

theorem State.noteDisks_tablesKept (l : List Segment) : TablesKept s (s.noteDisks l) :=
  .foldl _ (fun t (g : Segment) => t.setLmBay_tablesKept g.bay _) l s

theorem State.lmStatus_tablesKept (h : Header) (c : Code) : TablesKept s (s.lmStatus h c) :=
  (s.lmStatus_unchanged h c).tablesKept (by simp)

theorem State.define_tablesKept (h : Header) (d : DefineArgs) : TablesKept s (s.define h d) := by
  unfold State.define
  split
  · exact s.lmStatus_tablesKept h _
  · rename_i e he
    obtain ⟨hv, apart, within⟩ := s.judgeDefine_accepts he
    have write : TablesKept s (s.setVolume d.volume e) :=
      ⟨fun hs => s.setVolume_diskMap hs apart within, fun ⟨hn, hV, hl, hg, hG, hw, hr, hp⟩ =>
        ⟨hn, Tbl.set_wf _ _ _ _ hV (by omega), hl, hg, hG, hw, hr, hp⟩⟩
    exact (write.trans (State.noteDisks_tablesKept _ _)).trans (State.lmStatus_tablesKept _ h _)

theorem State.deleteVolume_tablesKept (h : Header) (v : Nat) : TablesKept s (s.deleteVolume h v) := by
  unfold State.deleteVolume
  split
  · exact s.lmStatus_tablesKept h _
  · split
    · exact s.lmStatus_tablesKept h _
    · split
      · exact s.lmStatus_tablesKept h _
      · exact (s.eraseVolume_tablesKept v).trans (State.lmStatus_tablesKept _ h _)

theorem State.clearVolume_tablesKept (h : Header) (v : Nat) : TablesKept s (s.clearVolume h v) := by
  unfold State.clearVolume
  split
  · exact s.lmStatus_tablesKept h _
  · split
    · exact s.lmStatus_tablesKept h _
    · split
      · exact s.lmStatus_tablesKept h _
      · exact (s.toClearing_tablesKept v).trans (State.lmStatus_tablesKept _ h _)

theorem State.recallLoan_tablesKept (h : Header) : TablesKept s (s.recallLoan h) := by
  unfold State.recallLoan
  split
  · exact s.lmStatus_tablesKept h _
  · rename_i l hl
    split
    · exact s.lmStatus_tablesKept h _
    · exact s.lmStatus_tablesKept h _
    · exact ((s.setLoan_tablesKept_of_some _ (s.loan_of_currentLoan hl)).trans
        (State.placeForNode_tablesKept _ _ _)).trans (State.lmStatus_tablesKept _ h _)

theorem State.releaseBay_tablesKept (h : Header) : TablesKept s (s.releaseBay h) := by
  unfold State.releaseBay
  split
  · exact s.lmStatus_tablesKept h _
  · rename_i b _
    split
    · exact s.lmStatus_tablesKept h _
    · split
      · exact s.lmStatus_tablesKept h _
      · exact (s.beginRelease_tablesKept b).trans (State.lmStatus_tablesKept _ h _)

end Sys2Proof.Machine
end

section
/-! SUPPORT. Every command keeps the disk map law and the law of capacities, and so does a step (O57, O58). -/

namespace Sys2Proof.Machine

variable (s t : State)

/-! ### Nodes and the lending protocol -/

theorem execPowerOn_tablesKept (present buttons : BitVec 24) (links : BitVec 4)
    (h : execPowerOn present buttons links s = .next t) : TablesKept s t := by
  cases h
  constructor
  · intro _ v w i j e f g k hv
    cases hv
  · exact fun _ => ⟨rfl, rfl, rfl, rfl, fun _ => Nat.zero_lt_succ _, rfl, rfl, rfl⟩

theorem execClassifyFrame_tablesKept (h : execClassifyFrame s = .next t) : TablesKept s t := by
  unfold execClassifyFrame at h
  cases h
  split
  · split
    · exact .refl s
    · rename_i p f rest _ _ _
      have k := ((s.setPort_unchanged p ((s.port p).takeOldest f rest s.now)).tablesKept (by simp)).trans
        ((State.setCls_unchanged _ { s.cls with lastServed := p }).tablesKept (by simp))
      dsimp only
      split
      · exact k.trans (State.manageFrame_tablesKept _ p f)
      · exact k.trans (State.nodeFrame_tablesKept _ p f)
  · exact .refl s

theorem execNodeQuiet_tablesKept (h : execNodeQuiet s = .next t) : TablesKept s t := by
  unfold execNodeQuiet at h
  cases h
  split
  · exact .refl s
  · exact ((s.setMail_unchanged _).tablesKept (by simp)).trans (State.quietNode_tablesKept _ _)

theorem State.freeClassifier_tablesKept : TablesKept s s.freeClassifier :=
  s.freeClassifier_unchanged.tablesKept (by simp)

theorem execBorrow_tablesKept (h : execBorrow s = .next t) : TablesKept s t := by
  unfold execBorrow at h
  cases h
  split
  · exact .refl s
  · exact s.freeClassifier_tablesKept.trans (State.borrow_tablesKept _ _ _)

theorem execRenew_tablesKept (h : execRenew s = .next t) : TablesKept s t := by
  unfold execRenew at h
  cases h
  split
  · exact .refl s
  · exact s.freeClassifier_tablesKept.trans (State.renew_tablesKept _ _ _)

theorem execReturnLoan_tablesKept (h : execReturnLoan s = .next t) : TablesKept s t := by
  unfold execReturnLoan at h
  cases h
  split
  · exact .refl s
  · exact s.freeClassifier_tablesKept.trans (State.returnLoan_tablesKept _ _ _)

theorem execLoanClaim_tablesKept (h : execLoanClaim s = .next t) : TablesKept s t := by
  unfold execLoanClaim at h
  cases h
  split
  · exact .refl s
  · exact (s.judgeClaim_tablesKept _).trans ((State.setMail_unchanged _ _).tablesKept (by simp))

theorem execLoanQuiet_tablesKept (h : execLoanQuiet s = .next t) : TablesKept s t := by
  unfold execLoanQuiet at h
  cases h
  split
  · exact .refl s
  · rename_i rest _
    have k := (s.setMail_unchanged { s.mail with quietLoans := rest }).tablesKept (by simp)
    dsimp only
    split
    · split
      · exact k.trans (State.freeLoan_tablesKept _ _)
      · exact k
    · exact k

theorem execWaitTimerExpiry_tablesKept (r : Nat) (h : execWaitTimerExpiry r s = .next t) :
    TablesKept s t := by
  unfold execWaitTimerExpiry at h
  cases h
  split
  · exact .refl s
  · split
    · exact s.removeAndGrant_tablesKept r true
    · exact .refl s

theorem execTermExpiry_tablesKept (i : Nat) (h : execTermExpiry i s = .next t) : TablesKept s t := by
  unfold execTermExpiry at h
  cases h
  split
  · exact .refl s
  · split
    · exact s.expireTerm_tablesKept i _
    · exact .refl s

theorem execGraceExpiry_tablesKept (i : Nat) (h : execGraceExpiry i s = .next t) : TablesKept s t := by
  unfold execGraceExpiry at h
  cases h
  split
  · exact .refl s
  · split
    · split
      · exact (s.endWithNotice_tablesKept i _).trans (State.freeIfQuiet_tablesKept _ i)
      · exact .refl s
    · exact .refl s
    · exact .refl s

theorem execLoanManagerReset_tablesKept (h : execLoanManagerReset s = .next t) : TablesKept s t := by
  unfold execLoanManagerReset at h
  cases h
  split
  · exact ((s.setMail_unchanged _).tablesKept (by simp)).trans (State.resetLoans_tablesKept _)
  · exact .refl s

/-! ### Block requests -/

theorem execRead_tablesKept (h : execRead s = .next t) : TablesKept s t := by
  unfold execRead at h
  cases h
  split
  · exact .refl s
  · exact s.freeClassifier_tablesKept.trans (State.takeRequest_tablesKept _ _ _ _ _ _)

theorem execWrite_tablesKept (h : execWrite s = .next t) : TablesKept s t := by
  unfold execWrite at h
  cases h
  split
  · exact .refl s
  · exact s.freeClassifier_tablesKept.trans (State.takeRequest_tablesKept _ _ _ _ _ _)

theorem execCheck_tablesKept (h : execCheck s = .next t) : TablesKept s t := by
  unfold execCheck at h
  cases h
  split
  · exact .refl s
  · exact s.freeClassifier_tablesKept.trans (State.takeRequest_tablesKept _ _ _ _ _ _)

theorem execAbort_tablesKept (h : execAbort s = .next t) : TablesKept s t := by
  unfold execAbort at h
  cases h
  split
  · exact .refl s
  · exact s.freeClassifier_tablesKept.trans (State.abortTag_tablesKept _ _ _ _)

theorem execClaimAnswer_tablesKept (h : execClaimAnswer s = .next t) : TablesKept s t := by
  unfold execClaimAnswer at h
  cases h
  split
  · have k : TablesKept s { s with ru := { s.ru with admitting := none },
                                   mail := { s.mail with claimAnswer := none } } :=
      .of_tables rfl rfl rfl rfl rfl rfl rfl
    dsimp only
    split
    · exact k.trans (State.admitRequest_tablesKept _ _)
    · exact k.trans ((State.refuse_unchanged _ _ _ _ _ _ _).tablesKept (by simp))
  · exact .refl s

theorem State.popUnitReport_tablesKept (b : Bay) (l : List UnitToRu) :
    TablesKept s (s.popUnitReport b l) := (s.popUnitReport_unchanged b l).tablesKept (by simp)

theorem execPieceStartedReport_tablesKept (b : Bay) (h : execPieceStartedReport b s = .next t) :
    TablesKept s t := by
  unfold execPieceStartedReport at h
  cases h
  split
  · exact (s.popUnitReport_tablesKept b _).trans (State.pieceStarted_tablesKept _ _)
  · exact .refl s

theorem execPieceStagedReport_tablesKept (b : Bay) (h : execPieceStagedReport b s = .next t) :
    TablesKept s t := by
  unfold execPieceStagedReport at h
  cases h
  split
  · exact (s.popUnitReport_tablesKept b _).trans (State.pieceStaged_tablesKept _ _ _ _)
  · exact .refl s

theorem execPieceDoneReport_tablesKept (b : Bay) (h : execPieceDoneReport b s = .next t) :
    TablesKept s t := by
  unfold execPieceDoneReport at h
  cases h
  split
  · exact (s.popUnitReport_tablesKept b _).trans (State.pieceDone_tablesKept _ _)
  · exact .refl s

theorem execPieceFailedReport_tablesKept (b : Bay) (h : execPieceFailedReport b s = .next t) :
    TablesKept s t := by
  unfold execPieceFailedReport at h
  cases h
  split
  · exact (s.popUnitReport_tablesKept b _).trans (State.pieceFailed_tablesKept _ _ _ _)
  · exact .refl s

theorem execPieceWithdrawnReport_tablesKept (b : Bay) (h : execPieceWithdrawnReport b s = .next t) :
    TablesKept s t := by
  unfold execPieceWithdrawnReport at h
  cases h
  split
  · exact (s.popUnitReport_tablesKept b _).trans (State.pieceWithdrawn_tablesKept _ _ _)
  · exact .refl s

theorem State.deliverAfterReport_tablesKept (p : Port) (l : List PortToRu) :
    TablesKept s ((s.popPortReport p l).deliver p) :=
  ((s.setPmail_unchanged p _).tablesKept (by simp)).trans (State.deliver_tablesKept _ p)

theorem execEgressRoom_tablesKept (p : Port) (h : execEgressRoom p s = .next t) : TablesKept s t := by
  unfold execEgressRoom at h
  cases h
  split
  · exact s.deliverAfterReport_tablesKept p _
  · exact .refl s

theorem execPortLinkChange_tablesKept (p : Port) (h : execPortLinkChange p s = .next t) :
    TablesKept s t := by
  unfold execPortLinkChange at h
  cases h
  split
  · exact s.deliverAfterReport_tablesKept p _
  · exact s.deliverAfterReport_tablesKept p _
  · exact .refl s

theorem execDeliveryTimerExpiry_tablesKept (n : Nat) (h : execDeliveryTimerExpiry n s = .next t) :
    TablesKept s t := by
  unfold execDeliveryTimerExpiry at h
  cases h
  split
  · exact .refl s
  · split
    · split
      · exact s.overrunRequest_tablesKept (by assumption)
      · exact .refl s
    · exact .refl s

theorem execRequestUnitReset_tablesKept (h : execRequestUnitReset s = .next t) : TablesKept s t := by
  unfold execRequestUnitReset at h
  cases h
  split
  · exact ((s.setMail_unchanged _).tablesKept (by simp)).trans (State.resetRequests_tablesKept _)
  · exact .refl s

theorem execTimerLimitChange_tablesKept (x : LimitTarget) (h : execTimerLimitChange x s = .next t) :
    TablesKept s t := by
  cases x with
  | driveUnit b => exact (execTimerLimitChange_frame s t _ h).1.tablesKept (by simp)
  | requestUnit =>
    unfold execTimerLimitChange at h
    cases h
    dsimp only
    split
    · exact .refl s
    · exact .of_tables rfl rfl rfl rfl rfl rfl rfl

/-! ### Clearing and bay releases -/

theorem State.takeHealth_tablesKept (b : Bay) (st : DriveState) (d : Option Disk) (r : Bool) :
    TablesKept s (s.takeHealth b st d r) := by
  have noted : TablesKept s (if st = .absent then (s.noteHealth b st d).failPending b
      else s.noteHealth b st d) := by
    split
    · exact (s.setLmBay_tablesKept b _).trans (State.failPending_tablesKept _ b)
    · exact s.setLmBay_tablesKept b _
  unfold State.takeHealth
  refine .trans ?_ (State.listFromHead_tablesKept _ b)
  split
  · exact noted.trans (State.setLmBay_tablesKept _ b _)
  · exact noted

theorem State.popUnitToLm_tablesKept (b : Bay) (l : List UnitToLm) : TablesKept s (s.popUnitToLm b l) :=
  (s.setBmail_unchanged b _).tablesKept (by simp)

theorem execHealthReport_tablesKept (b : Bay) (h : execHealthReport b s = .next t) :
    TablesKept s t := by
  unfold execHealthReport at h
  cases h
  split
  · exact (s.popUnitToLm_tablesKept b _).trans (State.takeHealth_tablesKept _ b _ _ _)
  · exact .refl s

theorem execReleaseEndReport_tablesKept (b : Bay) (h : execReleaseEndReport b s = .next t) :
    TablesKept s t := by
  unfold execReleaseEndReport at h
  cases h
  split
  · exact (s.popUnitToLm_tablesKept b _).trans (State.setLmBay_tablesKept _ b _)
  · exact (s.popUnitToLm_tablesKept b _).trans (State.takeHealth_tablesKept _ b _ _ _)
  · exact .refl s

theorem State.extentEnds_tablesKept (b : Bay) (r : SegRef) (c : ClearStatus) :
    TablesKept s (s.extentEnds b r c) :=
  (((s.setClear_tablesKept r c).trans (State.setLmBay_tablesKept _ b _)).trans
    (State.examineClear_tablesKept _ r.vol)).trans (State.listFromHead_tablesKept _ b)

theorem execExtentDone_tablesKept (b : Bay) (h : execExtentDone b s = .next t) : TablesKept s t := by
  unfold execExtentDone at h
  cases h
  split
  · exact (s.popUnitToLm_tablesKept b _).trans (State.extentEnds_tablesKept _ b _ _)
  · exact .refl s

theorem execExtentFailed_tablesKept (b : Bay) (h : execExtentFailed b s = .next t) :
    TablesKept s t := by
  unfold execExtentFailed at h
  cases h
  split
  · exact (s.popUnitToLm_tablesKept b _).trans (State.extentEnds_tablesKept _ b _ _)
  · exact .refl s

theorem execServiceOverride_tablesKept (b : Bay) (h : execServiceOverride b s = .next t) :
    TablesKept s t := by
  unfold execServiceOverride at h
  cases h
  split
  · exact .refl s
  · have k := (s.setBmail_unchanged b
      { s.bmail b with overrides := (s.bmail b).overrides - 1 }).tablesKept (by simp)
    dsimp only
    split
    · exact k
    · exact k.trans (State.beginRelease_tablesKept _ b)

/-! ### Management requests -/

theorem State.manage_tablesKept (code : Byte) (act : Header → List Byte → State → State)
    (ha : ∀ h bs u, TablesKept u (act h bs u)) : TablesKept s (s.manage code act) := by
  unfold State.manage
  split
  · rename_i p f h _
    split
    · unfold State.takeManage
      split
      · exact s.freeClassifier_tablesKept.trans ((State.discardManage_unchanged _ p).tablesKept (by simp))
      · have k := s.freeClassifier_tablesKept.trans ((State.setManagerPort_unchanged _ p).tablesKept (by simp))
        dsimp only
        split
        · exact k.trans (ha _ _ _)
        · exact k.trans ((State.answer_unchanged _ _).tablesKept (by simp))
    · exact .refl s
  · exact .refl s

theorem execDefineVolume_tablesKept (h : execDefineVolume s = .next t) : TablesKept s t := by
  cases h
  refine s.manage_tablesKept _ _ fun h bs u => ?_
  split
  · exact u.define_tablesKept h _
  · exact .refl u

theorem execDeleteVolume_tablesKept (h : execDeleteVolume s = .next t) : TablesKept s t := by
  cases h
  exact s.manage_tablesKept _ _ fun h _ u => u.deleteVolume_tablesKept h _

theorem execClearVolume_tablesKept (h : execClearVolume s = .next t) : TablesKept s t := by
  cases h
  exact s.manage_tablesKept _ _ fun h _ u => u.clearVolume_tablesKept h _

theorem execRecallLoan_tablesKept (h : execRecallLoan s = .next t) : TablesKept s t := by
  cases h
  exact s.manage_tablesKept _ _ fun h _ u => u.recallLoan_tablesKept h

theorem execReleaseBay_tablesKept (h : execReleaseBay s = .next t) : TablesKept s t := by
  cases h
  exact s.manage_tablesKept _ _ fun h _ u => u.releaseBay_tablesKept h

theorem execAdmitNode_tablesKept (h : execAdmitNode s = .next t) : TablesKept s t := by
  cases h
  exact s.manage_tablesKept _ _ fun h _ u => u.admitNode_tablesKept h _

theorem execReadmitNode_tablesKept (h : execReadmitNode s = .next t) : TablesKept s t := by
  cases h
  exact s.manage_tablesKept _ _ fun h _ u => u.readmitNode_tablesKept h _

theorem execDrainNode_tablesKept (h : execDrainNode s = .next t) : TablesKept s t := by
  cases h
  refine s.manage_tablesKept _ _ fun h _ u => ?_
  split
  · exact (u.reply_unchanged h _).tablesKept (by simp)
  · exact u.drainNode_tablesKept h _

theorem execForgetNode_tablesKept (h : execForgetNode s = .next t) : TablesKept s t := by
  cases h
  refine s.manage_tablesKept _ _ fun h _ u => ?_
  unfold State.forgetNode
  split
  · exact u.nodeStatus_tablesKept h _
  · split
    · exact u.nodeStatus_tablesKept h _
    · exact u.nodeStatus_tablesKept h _
    · exact (u.setWait_unchanged _).tablesKept (by simp)
    · exact (u.setWait_unchanged _).tablesKept (by simp)

theorem execOutstandingCountAnswer_tablesKept (h : execOutstandingCountAnswer s = .next t) :
    TablesKept s t := by
  unfold execOutstandingCountAnswer at h
  cases h
  split
  · split
    · exact s.drainProceeds_tablesKept _ _ _
    · exact .refl s
  · split
    · exact s.forgetProceeds_tablesKept _ _ _
    · exact .refl s
  all_goals exact .refl s

/-! ### Every command, and a step -/

/-- Every command keeps the laws: one that writes no part with a table by its frame, and any other by what
its operations do to the tables. -/
theorem exec_tablesKept (i : Instr) (h : exec i s = .next t) : TablesKept s t := by
  cases i with
  | powerOn present buttons links => exact execPowerOn_tablesKept s t present buttons links h
  | linkDown p => exact (execLinkDown_frame s t p h).tablesKept (by simp)
  | linkUp p => exact (execLinkUp_frame s t p h).tablesKept (by simp)
  | ingressFrame p f => exact (execIngressFrame_frame s t p f h).tablesKept (by simp)
  | pauseRepeatExpiry p => exact (execPauseRepeatExpiry_frame s t p h).tablesKept (by simp)
  | receivedPause p time good => exact (execReceivedPause_frame s t p time good h).tablesKept (by simp)
  | receivedPauseEnd p => exact (execReceivedPauseEnd_frame s t p h).tablesKept (by simp)
  | transmissionEnd p => exact (execTransmissionEnd_frame s t p h).tablesKept (by simp)
  | thresholdsTaken p => exact (execThresholdsTaken_frame s t p h).tablesKept (by simp)
  | classifyFrame => exact execClassifyFrame_tablesKept s t h
  | borrow => exact execBorrow_tablesKept s t h
  | renew => exact execRenew_tablesKept s t h
  | returnLoan => exact execReturnLoan_tablesKept s t h
  | read => exact execRead_tablesKept s t h
  | write => exact execWrite_tablesKept s t h
  | check => exact execCheck_tablesKept s t h
  | abort => exact execAbort_tablesKept s t h
  | loanClaim => exact execLoanClaim_tablesKept s t h
  | claimAnswer => exact execClaimAnswer_tablesKept s t h
  | pieceAppend b => exact (execPieceAppend_frame s t b h).1.tablesKept (by simp)
  | pieceWithdrawal b => exact (execPieceWithdrawal_frame s t b h).1.tablesKept (by simp)
  | pieceStartedReport b => exact execPieceStartedReport_tablesKept s t b h
  | pieceStagedReport b => exact execPieceStagedReport_tablesKept s t b h
  | pieceDoneReport b => exact execPieceDoneReport_tablesKept s t b h
  | pieceFailedReport b => exact execPieceFailedReport_tablesKept s t b h
  | pieceWithdrawnReport b => exact execPieceWithdrawnReport_tablesKept s t b h
  | withdrawalAnswer b => exact (execWithdrawalAnswer_frame s t b h).tablesKept (by simp)
  | egressRoom p => exact execEgressRoom_tablesKept s t p h
  | deliveryTimerExpiry piece => exact execDeliveryTimerExpiry_tablesKept s t piece h
  | loanQuiet => exact execLoanQuiet_tablesKept s t h
  | waitTimerExpiry record => exact execWaitTimerExpiry_tablesKept s t record h
  | termExpiry entry => exact execTermExpiry_tablesKept s t entry h
  | graceExpiry entry => exact execGraceExpiry_tablesKept s t entry h
  | healthReport b => exact execHealthReport_tablesKept s t b h
  | extentDone b => exact execExtentDone_tablesKept s t b h
  | extentFailed b => exact execExtentFailed_tablesKept s t b h
  | pendingClearReport b => exact (execPendingClearReport_frame s t b h).1.tablesKept (by simp)
  | clearExtent b => exact (execClearExtent_frame s t b h).1.tablesKept (by simp)
  | gatherTimerExpiry b => exact (execGatherTimerExpiry_frame s t b h).1.tablesKept (by simp)
  | stagingEmptied b => exact (execStagingEmptied_frame s t b h).1.tablesKept (by simp)
  | identifyCompletion b number o =>
    exact (execIdentifyCompletion_frame s t b number o h).1.tablesKept (by simp)
  | fetchCompletion b number o =>
    exact (execFetchCompletion_frame s t b number o h).1.tablesKept (by simp)
  | storeCompletion b number o =>
    exact (execStoreCompletion_frame s t b number o h).1.tablesKept (by simp)
  | probeCompletion b number o =>
    exact (execProbeCompletion_frame s t b number o h).1.tablesKept (by simp)
  | zeroCompletion b number o =>
    exact (execZeroCompletion_frame s t b number o h).1.tablesKept (by simp)
  | spinUpCompletion b number o =>
    exact (execSpinUpCompletion_frame s t b number o h).1.tablesKept (by simp)
  | spinDownCompletion b number o =>
    exact (execSpinDownCompletion_frame s t b number o h).1.tablesKept (by simp)
  | commandTimerExpiry b => exact (execCommandTimerExpiry_frame s t b h).1.tablesKept (by simp)
  | spinUpLimitExpiry b => exact (execSpinUpLimitExpiry_frame s t b h).1.tablesKept (by simp)
  | linkLost b => exact (execLinkLost_frame s t b h).1.tablesKept (by simp)
  | idleTimerExpiry b => exact (execIdleTimerExpiry_frame s t b h).1.tablesKept (by simp)
  | spinUpGrant b => exact (execSpinUpGrant_frame s t b h).1.tablesKept (by simp)
  | spinUpWanted b => exact (execSpinUpWanted_frame s t b h).tablesKept (by simp)
  | waitWithdrawn b => exact (execWaitWithdrawn_frame s t b h).tablesKept (by simp)
  | grantDeclined b => exact (execGrantDeclined_frame s t b h).tablesKept (by simp)
  | spinUpEnded b => exact (execSpinUpEnded_frame s t b h).tablesKept (by simp)
  | budgetChange => exact (execBudgetChange_frame s t h).tablesKept (by simp)
  | pauseAllowanceChange b => exact (execPauseAllowanceChange_frame s t b h).1.tablesKept (by simp)
  | keepSpinningChange b => exact (execKeepSpinningChange_frame s t b h).1.tablesKept (by simp)
  | buttonPress b => exact (execButtonPress_frame s t b h).1.tablesKept (by simp)
  | buttonRelease b => exact (execButtonRelease_frame s t b h).1.tablesKept (by simp)
  | holdTimerExpiry b => exact (execHoldTimerExpiry_frame s t b h).1.tablesKept (by simp)
  | serviceOverride b => exact execServiceOverride_tablesKept s t b h
  | releaseTaken b => exact (execReleaseTaken_frame s t b h).1.tablesKept (by simp)
  | releaseEndReport b => exact execReleaseEndReport_tablesKept s t b h
  | presenceLost b => exact (execPresenceLost_frame s t b h).1.tablesKept (by simp)
  | presenceGained b => exact (execPresenceGained_frame s t b h).1.tablesKept (by simp)
  | nodeQuiet => exact execNodeQuiet_tablesKept s t h
  | outstandingCountAnswer => exact execOutstandingCountAnswer_tablesKept s t h
  | managerNotice from_ => exact (execManagerNotice_frame s t from_ h).tablesKept (by simp)
  | resetShareFinished share => exact (execResetShareFinished_frame s t share h).tablesKept (by simp)
  | badRequest => exact (execBadRequest_frame s t h).tablesKept (by simp)
  | attach => exact (execAttach_frame s t h).tablesKept (by simp)
  | detach => exact (execDetach_frame s t h).tablesKept (by simp)
  | identify => exact (execIdentify_frame s t h).tablesKept (by simp)
  | setParams => exact (execSetParams_frame s t h).tablesKept (by simp)
  | readParams => exact (execReadParams_frame s t h).tablesKept (by simp)
  | readCounters => exact (execReadCounters_frame s t h).tablesKept (by simp)
  | counterQuery u => exact (execCounterQuery_frame s t u h).tablesKept (by simp)
  | resetPart => exact (execResetPart_frame s t h).tablesKept (by simp)
  | loanManagerReset => exact execLoanManagerReset_tablesKept s t h
  | requestUnitReset => exact execRequestUnitReset_tablesKept s t h
  | defineVolume => exact execDefineVolume_tablesKept s t h
  | deleteVolume => exact execDeleteVolume_tablesKept s t h
  | clearVolume => exact execClearVolume_tablesKept s t h
  | readVolume => exact (execReadVolume_frame s t h).tablesKept (by simp)
  | recallLoan => exact execRecallLoan_tablesKept s t h
  | readLoan => exact (execReadLoan_frame s t h).tablesKept (by simp)
  | releaseBay => exact execReleaseBay_tablesKept s t h
  | admitNode => exact execAdmitNode_tablesKept s t h
  | readmitNode => exact execReadmitNode_tablesKept s t h
  | drainNode => exact execDrainNode_tablesKept s t h
  | forgetNode => exact execForgetNode_tablesKept s t h
  | readNode => exact (execReadNode_frame s t h).tablesKept (by simp)
  | wakeDisk => exact (execWakeDisk_frame s t h).tablesKept (by simp)
  | sleepDisk => exact (execSleepDisk_frame s t h).tablesKept (by simp)
  | acceptDisk => exact (execAcceptDisk_frame s t h).tablesKept (by simp)
  | readDisk => exact (execReadDisk_frame s t h).tablesKept (by simp)
  | ackService => exact (execAckService_frame s t h).tablesKept (by simp)
  | portLinkChange p => exact execPortLinkChange_tablesKept s t p h
  | timerLimitChange x => exact execTimerLimitChange_tablesKept s t x h

theorem step_tablesKept (h : step s = .next t) : TablesKept s t := by
  unfold step at h
  split at h
  · cases h
    exact .of_tables rfl rfl rfl rfl rfl rfl rfl
  · rename_i c rest _
    have pop : TablesKept s { s with pending := rest } := .of_tables rfl rfl rfl rfl rfl rfl rfl
    exact pop.trans (exec_tablesKept _ t c h)

/-- Settles O57: of the writers of a volume only a definition changes what its segments take, and the checks
of R12 keep those apart from every other. -/
theorem diskMapLawKept : Obligations.DiskMapLawKept :=
  fun s t law h => (step_tablesKept s t h).diskMap law

/-- Settles O58: an entry is written where one is in use or where the lowest free one stands, and a
generation rises modulo 64. -/
theorem capacityLawKept : Obligations.CapacityLawKept :=
  fun s t law h => (step_tablesKept s t h).capacity law

end Sys2Proof.Machine
end

section
/-! SUPPORT. Clearing at the loan manager (R115 to R118, R130, R131): what the operations of a clear do to the
volume, to what is kept for each bay, and to the channels. -/

namespace Sys2Proof.Machine

variable (s : State)

/-! ### The clear status of a segment -/

theorem State.modVolume_volume_self {v : Nat} {e : Volume} (f : Volume → Volume)
    (hv : s.volume? v = some e) : (s.modVolume v f).volume? v = some (f e) := by
  simp [State.modVolume, hv]

theorem State.modVolume_volume_ne (v : Nat) (f : Volume → Volume) {w : Nat} (hw : w ≠ v) :
    (s.modVolume v f).volume? w = s.volume? w := by
  unfold State.modVolume
  split
  · exact s.setVolume_volume_ne v _ w hw
  · rfl

theorem State.modVolume_lm (v : Nat) (f : Volume → Volume) :
    (s.modVolume v f).lm = { s.lm with volumes := (s.modVolume v f).lm.volumes } := by
  unfold State.modVolume
  split <;> rfl

theorem State.setClear_lm (r : SegRef) (c : ClearStatus) :
    (s.setClear r c).lm = { s.lm with volumes := (s.setClear r c).lm.volumes } := s.modVolume_lm _ _

theorem State.setClear_otherVolumes (r : SegRef) (c : ClearStatus) :
    OtherVolumesUnchanged r.vol s (s.setClear r c) := fun _ hw => s.modVolume_volume_ne _ _ hw

theorem State.setClear_volume {r : SegRef} {e : Volume} {g : Segment} (c : ClearStatus)
    (hv : s.volume? r.vol = some e) (hg : e.segments[r.seg]? = some g) :
    (s.setClear r c).volume? r.vol =
      some { e with segments := e.segments.set r.seg { g with clear := c } } := by
  have hs : (e.segments.modify r.seg fun g => { g with clear := c }) =
      e.segments.set r.seg { g with clear := c } := by
    rw [List.modify_eq_set_getElem?, hg]
    rfl
  exact (s.modVolume_volume_self _ hv).trans (by rw [hs])

theorem State.setClear_lmBay (r : SegRef) (c : ClearStatus) (b : Bay) :
    (s.setClear r c).lmBay b = s.lmBay b := by
  unfold State.lmBay
  rw [State.setClear_lm]

theorem State.setClear_bmail (r : SegRef) (c : ClearStatus) (b : Bay) :
    (s.setClear r c).bmail b = s.bmail b := by
  have h : (s.setClear r c).bayMail = s.bayMail := s.setClear_unchanged r c .bayMail (by simp)
  simp only [State.bmail, h]

/-- What writes the loan manager alone, and keeps nothing new for a bay, leaves every bay unchanged. -/
theorem OtherBaysUnchanged.of_lm {b : Bay} {s t : State} (h : UnchangedBut [.lm] s t)
    (hb : t.lm.bays = s.lm.bays) : OtherBaysUnchanged b s t := by
  intro c _
  have hu : t.units = s.units := h .units (by simp)
  have hv : t.svc = s.svc := h .svc (by simp)
  have hm : t.bayMail = s.bayMail := h .bayMail (by simp)
  simp only [State.unit, State.controls, State.bmail, State.lmBay, hu, hv, hm, hb, and_self]

/-! ### What is kept for a bay -/

/-- The parts that what is kept for a bay and the messages to its drive unit stand in. -/
abbrev lmBayParts : List Part := [.lm, .bayMail]

theorem State.setBmail_onlyLmBay (b : Bay) (m : BayMail) : OnlyBay lmBayParts b s (s.setBmail b m) :=
  ⟨(s.setBmail_unchanged b m).mono (by simp), s.setBmail_otherBays b m⟩

theorem State.setLmBay_onlyLmBay (b : Bay) (l : LmBay) : OnlyBay lmBayParts b s (s.setLmBay b l) :=
  ⟨(s.setLmBay_unchanged b l).mono (by simp), s.setLmBay_otherBays b l⟩

theorem State.setClear_onlyLmBay (b : Bay) (r : SegRef) (c : ClearStatus) :
    OnlyBay lmBayParts b s (s.setClear r c) :=
  ⟨(s.setClear_unchanged r c).mono (by simp), .of_lm (s.setClear_unchanged r c) (by rw [State.setClear_lm])⟩

theorem State.setPending_onlyLmBay (b : Bay) (q : List SegRef) :
    OnlyBay lmBayParts b s (s.setPending b q) := by
  have h := s.setLmBay_onlyLmBay b { s.lmBay b with pendingClear := q }
  unfold State.setPending
  dsimp only
  split
  · exact h
  · exact h.trans (State.setBmail_onlyLmBay _ b _)

theorem State.setPending_lm (b : Bay) (q : List SegRef) :
    (s.setPending b q).lm = { s.lm with bays := (s.setPending b q).lm.bays } := by
  unfold State.setPending
  dsimp only
  split <;> rfl

theorem State.setPending_lmBay (b : Bay) (q : List SegRef) :
    (s.setPending b q).lmBay b = { s.lmBay b with pendingClear := q } := by
  unfold State.setPending
  dsimp only
  split
  · exact s.setLmBay_lmBay_self b _
  · exact s.setLmBay_lmBay_self b _

/-- A queue that was not empty is reported empty when its last reference leaves it (R115). -/
theorem State.setPending_bmail {b : Bay} (q : List SegRef) (h : (s.lmBay b).pendingClear ≠ []) :
    (s.setPending b q).bmail b = { s.bmail b with
      lmToUnit := (s.bmail b).lmToUnit ++ (if q = [] then [.pendingClear false] else []) } := by
  have he : (s.lmBay b).pendingClear.isEmpty = false := by simpa using h
  cases q with
  | nil => simp [State.setPending, he, State.lmSend]
  | cons x q => simp [State.setPending, he]

/-- The reference that fails first is the head of the queue (R117). -/
theorem State.failPending_eq (b : Bay) :
    s.failPending b = (s.setPending b []).failRefs (s.lmBay b).pendingClear := rfl

theorem State.failPending_of_empty {b : Bay} (h : (s.lmBay b).pendingClear = []) :
    s.failPending b = s.setLmBay b { s.lmBay b with pendingClear := [] } := by
  simp [State.failPending_eq, h, State.failRefs, State.setPending]

/-! ### Granting and removing records keeps what is kept for each bay -/

theorem State.placeForNode_bays (n : Nat) (h : Header) : (s.placeForNode n h).lm.bays = s.lm.bays := by
  have e : (s.placeForNode n h).lm = s.lm := s.placeForNode_unchanged n h .lm (by simp)
  rw [e]

theorem State.modNode_bays (n : Nat) (f : Node → Node) : (s.modNode n f).lm.bays = s.lm.bays := by
  have e : (s.modNode n f).lm = s.lm := s.modNode_unchanged n f .lm (by simp)
  rw [e]

theorem State.createLoan_bays (v n : Nat) (m : LoanMode) (i : Nat) :
    (s.createLoan v n m i).lm.bays = s.lm.bays := by
  unfold State.createLoan
  split <;> rfl

theorem State.dropRecord_bays (v r : Nat) : (s.dropRecord v r).lm.bays = s.lm.bays := by
  unfold State.dropRecord
  rw [State.modVolume_lm]

theorem State.grantRecord_bays (v r : Nat) (w : WaitRec) (i : Nat) :
    (s.grantRecord v r w i).lm.bays = s.lm.bays := by
  unfold State.grantRecord
  rw [State.placeForNode_bays, State.createLoan_bays, State.dropRecord_bays]

theorem State.grantLoop_bays (v : Nat) (l : List Nat) :
    (State.grantLoop v l s).1.lm.bays = s.lm.bays := by
  induction l generalizing s with
  | nil => rfl
  | cons r l ih =>
    unfold State.grantLoop
    split
    · rfl
    · split
      · rfl
      · split
        · rfl
        · exact (ih _).trans (s.grantRecord_bays v r _ _)

theorem State.grant_bays (v : Nat) : (s.grant v).lm.bays = s.lm.bays := by
  unfold State.grant State.grantEnd
  split
  · rfl
  · exact s.grantLoop_bays v _

theorem State.leaveRetry_bays (v : Nat) : (s.leaveRetry v).lm.bays = s.lm.bays := by
  unfold State.leaveRetry
  split
  · split <;> rfl
  · rfl

theorem State.removeRecord_bays (r : Nat) (notice : Bool) :
    (s.removeRecord r notice).lm.bays = s.lm.bays := by
  unfold State.removeRecord
  split
  · rfl
  · dsimp only
    split
    · rw [State.placeForNode_bays, State.leaveRetry_bays, State.modNode_bays, State.dropRecord_bays]
    · rw [State.leaveRetry_bays, State.modNode_bays, State.dropRecord_bays]

theorem State.removeRecords_bays (l : List Nat) (notice : Bool) :
    (l.foldl (fun t r => t.removeRecord r notice) s).lm.bays = s.lm.bays := by
  induction l generalizing s with
  | nil => rfl
  | cons r l ih => exact (ih _).trans (s.removeRecord_bays r notice)

/-! ### The notice that ends a clear -/

theorem State.clearNotice_parts (w : List Nat) (n : Notice) :
    UnchangedBut [.ports, .agent, .mail] s (s.clearNotice w n) := by
  have h : UnchangedBut [.ports, .agent, .mail] s (s.lmNotice n) := s.lmTellAgent_unchanged _
  unfold State.clearNotice
  split
  · exact h
  · exact h.trans (State.flushLm_unchanged _)

/-- A notice of the loan manager waits in a channel whose head waits (log entry 8). -/
theorem State.lmNotice_eq (n : Notice) (h : settledChannel s.mail.lmToAgent = true) :
    s.lmNotice n = { s with mail := { s.mail with
      lmToAgent := s.mail.lmToAgent ++ [.notice n] } } := by
  simp only [State.lmNotice, State.lmTellAgent, settle_notice _ _ _ h]

/-- Another loan manager and other channels between single blocks, of which the agent reads nothing when it
takes a message. -/
def State.withLmMail (s : State) (x : LoanManager) (m : Mail) : State := { s with lm := x, mail := m }

section Congruence
variable (x : LoanManager) (m : Mail)

theorem State.answer_withLmMail (a : Answer) :
    (s.withLmMail x m).answer a = (s.answer a).withLmMail x m := by
  have e : (s.withLmMail x m).agent = s.agent := rfl
  unfold State.answer
  rw [e]
  cases s.agent.slot <;> rfl

theorem State.takeNotice_withLmMail (n : Notice) :
    (s.withLmMail x m).takeNotice n = (s.takeNotice n).withLmMail x m := by
  have e : (s.withLmMail x m).agent = s.agent := rfl
  unfold State.takeNotice
  rw [e]
  cases s.agent.slot <;> rfl

theorem State.answers_withLmMail {α : Type} (f : α → Answer) (l : List α) :
    l.foldl (fun t e => t.answer (f e)) (s.withLmMail x m) =
      (l.foldl (fun t e => t.answer (f e)) s).withLmMail x m :=
  List.foldl_hom (State.withLmMail · x m) fun t e => (t.answer_withLmMail x m (f e))

theorem State.checkReset_withLmMail : (s.withLmMail x m).checkReset = s.checkReset.withLmMail x m :=
  State.answers_withLmMail
    { s with agent := { s.agent with
      progress := s.agent.progress.filter fun e => !e.resetReady s.agent.progress } } x m
    (fun e : Entry => e.answer .ok) (s.agent.progress.filter fun e => e.resetReady s.agent.progress)

theorem State.answerDrains_withLmMail (a : Addr) (c : Code) :
    (s.withLmMail x m).answerDrains a c = (s.answerDrains a c).withLmMail x m :=
  (congrArg State.checkReset (State.answers_withLmMail
    { s with agent := { s.agent with progress := s.agent.progress.filter fun e => !e.drains a } } x m
    (fun e : Entry => e.answer c) (s.agent.progress.filter fun e => e.drains a))).trans
    (State.checkReset_withLmMail _ x m)

theorem State.sharesTaken_withLmMail (r : Running) :
    (s.withLmMail x m).sharesTaken r = (s.sharesTaken r).withLmMail x m := by
  unfold State.sharesTaken
  split
  · exact State.checkReset_withLmMail
      { s with agent := { s.agent with
        running := none, progress := s.agent.progress.map Entry.sharesReported } } x m
  · rfl

theorem State.shareDone_withLmMail (share : ResetShare) :
    (s.withLmMail x m).shareDone share = (s.shareDone share).withLmMail x m := by
  have e : (s.withLmMail x m).agent = s.agent := rfl
  unfold State.shareDone
  rw [e]
  cases s.agent.running with
  | none => rfl
  | some r => cases share <;> exact State.sharesTaken_withLmMail _ x m _

theorem State.takeMessage_withLmMail (a : AgentMsg) :
    (s.withLmMail x m).takeMessage a = (s.takeMessage a).withLmMail x m := by
  cases a with
  | status a => exact congrArg (State.setWait · .free) (s.answer_withLmMail x m a)
  | drainAnswer a c => exact s.answerDrains_withLmMail x m a c
  | notice n => exact s.takeNotice_withLmMail x m n
  | resetFinished => exact s.shareDone_withLmMail x m .loanManager

end Congruence

/-- The notice that ends a clear, sent in a state with another loan manager, is on its way as R131 states
(log entry 8). -/
theorem State.clearNotice_told (x : LoanManager) (w : List Nat) (n : Notice)
    (h : settledChannel s.mail.lmToAgent = true) :
    s.ClearTold ({ s with lm := x }.clearNotice w n) w n := by
  have sent := State.lmNotice_eq { s with lm := x } n h
  constructor
  · rintro rfl
    simp only [State.clearNotice, List.isEmpty_nil, if_true, sent, and_self]
  · intro hw
    have flush : { s with lm := x }.clearNotice w n =
        (s.withLmMail x { s.mail with lmToAgent := s.mail.lmToAgent ++ [.notice n] }).flushLm := by
      simp only [State.clearNotice, List.isEmpty_iff, hw, if_false, sent]
      rfl
    rw [flush]
    refine ⟨State.flushLm_mail _, ?_⟩
    rintro u rfl
    have taken := List.foldl_hom (l := s.mail.lmToAgent ++ [AgentMsg.notice n]) (init := s)
      (State.withLmMail · x { s.mail with lmToAgent := s.mail.lmToAgent ++ [.notice n] })
      (g₁ := State.takeMessage) (g₂ := State.takeMessage)
      fun t a => t.takeMessage_withLmMail x _ a
    have ports := congrArg State.ports taken
    have agent := congrArg State.agent taken
    exact ⟨ports, agent⟩

/-! ### The examination of a clear -/

theorem State.examineClear_bays (v : Nat) : (s.examineClear v).lm.bays = s.lm.bays := by
  have notice (t : State) (w : List Nat) (n : Notice) : (t.clearNotice w n).lm = t.lm :=
    t.clearNotice_parts w n .lm (by simp)
  unfold State.examineClear
  split
  · rfl
  · split
    · rfl
    · split
      · rw [State.grant_bays, notice]
        rfl
      · rw [State.removeRecords_bays, notice]
        rfl

theorem State.failRefs_bays (l : List SegRef) : (s.failRefs l).lm.bays = s.lm.bays := by
  induction l generalizing s with
  | nil => rfl
  | cons x l ih =>
    refine (ih _).trans ?_
    rw [State.examineClear_bays, State.setClear_lm]

/-- A clear is not decided while a segment is PENDING or LISTED, nor outside CLEARING (R130). -/
theorem State.examineClear_waits {v : Nat} {e : Volume} (hv : s.volume? v = some e)
    (h : e.state ≠ .clearing ∨ ∃ g ∈ e.segments, g.clear = .pending ∨ g.clear = .listed) :
    s.examineClear v = s := by
  have wait : e.state ≠ .clearing ∨
      e.segments.any (fun g => g.clear == .pending || g.clear == .listed) = true := by
    simpa [List.any_eq_true] using h
  simp only [State.examineClear, hv, if_pos wait]

theorem State.examineClear_decides {v : Nat} {e : Volume} (hv : s.volume? v = some e)
    (hc : e.state = .clearing) (h : ∀ g ∈ e.segments, g.clear ≠ .pending ∧ g.clear ≠ .listed) :
    s.examineClear v =
      if e.segments.all (fun g => g.clear == .done) then
        ((s.setVolume v { e with state := .idle }).clearNotice e.waitList
          (.clearDone v e.segments.length)).grant v
      else
        e.waitList.foldl (fun t r => t.removeRecord r true)
          ((s.setVolume v { e with state := .clearFailed }).clearNotice e.waitList
            (.clearFailed v e.segments)) := by
  have wait : ¬(e.state ≠ .clearing ∨
      e.segments.any (fun g => g.clear == .pending || g.clear == .listed) = true) := by
    simpa [hc] using h
  simp only [State.examineClear, hv, if_neg wait]

/-- The end of a clear before the grants or removals: the volume has its new state, and the notice is on its
way (R131). -/
def State.ClearEnded (s t : State) (v : Nat) (e : Volume) (st : VolState) (n : Notice) : Prop :=
  UnchangedBut [.lm, .mail, .ports, .agent] s t ∧ t.lm = { s.lm with volumes := t.lm.volumes } ∧
  t.volume? v = some { e with state := st } ∧ OtherVolumesUnchanged v s t ∧ s.ClearTold t e.waitList n

theorem State.clearEnded_of_settled (v : Nat) (e : Volume) (st : VolState) (n : Notice)
    (h : settledChannel s.mail.lmToAgent = true) :
    s.ClearEnded ((s.setVolume v { e with state := st }).clearNotice e.waitList n) v e st n := by
  have parts := (s.setVolume v { e with state := st }).clearNotice_parts e.waitList n
  have lm : ((s.setVolume v { e with state := st }).clearNotice e.waitList n).lm =
      (s.setVolume v { e with state := st }).lm := parts .lm (by simp)
  refine ⟨((s.setVolume_unchanged v _).mono (by simp)).trans (parts.mono (by simp)), ?_, ?_, ?_,
    s.clearNotice_told _ _ _ h⟩
  · rw [lm]
    rfl
  · unfold State.volume?
    rw [lm]
    exact s.setVolume_volume_self v _
  · intro w hw
    unfold State.volume?
    rw [lm]
    exact s.setVolume_volume_ne v _ w hw

end Sys2Proof.Machine
end

section
/-! SUPPORT. The reports that the loan manager takes of a drive unit, and listing from the head of a queue
(R116 to R118, R137), up to O43. -/

namespace Sys2Proof.Machine

variable (s : State) {t u : State} {b : Bay}

/-! ### One bay at the loan manager -/

/-- What the loan manager keeps for a bay becomes `l` and the bay's channels become `m`; no other bay, no other
part, and nothing else of the loan manager changes. -/
structure State.LmBayBecomes (s t : State) (b : Bay) (l : LmBay) (m : BayMail) : Prop where
  only : OnlyBay lmBayParts b s t
  lmBay : t.lmBay b = l
  bmail : t.bmail b = m
  lm : t.lm = { s.lm with bays := t.lm.bays }

theorem State.LmBayBecomes.trans {s : State} {l l' : LmBay} {m m' : BayMail}
    (h : s.LmBayBecomes t b l m) (k : t.LmBayBecomes u b l' m') : s.LmBayBecomes u b l' m' :=
  ⟨h.only.trans k.only, k.lmBay, k.bmail, by rw [k.lm, h.lm]⟩

theorem State.setBmail_becomes (m : BayMail) : s.LmBayBecomes (s.setBmail b m) b (s.lmBay b) m :=
  ⟨s.setBmail_onlyLmBay b m, rfl, s.setBmail_bmail_self b m, rfl⟩

theorem State.setLmBay_becomes (l : LmBay) : s.LmBayBecomes (s.setLmBay b l) b l (s.bmail b) :=
  ⟨s.setLmBay_onlyLmBay b l, s.setLmBay_lmBay_self b l, rfl, rfl⟩

theorem State.setPending_becomes (q : List SegRef) (h : (s.lmBay b).pendingClear ≠ []) :
    s.LmBayBecomes (s.setPending b q) b { s.lmBay b with pendingClear := q } { s.bmail b with
      lmToUnit := (s.bmail b).lmToUnit ++ (if q = [] then [.pendingClear false] else []) } :=
  ⟨s.setPending_onlyLmBay b q, s.setPending_lmBay b q, s.setPending_bmail q h, s.setPending_lm b q⟩

theorem State.LmBayBecomes.volume {s : State} {l : LmBay} {m : BayMail} (h : s.LmBayBecomes t b l m)
    (v : Nat) : t.volume? v = s.volume? v := by
  unfold State.volume?
  rw [h.lm]

theorem State.LmBayBecomes.segment {s : State} {l : LmBay} {m : BayMail} (h : s.LmBayBecomes t b l m)
    (x : SegRef) : t.segment? x = s.segment? x := by
  unfold State.segment?
  rw [h.volume]

theorem State.LmBayBecomes.served {s : State} {l : LmBay} {m : BayMail} (h : s.LmBayBecomes t b l m)
    (g : Segment) : t.served g = s.served g := by
  have units : t.units = s.units := h.only.1 .units (by simp)
  simp only [State.served, State.unit, units]

/-! ### Listing (R116) -/

/-- Nothing is listed from an empty queue, or with 8 segments LISTED. -/
theorem State.listFromHead_stops (h : 8 ≤ (s.lmBay b).listed ∨ (s.lmBay b).pendingClear = []) :
    s.listFromHead b = s := by
  unfold State.listFromHead
  cases hq : (s.lmBay b).pendingClear with
  | nil => rfl
  | cons x rest =>
    have full : ¬(s.lmBay b).listed < 8 := by
      rw [hq] at h
      simpa using h
    simp only [State.listLoop, if_neg full]

theorem State.listFromHead_goes {x : SegRef} {rest : List SegRef}
    (hq : (s.lmBay b).pendingClear = x :: rest) (hl : (s.lmBay b).listed < 8) :
    s.listFromHead b = State.listLoop b rest ((s.setPending b rest).listSegment b x) := by
  simp only [State.listFromHead, hq, State.listLoop, if_pos hl]

/-- A served segment at the head is LISTED and its extent sent (R116 step 2). -/
theorem State.listFromHead_served {x : SegRef} {rest : List SegRef} {g : Segment}
    (hq : (s.lmBay b).pendingClear = x :: rest) (hl : (s.lmBay b).listed < 8)
    (hx : s.segment? x = some g) (hg : s.served g = true) :
    ∃ t, s.listFromHead b = t.listFromHead b ∧ OnlyBay [.lm, .bayMail] b s t ∧
      t.lmBay b = { s.lmBay b with pendingClear := rest, listed := (s.lmBay b).listed + 1 } ∧
      OtherVolumesUnchanged x.vol s t ∧
      (∀ e, s.volume? x.vol = some e → t.volume? x.vol = some { e with
        segments := e.segments.set x.seg { g with clear := .listed } }) ∧
      t.lm = { s.lm with volumes := t.lm.volumes, bays := t.lm.bays } ∧
      t.bmail b = { s.bmail b with
        lmToUnit := (s.bmail b).lmToUnit ++ (if rest = [] then [.pendingClear false] else []) ++
          [.extent x.vol x.seg g.identity g.base g.length] } := by
  have popped := s.setPending_becomes rest (b := b) (by simp [hq])
  let p := s.setPending b rest
  let c := p.setClear x .listed
  let t := (c.setLmBay b { c.lmBay b with listed := (c.lmBay b).listed + 1 }).lmSend b
    (.extent x.vol x.seg g.identity g.base g.length)
  have listed : p.listSegment b x = t := by
    unfold State.listSegment
    simp only [p, popped.segment, hx, popped.served, hg, if_true]
    rfl
  have cb : c.lmBay b = { s.lmBay b with pendingClear := rest } :=
    (p.setClear_lmBay x _ b).trans popped.lmBay
  have cm : c.bmail b = { s.bmail b with
      lmToUnit := (s.bmail b).lmToUnit ++ (if rest = [] then [.pendingClear false] else []) } :=
    (p.setClear_bmail x _ b).trans popped.bmail
  have tb : t.lmBay b = { s.lmBay b with pendingClear := rest, listed := (s.lmBay b).listed + 1 } :=
    (State.setLmBay_lmBay_self _ b _).trans (by rw [cb])
  have tv : t.lm.volumes = c.lm.volumes := rfl
  refine ⟨t, ?_, ?_, tb, ?_, ?_, ?_, ?_⟩
  · rw [s.listFromHead_goes hq hl, listed]
    unfold State.listFromHead
    rw [tb]
  · exact ((popped.only.trans (p.setClear_onlyLmBay b x _)).trans (c.setLmBay_onlyLmBay b _)).trans
      (State.setBmail_onlyLmBay _ b _)
  · intro w hw
    exact (p.setClear_otherVolumes x .listed w hw).trans (popped.volume w)
  · intro e he
    refine p.setClear_volume .listed ((popped.volume _).trans he) ?_
    simpa [State.segment?, he] using hx
  · have e : t.lm = { c.lm with bays := t.lm.bays } := rfl
    rw [e, show c.lm = { p.lm with volumes := c.lm.volumes } from p.setClear_lm x _, popped.lm]
  · refine (State.lmSend_bmail _ b _).trans ?_
    rw [State.setLmBay_bmail, cm]

/-- A segment at the head that is not served fails, and its volume's clear is examined (R116 step 3). -/
theorem State.listFromHead_unserved {x : SegRef} {rest : List SegRef} {g : Segment}
    (hq : (s.lmBay b).pendingClear = x :: rest) (hl : (s.lmBay b).listed < 8)
    (hx : s.segment? x = some g) (hg : s.served g = false) :
    s.listFromHead b = ((s.setPending b rest).failRefs [x]).listFromHead b := by
  have popped := s.setPending_becomes rest (b := b) (by simp [hq])
  have failed : (s.setPending b rest).listSegment b x = (s.setPending b rest).failRefs [x] := by
    unfold State.listSegment
    simp only [popped.segment, hx, popped.served, hg, Bool.false_eq_true, if_false]
    rfl
  have queue : ((s.setPending b rest).failRefs [x]).lmBay b = { s.lmBay b with pendingClear := rest } := by
    refine Eq.trans ?_ popped.lmBay
    unfold State.lmBay
    rw [State.failRefs_bays]
  rw [s.listFromHead_goes hq hl, failed]
  unfold State.listFromHead
  rw [queue]

/-! ### Reports -/

theorem State.noteHealth_becomes (st : DriveState) (d : Option Disk) :
    s.LmBayBecomes (s.noteHealth b st d) b
      { s.lmBay b with reported := if st.healthy then d else none } (s.bmail b) := s.setLmBay_becomes _

theorem State.clearRelease_becomes :
    s.LmBayBecomes (s.clearRelease b) b { s.lmBay b with releaseOutstanding := false } (s.bmail b) :=
  s.setLmBay_becomes _

/-- A health report that fails no reference: the bay is noted, and the queue listed from. -/
theorem State.takeHealth_of_quiet (st : DriveState) (d : Option Disk) (r : Bool)
    (h : st ≠ .absent ∨ (s.lmBay b).pendingClear = []) :
    ∃ t, s.takeHealth b st d r = t.listFromHead b ∧ s.LmBayBecomes t b { s.lmBay b with
      reported := if st.healthy then d else none,
      releaseOutstanding := if r then false else (s.lmBay b).releaseOutstanding } (s.bmail b) := by
  have noted := s.noteHealth_becomes (b := b) st d
  have quiet : s.LmBayBecomes
      (if st = .absent then (s.noteHealth b st d).failPending b else s.noteHealth b st d) b
      { s.lmBay b with reported := if st.healthy then d else none } (s.bmail b) := by
    split
    · rename_i ha
      have hq : (s.lmBay b).pendingClear = [] := h.resolve_left (not_not_intro ha)
      have hn : ((s.noteHealth b st d).lmBay b).pendingClear = [] := by rw [noted.lmBay, hq]
      rw [State.failPending_of_empty _ hn, noted.lmBay]
      have k := noted.trans (State.setLmBay_becomes _ (b := b)
        { s.lmBay b with reported := if st.healthy then d else none, pendingClear := [] })
      rw [noted.bmail] at k
      simpa only [hq] using k
    · exact noted
  cases r with
  | false => exact ⟨_, rfl, quiet⟩
  | true =>
    refine ⟨_, rfl, ?_⟩
    have k := quiet.trans (State.clearRelease_becomes _)
    rw [quiet.lmBay, quiet.bmail] at k
    exact k

/-- A report of ABSENT with references in the queue: they leave it, and fail head first (R117). -/
theorem State.takeHealth_absent (d : Option Disk) (r : Bool) (h : (s.lmBay b).pendingClear ≠ []) :
    ∃ t, s.LmBayBecomes t b { s.lmBay b with pendingClear := [], reported := none } { s.bmail b with
        lmToUnit := (s.bmail b).lmToUnit ++ [.pendingClear false] } ∧
      ∀ v, v = t.failRefs (s.lmBay b).pendingClear →
        s.takeHealth b .absent d r = State.listFromHead
          (if r then v.setLmBay b { v.lmBay b with releaseOutstanding := false } else v) b := by
  have noted := s.noteHealth_becomes (b := b) .absent d
  have hq : ((s.noteHealth b .absent d).lmBay b).pendingClear = (s.lmBay b).pendingClear := by
    rw [noted.lmBay]
  refine ⟨(s.noteHealth b .absent d).setPending b [], ?_, ?_⟩
  · have k := noted.trans (State.setPending_becomes _ [] (by rw [hq]; exact h))
    rw [noted.lmBay, noted.bmail] at k
    exact k
  · rintro v rfl
    rw [← hq, ← State.failPending_eq]
    rfl

/-- The report of an extent sets its segment's outcome and lowers the LISTED count, before the clear is
examined and the queue listed from (R118). -/
theorem State.extentEnds_spec (v k : Nat) (c : ClearStatus) :
    ∃ t, s.extentEnds b { vol := v, seg := k } c = (t.examineClear v).listFromHead b ∧
      OnlyBay lmBayParts b s t ∧ t.bmail b = s.bmail b ∧
      t.lmBay b = { s.lmBay b with listed := (s.lmBay b).listed - 1 } ∧
      OtherVolumesUnchanged v s t ∧ t.lm = { s.lm with volumes := t.lm.volumes, bays := t.lm.bays } ∧
      ∀ e g, s.volume? v = some e → e.segments[k]? = some g →
        t.volume? v = some { e with segments := e.segments.set k { g with clear := c } } := by
  let x : SegRef := { vol := v, seg := k }
  let q := s.setClear x c
  let t := q.setLmBay b { q.lmBay b with listed := (q.lmBay b).listed - 1 }
  refine ⟨t, rfl, (s.setClear_onlyLmBay b x c).trans (q.setLmBay_onlyLmBay b _), ?_, ?_, ?_, ?_, ?_⟩
  · exact s.setClear_bmail x c b
  · rw [State.setLmBay_lmBay_self, s.setClear_lmBay x c b]
  · exact s.setClear_otherVolumes x c
  · have e : t.lm = { q.lm with bays := t.lm.bays } := rfl
    rw [e, show q.lm = { s.lm with volumes := q.lm.volumes } from s.setClear_lm x c]
  · intro e g he hg
    exact s.setClear_volume (r := x) c he hg

/-! ### The commands -/

theorem State.exec_extentDone {v k : Nat} {rest : List UnitToLm}
    (h : (s.bmail b).unitToLm = .extentDone v k :: rest) :
    exec (.extentDone b) s =
      .next ((s.popUnitToLm b rest).extentEnds b { vol := v, seg := k } .done) := by
  simp only [exec, execExtentDone, h]

theorem State.exec_extentFailed {v k : Nat} {rest : List UnitToLm}
    (h : (s.bmail b).unitToLm = .extentFailed v k :: rest) :
    exec (.extentFailed b) s =
      .next ((s.popUnitToLm b rest).extentEnds b { vol := v, seg := k } .failed) := by
  simp only [exec, execExtentFailed, h]

theorem State.exec_healthReport {st : DriveState} {d : Option Disk} {r : Bool} {rest : List UnitToLm}
    (h : (s.bmail b).unitToLm = .health st d r :: rest) :
    exec (.healthReport b) s = .next ((s.popUnitToLm b rest).takeHealth b st d r) := by
  simp only [exec, execHealthReport, h]

theorem State.exec_releaseEndReport {rest : List UnitToLm} (h : (s.bmail b).unitToLm = .releaseEnd :: rest) :
    exec (.releaseEndReport b) s = .next ((s.popUnitToLm b rest).clearRelease b) := by
  simp only [exec, execReleaseEndReport, h]

/-- The report of a removal under a release is taken whole by either command (log entry 37). -/
theorem State.exec_releaseEndReport_of_health {st : DriveState} {d : Option Disk} {rest : List UnitToLm}
    (h : (s.bmail b).unitToLm = .health st d true :: rest) :
    exec (.releaseEndReport b) s = exec (.healthReport b) s := by
  rw [s.exec_healthReport h]
  simp only [exec, execReleaseEndReport, h]

theorem State.popUnitToLm_becomes (rest : List UnitToLm) : s.LmBayBecomes (s.popUnitToLm b rest) b
    (s.lmBay b) { s.bmail b with unitToLm := rest } := s.setBmail_becomes _

/-- The report of an extent, taken from the channel. -/
theorem State.extentReport_spec (rest : List UnitToLm) (v k : Nat) (c : ClearStatus) :
    ∃ t, (s.popUnitToLm b rest).extentEnds b { vol := v, seg := k } c =
        (t.examineClear v).listFromHead b ∧ OnlyBay [.bayMail, .lm] b s t ∧
      t.bmail b = { s.bmail b with unitToLm := rest } ∧
      t.lmBay b = { s.lmBay b with listed := (s.lmBay b).listed - 1 } ∧
      OtherVolumesUnchanged v s t ∧ t.lm = { s.lm with volumes := t.lm.volumes, bays := t.lm.bays } ∧
      ∀ e g, s.volume? v = some e → e.segments[k]? = some g →
        t.volume? v = some { e with segments := e.segments.set k { g with clear := c } } := by
  have popped := s.popUnitToLm_becomes (b := b) rest
  obtain ⟨t, he, only, hm, hl, hv, lm, hs⟩ := (s.popUnitToLm b rest).extentEnds_spec (b := b) v k c
  refine ⟨t, he, (popped.only.trans only).mono (by simp), hm.trans popped.bmail,
    hl.trans (by rw [popped.lmBay]), fun w hw => (hv w hw).trans (popped.volume w),
    lm.trans (by rw [popped.lm]), fun e g hve hg => hs e g ((popped.volume v).trans hve) hg⟩

/-- Settles O43: a report is one write to the bay and at most one segment, followed by the examination of a
clear and by listing; a clear's end and one listing step are each read off their definition, where what the
examination does leaves the queues of the bays alone. -/
theorem loanManagerReports : Obligations.LoanManagerReports := by
  refine ⟨fun s b m rest hm => ⟨?_, ?_, ?_, ?_, ?_, ?_⟩, fun s v e hv => ⟨s.examineClear_waits hv, ?_⟩,
    fun s b => ⟨s.listFromHead_stops, fun x rest g hq hl hx => ⟨s.listFromHead_served hq hl hx, ?_⟩⟩⟩
  · rintro v k rfl
    obtain ⟨t, he, spec⟩ := s.extentReport_spec (b := b) rest v k .done
    exact ⟨t, by rw [s.exec_extentDone hm, he], spec⟩
  · rintro v k rfl
    obtain ⟨t, he, spec⟩ := s.extentReport_spec (b := b) rest v k .failed
    exact ⟨t, by rw [s.exec_extentFailed hm, he], spec⟩
  · rintro st d r rfl quiet
    have popped := s.popUnitToLm_becomes (b := b) rest
    obtain ⟨t, he, k⟩ := (s.popUnitToLm b rest).takeHealth_of_quiet (b := b) st d r
      (by rwa [popped.lmBay])
    have all := popped.trans k
    rw [popped.lmBay, popped.bmail] at all
    exact ⟨t, by rw [s.exec_healthReport hm, he], all.only.mono (by simp), all.bmail, all.lmBay, all.lm⟩
  · rintro d r rfl pending
    have popped := s.popUnitToLm_becomes (b := b) rest
    obtain ⟨t, k, he⟩ := (s.popUnitToLm b rest).takeHealth_absent (b := b) d r (by rwa [popped.lmBay])
    have all := popped.trans k
    rw [popped.lmBay] at all he
    rw [popped.bmail] at all
    exact ⟨t, all.only.mono (by simp), all.lm, all.lmBay, all.bmail,
      fun v hv => by rw [s.exec_healthReport hm, he v hv]⟩
  · rintro rfl
    have popped := s.popUnitToLm_becomes (b := b) rest
    have all := popped.trans (State.clearRelease_becomes _)
    rw [popped.lmBay, popped.bmail] at all
    exact ⟨_, s.exec_releaseEndReport hm, all.only.mono (by simp), all.bmail, all.lmBay, all.lm⟩
  · rintro st d rfl
    exact s.exec_releaseEndReport_of_health hm
  · intro hc settled
    refine ⟨fun done => ?_, fun decided failed => ?_⟩
    · refine ⟨_, s.clearEnded_of_settled v e _ _ settled, ?_⟩
      rw [s.examineClear_decides hv hc fun g hg => by simp [done g hg], if_pos (by simpa using done)]
    · refine ⟨_, s.clearEnded_of_settled v e _ _ settled, ?_⟩
      rw [s.examineClear_decides hv hc decided, if_neg (by simpa using failed)]
  · intro unserved
    have popped := s.setPending_becomes rest (b := b) (by simp [hq])
    exact ⟨s.setPending b rest, s.listFromHead_unserved hq hl hx unserved, popped.only, popped.lm,
      popped.lmBay, popped.bmail⟩

end Sys2Proof.Machine
end

section
/-! SUPPORT. What an accepted management request answers (R168, R182), the bytes of the answers, and ATTACH,
DETACH and the reads of the agent, up to O49. -/

namespace Sys2Proof.Machine

variable (s : State) {p : Port} {f : InFrame} {h : Header}

/-! ### Bytes -/

theorem be_length (n v : Nat) : (be n v).length = n := by
  induction n generalizing v with
  | zero => rfl
  | succ n ih => simp [be, ih]

theorem be_one (v : Nat) : be 1 v = [BitVec.ofNat 8 v] := rfl

theorem be_zero (n : Nat) : be n 0 = List.replicate n 0 := by
  induction n with
  | zero => rfl
  | succ n ih => simp [be, ih, List.replicate_succ']

/-! ### An accepted request -/

/-- A well-formed request of the manager is carried out in the state in which it is accepted (R168). -/
theorem State.manage_of_asks {code : Byte} (act : Header → List Byte → State → State)
    (ask : s.Asks code p f h) : s.manage code act = act h (f.payload.drop 48) (s.accepted p) := by
  obtain ⟨waiting, hcode, source, good⟩ := ask
  simp only [State.manage, waiting, if_pos hcode, State.takeManage, source, good, Bool.not_true,
    Bool.false_eq_true, if_false, if_true]
  rfl

theorem State.accepted_parts (p : Port) : UnchangedBut [.cls, .agent] s (s.accepted p) := by
  have free : UnchangedBut [.cls, .agent] s s.freeClassifier := s.freeClassifier_unchanged.mono (by simp)
  unfold State.accepted State.setManagerPort
  split
  · exact free.trans ((State.setAgent_unchanged _ _).mono (by simp))
  · exact free

@[simp] theorem State.accepted_cls (p : Port) : (s.accepted p).cls = { s.cls with passed := none } := by
  unfold State.accepted State.setManagerPort
  split <;> rfl

/-- Only the manager's last port is new in the agent (R168). -/
theorem State.accepted_agent (p : Port) :
    (s.accepted p).agent = { s.agent with slot := s.agent.slot.map fun sl => { sl with port := p } } := by
  have e : s.freeClassifier.agent = s.agent := rfl
  unfold State.accepted State.setManagerPort
  rw [e]
  cases hs : s.agent.slot with
  | none => exact e.trans (by rw [Option.map_none, ← hs])
  | some sl => rfl

@[simp] theorem State.accepted_lm (p : Port) : (s.accepted p).lm = s.lm :=
  s.accepted_parts p .lm (by simp)
@[simp] theorem State.accepted_units (p : Port) : (s.accepted p).units = s.units :=
  s.accepted_parts p .units (by simp)
@[simp] theorem State.accepted_arb (p : Port) : (s.accepted p).arb = s.arb :=
  s.accepted_parts p .arb (by simp)
@[simp] theorem State.accepted_mail (p : Port) : (s.accepted p).mail = s.mail :=
  s.accepted_parts p .mail (by simp)
@[simp] theorem State.accepted_nodes (p : Port) : (s.accepted p).nodes = s.nodes :=
  s.accepted_parts p .nodes (by simp)
@[simp] theorem State.accepted_now (p : Port) : (s.accepted p).now = s.now :=
  s.accepted_parts p .now (by simp)

@[simp] theorem State.accepted_volume (p : Port) (v : Nat) : (s.accepted p).volume? v = s.volume? v := by
  simp [State.volume?]
@[simp] theorem State.accepted_loan (p : Port) (i : Nat) : (s.accepted p).loan? i = s.loan? i := by
  simp [State.loan?]
@[simp] theorem State.accepted_generation (p : Port) (i : Nat) :
    (s.accepted p).generation i = s.generation i := by simp [State.generation]
@[simp] theorem State.accepted_unit (p : Port) (b : Bay) : (s.accepted p).unit b = s.unit b := by
  simp [State.unit]
@[simp] theorem State.accepted_served (p : Port) (g : Segment) :
    (s.accepted p).served g = s.served g := by simp [State.served]
@[simp] theorem State.accepted_lmBay (p : Port) (b : Bay) : (s.accepted p).lmBay b = s.lmBay b := by
  simp [State.lmBay]
@[simp] theorem State.accepted_nodeAddr (p : Port) (n : Nat) :
    (s.accepted p).nodeAddr n = s.nodeAddr n := by simp [State.nodeAddr, State.node?]

/-! ### ATTACH and DETACH -/

theorem State.exec_attach (waiting : s.manageWaiting = some (p, f, h)) (code : h.subcode = 0x01) :
    exec .attach s = .next (s.freeClassifier.attach p f.src h) := by
  simp only [exec, execAttach, waiting, if_pos code]

theorem State.exec_detach (ask : s.Asks 0x02 p f h) :
    exec .detach s = .next (State.dropExpiries { (s.accepted p).answer (h.status .ok) with
      agent := { ((s.accepted p).answer (h.status .ok)).agent with slot := none, progress := [] } }) := by
  simp only [exec, execDetach, s.manage_of_asks _ ask, State.reply]

theorem settledChannel_of_waits {l : List AgentMsg} (hl : ∀ m ∈ l, AgentMsg.waits m = true) :
    settledChannel l = true := by
  cases l with
  | nil => rfl
  | cons m l =>
    have hm := hl m List.mem_cons_self
    cases m with
    | notice n => rfl
    | resetFinished => rfl
    | status a => cases hm
    | drainAnswer a c => cases hm

/-- Where every message of the loan manager waits for a command of its own, dropping the expiries is all that
DETACH does to its channel (log entry 51). -/
theorem State.dropExpiries_of_waits (hl : ∀ m ∈ s.mail.lmToAgent, AgentMsg.waits m = true) :
    s.dropExpiries = { s with mail := { s.mail with
      lmToAgent := s.mail.lmToAgent.filter fun m => !AgentMsg.isExpiry m } } := by
  have settled : settledChannel (s.mail.lmToAgent.filter fun m => !AgentMsg.isExpiry m) = true :=
    settledChannel_of_waits fun m hm => hl m (List.mem_filter.1 hm).1
  simp only [State.dropExpiries, settle_settled _ _ settled]

/-- DETACH answers, empties the slot and the list of requests in progress, and drops the expiries that wait to
be notified (R47, R171). -/
theorem State.detach_spec (ask : s.Asks 0x02 p f h)
    (hl : ∀ m ∈ s.mail.lmToAgent, AgentMsg.waits m = true) :
    ∃ t, exec .detach s = .next t ∧ UnchangedBut [.cls, .agent, .ports, .mail] s t ∧
      t.cls = { s.cls with passed := none } ∧
      t.ports = ((s.accepted p).answer (h.status .ok)).ports ∧
      t.agent = { s.agent with slot := none, progress := [] } ∧
      t.mail = { s.mail with
        lmToAgent := s.mail.lmToAgent.filter fun m => !AgentMsg.isExpiry m } := by
  let v : State := { (s.accepted p).answer (h.status .ok) with
    agent := { ((s.accepted p).answer (h.status .ok)).agent with slot := none, progress := [] } }
  have answered := (s.accepted p).answer_unchanged (h.status .ok)
  have mail : v.mail = s.mail := (answered .mail (by simp)).trans (s.accepted_mail p)
  have cls : v.cls = (s.accepted p).cls := answered .cls (by simp)
  have agent : ((s.accepted p).answer (h.status .ok)).agent = (s.accepted p).agent :=
    answered .agent (by simp)
  have dropped := v.dropExpiries_of_waits (by rwa [mail])
  rw [mail] at dropped
  have exec_eq : exec .detach s = .next { v with mail := { s.mail with
      lmToAgent := s.mail.lmToAgent.filter fun m => !AgentMsg.isExpiry m } } := by
    rw [← dropped]
    exact s.exec_detach ask
  refine ⟨_, exec_eq, ?_, cls.trans (s.accepted_cls p), rfl, ?_, rfl⟩
  · exact ((((s.accepted_parts p).mono (by simp)).trans (answered.mono (by simp))).trans
      ((State.setAgent_unchanged _ _).mono (by simp))).trans
      ((State.setMail_unchanged _ _).mono (by simp))
  · show { ((s.accepted p).answer (h.status .ok)).agent with slot := none, progress := [] } = _
    rw [agent, State.accepted_agent]

/-! ### The bytes of the answers -/

theorem identifyBytes_eq : identifyBytes =
    [0x41, 0x72, 0x77, 0x65, 0x6A, 0x6F, 0x20, 0x41, 0x44, 0x2D, 0x32, 0x34, 0x31, 0x36,
      Config.namePadding 0, Config.namePadding 1] ++ [1, 24, 4, 0] ++
    be 6 (Config.portAddress 0).toNat ++ be 6 (Config.portAddress 1).toNat ++
    be 6 (Config.portAddress 2).toNat ++ be 6 (Config.portAddress 3).toNat ++
    be 2 4096 ++ be 2 9000 ++
    be 2 512 ++ be 2 128 ++ be 2 1024 ++ be 2 256 ++ be 2 512 ++ be 2 1024 ++ be 2 64 ++
    be 2 256 ++ be 2 8 ++ be 2 512 ++ be 2 64 := by
  have ports : allPorts = [0, 1, 2, 3] := rfl
  simp only [identifyBytes, partName, ports, tableSizes, List.flatMap_cons, List.flatMap_nil,
    List.append_assoc, List.append_nil]

theorem identifyBytes_length : identifyBytes.length = 70 := by
  simp [identifyBytes_eq, be_length]

theorem padFF_eq (n : Nat) (bs : List Byte) : padFF n bs = bs ++ List.replicate (n - bs.length) 0xFF := rfl

theorem State.paramsBytes_length (hw : s.arb.waitOrder.length ≤ 24) : s.paramsBytes.length = 53 := by
  have pad : (padFF 24 (s.arb.waitOrder.map fun b => BitVec.ofNat 8 b.val)).length = 24 := by
    simp only [padFF_eq, List.length_append, List.length_map, List.length_replicate]
    omega
  cases hs : s.agent.slot <;>
    simp only [State.paramsBytes, hs, Params.bytes, pad, be_length, List.length_append]

theorem State.paramsBytes_eq {sl : Slot} (hs : s.agent.slot = some sl) : s.paramsBytes =
    be 4 1023 ++ be 1 s.agent.params.budget ++ be 1 s.agent.params.spinUpLimit ++
    be 1 s.agent.params.pieceLimit ++ be 2 s.agent.params.deliveryLimit ++
    be 1 s.agent.params.allowance ++ be 1 s.agent.params.gatherWindow ++
    be 1 s.agent.params.idleFactor ++ [if s.agent.params.idleLong then 1 else 0] ++
    be 1 s.agent.params.on ++ be 1 s.agent.params.off ++ be 3 Config.carryMask.toNat ++
    be 3 s.agent.params.keep.toNat ++ [0, 0, 0] ++ be 1 s.arb.places.length ++
    be 1 s.arb.waitOrder.length ++ s.arb.waitOrder.map (fun b => BitVec.ofNat 8 b.val) ++
    List.replicate (24 - s.arb.waitOrder.length) 0xFF ++ be 1 sl.port.val ++ be 2 sl.seq.toNat := by
  have unit : be 1 (if s.agent.params.idleLong then 1 else 0) =
      [if s.agent.params.idleLong then 1 else 0] := by
    cases s.agent.params.idleLong <;> rfl
  have pad : be 3 0 = [0, 0, 0] := rfl
  simp only [State.paramsBytes, hs, Params.bytes, padFF_eq, unit, pad, List.length_map,
    List.append_assoc]

/-- The segments of a READ_VOLUME answer, each at its position in the window (R6). -/
theorem State.segmentBytes_eq (pos : Nat) (l : List Segment) :
    s.segmentBytes pos l = l.zipIdx.flatMap fun x =>
      s.segmentPayload x.1 (pos + ((l.take x.2).map Segment.length).sum) := by
  induction l generalizing pos with
  | nil => rfl
  | cons g l ih =>
    simp only [State.segmentBytes, ih, List.zipIdx_cons, List.flatMap_cons, List.take_zero,
      List.map_nil, List.sum_nil, Nat.add_zero, Nat.zero_add]
    rw [List.zipIdx_succ, List.flatMap_map]
    simp only [List.take_succ_cons, List.map_cons, List.sum_cons, Nat.add_assoc]
    rfl

theorem State.segmentBytes_length (pos : Nat) (l : List Segment) :
    (s.segmentBytes pos l).length = 40 * l.length := by
  induction l generalizing pos with
  | nil => rfl
  | cons g l ih =>
    simp only [State.segmentBytes, List.length_append, be_length, ih, List.length_cons, List.length_nil]
    omega

theorem State.volumeBytes_length (v : Volume) :
    (s.volumeBytes v).length = 16 + 40 * v.segments.length := by
  simp only [State.volumeBytes, List.length_append, be_length, s.segmentBytes_length, List.length_cons,
    List.length_nil]

theorem State.volumeBytes_eq (v : Volume) : s.volumeBytes v =
    [v.cls.value, Config.flagByte v.wake, v.state.value,
      Config.flagByte (v.segments.any fun g => !g.onDisk (s.lmBay g.bay).reported)] ++
    be 2 v.term ++ be 2 v.grace ++ be 2 v.loanCount ++ be 2 v.waitList.length ++
    be 1 v.segments.length ++ [0, 0, 0] ++
    v.segments.zipIdx.flatMap fun x =>
      s.segmentPayload x.1 ((v.segments.take x.2).map Segment.length).sum := by
  simp only [State.volumeBytes, State.impaired, s.segmentBytes_eq, Nat.zero_add]
  rfl

theorem State.accepted_segmentBytes (p : Port) (pos : Nat) (l : List Segment) :
    (s.accepted p).segmentBytes pos l = s.segmentBytes pos l := by
  induction l generalizing pos with
  | nil => rfl
  | cons g l ih => simp only [State.segmentBytes, s.accepted_served, ih]

/-- What a read finds of a volume is what stands when it is accepted. -/
theorem State.accepted_volumeBytes (p : Port) (v : Volume) :
    (s.accepted p).volumeBytes v = s.volumeBytes v := by
  simp only [State.volumeBytes, State.impaired, s.accepted_lmBay, s.accepted_segmentBytes]

theorem freeLoanAnswer_eq (h : Header) (gen : Nat) :
    freeLoanAnswer h gen = h.data (BitVec.ofNat 8 gen :: List.replicate 15 0) := by
  rw [freeLoanAnswer, be_one, be_zero]
  rfl

/-! ### O49 -/

/-- Settles O49: an accepted request is carried out in the accepted state, which differs from the state before
in the classifier and the manager's last port, so that each read finds what stood there. -/
theorem attachAndReads : Obligations.AttachAndReads := by
  rintro s p f h a rfl
  refine ⟨fun waiting code => ⟨fun hs => ?_, fun sl hs => ⟨fun same => ?_, fun other => ?_⟩⟩,
    fun ask hl => ?_, fun ask => ⟨?_, identifyBytes_length, identifyBytes_eq⟩,
    fun ask => ⟨?_, fun hw => ?_, ?_⟩, fun ask => ⟨fun hv => ?_, fun hv absent => ?_, fun v hv hs => ?_⟩,
    fun ask => ⟨fun hi => ?_, fun hi absent => ?_, fun l hi hs => ?_⟩⟩
  · refine ⟨{ s.freeClassifier with
      agent := { s.freeClassifier.agent with slot := some { addr := f.src, port := p, seq := 0 } } },
      ?_, ?_, rfl, rfl⟩
    · rw [s.exec_attach waiting code]
      have e : s.freeClassifier.agent.slot = none := hs
      simp only [State.attach, e]
      rfl
    · exact (s.freeClassifier_unchanged.mono (by simp)).trans
        ((State.setAgent_unchanged _ _).mono (by simp))
  · rw [s.exec_attach waiting code]
    have e : s.freeClassifier.agent.slot = some sl := hs
    simp only [State.attach, e, if_pos same]
    rfl
  · rw [s.exec_attach waiting code]
    have e : s.freeClassifier.agent.slot = some sl := hs
    simp only [State.attach, e, if_neg other]
    rfl
  · exact s.detach_spec ask hl
  · simp only [exec, execIdentify, s.manage_of_asks _ ask]
  · simp only [exec, execReadParams, s.manage_of_asks _ ask]
  · exact State.paramsBytes_length _ (by rwa [State.accepted_arb])
  · rintro q sl rfl hs
    have slot : (s.accepted p).agent.slot = some { sl with port := p } := by
      rw [State.accepted_agent, hs]
      rfl
    rw [State.paramsBytes_eq _ slot, State.accepted_arb, State.accepted_agent]
  · simp only [exec, execReadVolume, s.manage_of_asks _ ask, State.readVolume, if_pos hv]
    rfl
  · simp only [exec, execReadVolume, s.manage_of_asks _ ask, State.readVolume,
      if_neg (Nat.not_lt.2 hv), s.accepted_volume, absent]
    rfl
  · refine ⟨?_, s.volumeBytes_length v, s.volumeBytes_eq v⟩
    simp only [exec, execReadVolume, s.manage_of_asks _ ask, State.readVolume,
      if_neg (Nat.not_lt.2 hv), s.accepted_volume, hs, s.accepted_volumeBytes]
  · simp only [exec, execReadLoan, s.manage_of_asks _ ask, State.readLoan, if_pos hi]
    rfl
  · simp only [exec, execReadLoan, s.manage_of_asks _ ask, State.readLoan,
      if_neg (Nat.not_lt.2 hi), s.accepted_loan, absent, freeLoanAnswer_eq, s.accepted_generation]
  · simp only [exec, execReadLoan, s.manage_of_asks _ ask, State.readLoan,
      if_neg (Nat.not_lt.2 hi), s.accepted_loan, hs, State.loanAnswer, s.accepted_generation,
      s.accepted_nodeAddr, s.accepted_now, Loan.remaining, Loan.reasonByte]
    cases l.state <;> rfl

end Sys2Proof.Machine
end

section
/-! SUPPORT. DEFINE_VOLUME, DELETE_VOLUME, CLEAR_VOLUME and RECALL_LOAN (R8, R12 to R15, R37): what the checks of
a definition answer, and what each request does once accepted, up to O52. -/

namespace Sys2Proof.Machine

variable (s : State) {p : Port} {f : InFrame} {h : Header}

/-! ### The checks of a definition (R12) -/

theorem VolClass.ofValue_isSome_iff (x : BitVec 8) :
    (VolClass.ofValue x).isSome = true ↔ x = 1 ∨ x = 2 ∨ x = 3 := by
  unfold VolClass.ofValue
  split
  · simp_all
  · split
    · simp_all
    · split <;> simp_all

theorem DefineArgs.valuesGood_iff (d : DefineArgs) : DefineArgs.valuesGood d = true ↔
    d.volume ≤ 127 ∧ (d.cls = 1 ∨ d.cls = 2 ∨ d.cls = 3) ∧ 1 ≤ d.segments.length ∧
    d.segments.length ≤ 4 ∧ (∀ g ∈ d.segments, g.bay ≤ 23 ∧ 1 ≤ g.length) ∧
    (d.term = 0 ∨ (5 ≤ d.term ∧ d.term ≤ 3600)) ∧
    (d.grace = 0 ∨ (1 ≤ d.grace ∧ d.grace ≤ 600)) := by
  have bay (g : SegArg) : g.bay < 24 ↔ g.bay ≤ 23 := Nat.lt_succ_iff
  have grace : (d.grace = 0 ∨ d.grace ≤ 600) ↔ (d.grace = 0 ∨ (1 ≤ d.grace ∧ d.grace ≤ 600)) := by
    omega
  simp only [DefineArgs.valuesGood, Bool.and_eq_true, Bool.or_eq_true, decide_eq_true_eq, beq_iff_eq,
    List.all_eq_true, VolClass.ofValue_isSome_iff, bay, grace, and_assoc]

/-- Where a segment of a request is placed, and what is placed for it. -/
theorem State.PlacedOn.mem {s : State} {l : List SegArg} {placed : List (Segment × Nat)}
    (hp : s.PlacedOn l placed) {g : SegArg} (hg : g ∈ l) :
    ∃ (b : Bay) (d : Disk), b.val = g.bay ∧ (s.unit b).state.healthy = true ∧
      (s.unit b).disk = some d := by
  induction hp with
  | nil => cases hg
  | cons hx _ ih =>
    rcases List.mem_cons.1 hg with rfl | hg
    · obtain ⟨b, d, hb, hh, hd, -⟩ := hx
      exact ⟨b, d, hb, hh, hd⟩
    · exact ih hg

/-- A placed segment lies on the disk of a healthy unit, with that disk's identity and capacity. -/
theorem State.PlacedOn.disk {s : State} {l : List SegArg} {placed : List (Segment × Nat)}
    (hp : s.PlacedOn l placed) {x : Segment × Nat} (hx : x ∈ placed) :
    (s.unit x.1.bay).state.healthy = true ∧ ∃ d, (s.unit x.1.bay).disk = some d ∧
      x.1.identity = d.serial ∧ x.2 = d.capacity := by
  induction hp with
  | nil => cases hx
  | cons hr _ ih =>
    rcases List.mem_cons.1 hx with rfl | hx
    · obtain ⟨b, d, -, hh, hd, rfl⟩ := hr
      exact ⟨hh, d, hd, rfl, rfl⟩
    · exact ih hx

theorem State.accepted_placeSegment (p : Port) (g : SegArg) :
    (s.accepted p).placeSegment g = s.placeSegment g := by
  simp only [State.placeSegment, State.healthyDisk, State.accepted_unit]

theorem State.accepted_placeSegments (p : Port) (l : List SegArg) :
    (s.accepted p).placeSegments l = s.placeSegments l := by
  induction l with
  | nil => rfl
  | cons g l ih => simp only [State.placeSegments, s.accepted_placeSegment, ih]

/-- A definition is judged by what stands when its frame is accepted. -/
theorem State.accepted_judgeDefine (p : Port) (d : DefineArgs) :
    (s.accepted p).judgeDefine d = s.judgeDefine d := by
  have overlap (l : List Segment) : (s.accepted p).overlapping l = s.overlapping l := by
    rw [State.overlapping, State.definedSegments, State.accepted_lm]
    rfl
  unfold State.judgeDefine
  rw [State.accepted_volume, s.accepted_placeSegments]
  simp only [overlap]

section Judgement
variable {s} {d : DefineArgs}

theorem State.judgeDefine_badValue (hg : DefineArgs.valuesGood d = false) :
    s.judgeDefine d = .inl .badValue := by
  simp only [State.judgeDefine, hg, Bool.not_false, if_true]

variable (hg : DefineArgs.valuesGood d = true)
include hg

theorem State.judgeDefine_volumeExists (hv : (s.volume? d.volume).isSome = true) :
    s.judgeDefine d = .inl .volumeExists := by
  simp only [State.judgeDefine, hg, Bool.not_true, Bool.false_eq_true, if_false, if_pos hv]

theorem State.judgeDefine_diskUnavailable (hv : s.volume? d.volume = none)
    (hd : ∃ g ∈ d.segments, ∀ b : Bay, b.val = g.bay →
      (s.unit b).state.healthy = false ∨ (s.unit b).disk = none) :
    s.judgeDefine d = .inl .diskUnavailable := by
  have unplaced : s.placeSegments d.segments = none := by
    rw [Option.eq_none_iff_forall_not_mem]
    intro placed hp
    obtain ⟨g, hg, away⟩ := hd
    obtain ⟨b, k, hb, hh, hk⟩ := ((s.placeSegments_eq_some_iff _ _).1 hp).mem hg
    rcases away b hb with hn | hn
    · rw [hh] at hn
      cases hn
    · rw [hk] at hn
      cases hn
  simp only [State.judgeDefine, hg, Bool.not_true, Bool.false_eq_true, if_false, hv, Option.isSome_none,
    unplaced]

/-- With every segment placed, the last two checks of R12 decide. -/
theorem State.judgeDefine_placed {placed : List (Segment × Nat)} {c : VolClass}
    (hv : s.volume? d.volume = none) (hp : s.PlacedOn d.segments placed)
    (hc : VolClass.ofValue d.cls = some c) :
    s.judgeDefine d =
      if placed.any (fun x => decide (x.2 < x.1.base + x.1.length)) then .inl .outOfRange
      else if s.overlapping (placed.map Prod.fst) then .inl .overlap
      else .inr (DefineArgs.toVolume d c (placed.map Prod.fst)) := by
  simp only [State.judgeDefine, hg, Bool.not_true, Bool.false_eq_true, if_false, hv, Option.isSome_none,
    (s.placeSegments_eq_some_iff _ _).2 hp, hc]

theorem DefineArgs.class_of_good : ∃ c, VolClass.ofValue d.cls = some c :=
  Option.isSome_iff_exists.1
    ((VolClass.ofValue_isSome_iff _).2 ((DefineArgs.valuesGood_iff d).1 hg).2.1)

theorem State.judgeDefine_outOfRange {placed : List (Segment × Nat)} (hv : s.volume? d.volume = none)
    (hp : s.PlacedOn d.segments placed) (hr : ∃ x ∈ placed, x.2 < x.1.base + x.1.length) :
    s.judgeDefine d = .inl .outOfRange := by
  obtain ⟨c, hc⟩ := DefineArgs.class_of_good hg
  rw [State.judgeDefine_placed hg hv hp hc, if_pos (by simpa using hr)]

theorem State.judgeDefine_overlap {placed : List (Segment × Nat)} (hv : s.volume? d.volume = none)
    (hp : s.PlacedOn d.segments placed) (hr : ∀ x ∈ placed, x.1.base + x.1.length ≤ x.2)
    (ho : (∃ x ∈ placed, ∃ y ∈ s.definedSegments, overlaps x.1 y = true) ∨
      ¬ (placed.map Prod.fst).Pairwise (fun x y => overlaps x y = false)) :
    s.judgeDefine d = .inl .overlap := by
  obtain ⟨c, hc⟩ := DefineArgs.class_of_good hg
  have overlapped : s.overlapping (placed.map Prod.fst) = true := by
    rw [← Bool.not_eq_false, s.overlapping_eq_false_iff]
    rintro ⟨apart, within⟩
    rcases ho with ⟨x, hx, y, hy, hxy⟩ | hn
    · rw [apart x.1 (List.mem_map_of_mem hx) y hy] at hxy
      cases hxy
    · exact hn within
  rw [State.judgeDefine_placed hg hv hp hc, if_neg (by simpa using hr), if_pos overlapped]

theorem State.judgeDefine_good {placed : List (Segment × Nat)} {c : VolClass}
    (hv : s.volume? d.volume = none) (hp : s.PlacedOn d.segments placed)
    (hr : ∀ x ∈ placed, x.1.base + x.1.length ≤ x.2)
    (apart : ∀ x ∈ placed, ∀ y ∈ s.definedSegments, overlaps x.1 y = false)
    (within : (placed.map Prod.fst).Pairwise fun x y => overlaps x y = false)
    (hc : VolClass.ofValue d.cls = some c) :
    s.judgeDefine d = .inr (DefineArgs.toVolume d c (placed.map Prod.fst)) := by
  have clear : s.overlapping (placed.map Prod.fst) = false := by
    rw [s.overlapping_eq_false_iff]
    refine ⟨fun g hg y hy => ?_, within⟩
    obtain ⟨x, hx, rfl⟩ := List.mem_map.1 hg
    exact apart x hx y hy
  rw [State.judgeDefine_placed hg hv hp hc, if_neg (by simpa using hr), clear]
  rfl

end Judgement

/-! ### DEFINE_VOLUME -/

theorem State.exec_defineVolume {d : DefineArgs} (ask : s.Asks 0x10 p f h)
    (hd : defineArgs h.volume.toNat (f.payload.drop 48) = some d) :
    exec .defineVolume s = .next ((s.accepted p).define h d) := by
  simp only [exec, execDefineVolume, s.manage_of_asks _ ask, hd]

theorem State.exec_defineVolume_refused {d : DefineArgs} {c : Code} (ask : s.Asks 0x10 p f h)
    (hd : defineArgs h.volume.toNat (f.payload.drop 48) = some d) (hj : s.judgeDefine d = .inl c) :
    exec .defineVolume s = .next ((s.accepted p).lmStatus h c) := by
  simp only [s.exec_defineVolume ask hd, State.define, s.accepted_judgeDefine, hj]

/-- The state of the loan manager once a volume is defined and the disks of its bays are noted (R13). -/
def State.defined (s : State) (v : Nat) (e : Volume) : State := (s.setVolume v e).noteDisks e.segments

theorem State.defined_parts (v : Nat) (e : Volume) : UnchangedBut [.lm] s (s.defined v e) :=
  (s.setVolume_unchanged v e).trans (State.noteDisks_unchanged _ _)

theorem State.defined_lm (v : Nat) (e : Volume) : (s.defined v e).lm = { s.lm with
    volumes := s.lm.volumes.set v e, bays := (s.defined v e).lm.bays } :=
  ((s.setVolume v e).noteDisks_spec e.segments).1

theorem State.defined_volume_self (v : Nat) (e : Volume) : (s.defined v e).volume? v = some e := by
  unfold State.volume?
  rw [s.defined_lm]
  exact Tbl.get_set_self _ _ _

theorem State.defined_otherVolumes (v : Nat) (e : Volume) :
    OtherVolumesUnchanged v s (s.defined v e) := by
  intro w hw
  unfold State.volume?
  rw [s.defined_lm]
  exact Tbl.get_set_ne _ _ _ _ hw

theorem State.defined_lmBay (v : Nat) {e : Volume} {g : Segment} (hg : g ∈ e.segments)
    (hh : (s.unit g.bay).state.healthy = true) :
    (s.defined v e).lmBay g.bay = { s.lmBay g.bay with reported := (s.unit g.bay).disk } := by
  obtain ⟨-, noted, -⟩ := (s.setVolume v e).noteDisks_spec e.segments
  refine (noted g hg).trans ?_
  have healthy : (s.setVolume v e).healthyDisk g.bay = (s.unit g.bay).disk := if_pos hh
  rw [healthy]
  rfl

theorem State.defined_lmBay_ne (v : Nat) {e : Volume} {b : Bay} (hb : ∀ g ∈ e.segments, g.bay ≠ b) :
    (s.defined v e).lmBay b = s.lmBay b := by
  obtain ⟨-, -, others⟩ := (s.setVolume v e).noteDisks_spec e.segments
  exact others b hb

/-- A new volume is not impaired at the moment of its definition (R13; log entry 15). -/
theorem State.defined_not_impaired (v : Nat) {e : Volume} {l : List SegArg}
    {placed : List (Segment × Nat)} (hp : s.PlacedOn l placed) (he : e.segments = placed.map Prod.fst)
    (hr : ∀ x ∈ placed, x.1.base + x.1.length ≤ x.2) : (s.defined v e).impaired e = false := by
  unfold State.impaired
  rw [List.any_eq_false]
  intro g hg
  have hg' := hg
  rw [he] at hg'
  obtain ⟨x, hx, rfl⟩ := List.mem_map.1 hg'
  obtain ⟨hh, k, hk, hid, hcap⟩ := hp.disk hx
  have fits : x.1.base + x.1.length ≤ k.capacity := hcap ▸ hr x hx
  rw [s.defined_lmBay v hg hh, hk]
  simp [Segment.onDisk, hid, fits]

/-! ### CLEAR_VOLUME -/

theorem State.accepted_bmail (p : Port) (b : Bay) : (s.accepted p).bmail b = s.bmail b := by
  have e : (s.accepted p).bayMail = s.bayMail := s.accepted_parts p .bayMail (by simp)
  simp only [State.bmail, e]

theorem State.Clears.of_accepted {s t : State} {v : Nat} {e : Volume}
    (hc : (s.accepted p).Clears t v e) : s.Clears t v e := by
  obtain ⟨hv, others, bays⟩ := hc
  refine ⟨hv, fun w hw => (others w hw).trans (s.accepted_volume p w), fun b => ?_⟩
  have hb := bays b
  rw [s.accepted_lmBay, s.accepted_bmail] at hb
  exact hb

/-- Nothing is listed for a volume all of whose bays have 8 segments LISTED (R116). -/
theorem State.listFor_of_full {s t : State} {v : Nat} {e : Volume} (hc : s.Clears t v e)
    (full : ∀ g ∈ e.segments, 8 ≤ (s.lmBay g.bay).listed) : t.listFor e = t := by
  obtain ⟨-, -, bays⟩ := hc
  have stops : ∀ b ∈ e.segments.map Segment.bay, t.listFromHead b = t := by
    intro b hb
    obtain ⟨g, hg, rfl⟩ := List.mem_map.1 hb
    refine t.listFromHead_stops (.inl ?_)
    rw [(bays g.bay).1]
    exact full g hg
  unfold State.listFor
  generalize e.segments.map Segment.bay = l at stops
  induction l with
  | nil => rfl
  | cons b l ih =>
    rw [List.foldl_cons, stops b List.mem_cons_self]
    exact ih fun c hc => stops c (List.mem_cons_of_mem _ hc)

/-! ### RECALL_LOAN -/

theorem State.exec_recallLoan (ask : s.Asks 0x18 p f h) :
    exec .recallLoan s = .next ((s.accepted p).recallLoan h) := by
  simp only [exec, execRecallLoan, s.manage_of_asks _ ask]

theorem State.accepted_currentLoan (p : Port) (x : BitVec 16) :
    (s.accepted p).currentLoan x = s.currentLoan x := by
  simp only [State.currentLoan, State.accepted_loan, State.accepted_generation]

/-- A frame for a node goes by the node's entry and its last port alone. -/
theorem State.placeForNode_ports_of_same {s t : State} (hn : t.nodes = s.nodes) (hp : t.ports = s.ports)
    (n : Nat) (x : Header) : (t.placeForNode n x).ports = (s.placeForNode n x).ports := by
  have node : t.node? n = s.node? n := by rw [State.node?, hn, State.node?]
  unfold State.placeForNode
  rw [node]
  split
  · split
    · simp only [State.place, State.setPort, State.port, hp]
    · exact hp
  · exact hp

/-- A recalled loan is RECALLING until its grace deadline, and its holder is sent a RECALL notice (R37). -/
theorem State.recall_spec {x : BitVec 16} {l : Loan} {v : Volume} (hv : s.volume? l.volume = some v) :
    UnchangedBut [.lm, .ports] s (s.recall x l) ∧ (s.recall x l).lm.volumes = s.lm.volumes ∧
      OtherLoansUnchanged (handleIndex x) s (s.recall x l) ∧
      (s.recall x l).loan? (handleIndex x) =
        some { l with state := .recalling (s.now + secs v.grace) } ∧
      (s.recall x l).ports = (s.placeForNode l.holder (recallHeader x l.volume v.grace)).ports := by
  let u := s.setLoan (handleIndex x) { l with state := .recalling (s.now + secs v.grace) }
  have grace : s.graceOf l.volume = v.grace := by rw [State.graceOf, hv]
  have recalled : s.recall x l = u.placeForNode l.holder (recallHeader x l.volume v.grace) := by
    rw [State.recall, grace]
  have lm : (s.recall x l).lm = u.lm := by
    rw [recalled]
    exact u.placeForNode_unchanged _ _ .lm (by simp)
  refine ⟨?_, by rw [lm]; rfl, ⟨fun j hj => ?_, ?_⟩, ?_, ?_⟩
  · rw [recalled]
    exact ((s.setLoan_unchanged _ _).mono (by simp)).trans
      ((u.placeForNode_unchanged _ _).mono (by simp))
  · unfold State.loan?
    rw [lm]
    exact s.setLoan_loan_ne _ _ j hj
  · rw [lm]
    exact ⟨rfl, rfl, rfl, rfl, rfl⟩
  · unfold State.loan?
    rw [lm]
    exact s.setLoan_loan_self _ _
  · rw [recalled]
    exact State.placeForNode_ports_of_same (s := s) (t := u) rfl rfl _ _

/-! ### O52 -/

/-- A definition that passes every check (R13): what stands before the loan manager's status. -/
theorem State.defineVolume_good {d : DefineArgs} {placed : List (Segment × Nat)} {c : VolClass}
    (ask : s.Asks 0x10 p f h) (hd : defineArgs h.volume.toNat (f.payload.drop 48) = some d)
    (hp : s.PlacedOn d.segments placed) (hr : ∀ x ∈ placed, x.1.base + x.1.length ≤ x.2)
    (hj : s.judgeDefine d = .inr (DefineArgs.toVolume d c (placed.map Prod.fst))) :
    ∃ t, exec .defineVolume s = .next (t.lmStatus h .ok) ∧
      UnchangedBut [.cls, .agent, .lm] s t ∧ t.agent = (s.accepted p).agent ∧
      t.cls = (s.accepted p).cls ∧
      t.lm = { s.lm with volumes := t.lm.volumes, bays := t.lm.bays } ∧
      (∀ x ∈ placed, t.lmBay x.1.bay =
        { s.lmBay x.1.bay with reported := (s.unit x.1.bay).disk }) ∧
      (∀ b, (∀ x ∈ placed, x.1.bay ≠ b) → t.lmBay b = s.lmBay b) ∧
      OtherVolumesUnchanged d.volume s t ∧
      (∀ v, t.volume? d.volume = some v → t.impaired v = false) ∧
      t.volume? d.volume = some (DefineArgs.toVolume d c (placed.map Prod.fst)) := by
  let a := s.accepted p
  let e := DefineArgs.toVolume d c (placed.map Prod.fst)
  have parts := a.defined_parts d.volume e
  have hpa : a.PlacedOn d.segments placed := by
    rw [← a.placeSegments_eq_some_iff, s.accepted_placeSegments, s.placeSegments_eq_some_iff]
    exact hp
  refine ⟨a.defined d.volume e, ?_, ((s.accepted_parts p).mono (by simp)).trans (parts.mono (by simp)),
    parts .agent (by simp), parts .cls (by simp), ?_, fun x hx => ?_, fun b hb => ?_, fun w hw => ?_,
    fun v hv => ?_, a.defined_volume_self _ _⟩
  · simp only [s.exec_defineVolume ask hd, State.define, s.accepted_judgeDefine, hj]
    rfl
  · rw [a.defined_lm, s.accepted_lm]
  · rw [a.defined_lmBay d.volume (List.mem_map_of_mem hx) (hpa.disk hx).1, s.accepted_lmBay,
      s.accepted_unit]
  · refine (a.defined_lmBay_ne d.volume fun g hg => ?_).trans (s.accepted_lmBay p b)
    obtain ⟨x, hx, rfl⟩ := List.mem_map.1 hg
    exact hb x hx
  · exact (a.defined_otherVolumes _ _ w hw).trans (s.accepted_volume p w)
  · rw [a.defined_volume_self] at hv
    cases hv
    exact a.defined_not_impaired d.volume hpa rfl hr

theorem State.exec_deleteVolume (ask : s.Asks 0x11 p f h) :
    exec .deleteVolume s = .next ((s.accepted p).deleteVolume h h.volume.toNat) := by
  simp only [exec, execDeleteVolume, s.manage_of_asks _ ask]

theorem State.exec_clearVolume (ask : s.Asks 0x12 p f h) :
    exec .clearVolume s = .next ((s.accepted p).clearVolume h h.volume.toNat) := by
  simp only [exec, execClearVolume, s.manage_of_asks _ ask]

/-- Settles O52: each request is carried out in the accepted state, whose tables are those before; a
definition is judged check by check, and what a good one, a deletion, a clear and a recall do is read off the
lemmas of their operations. -/
theorem volumeRequests : Obligations.VolumeRequests := by
  refine ⟨DefineArgs.valuesGood_iff, ?_⟩
  rintro s p f h a rfl
  refine ⟨fun d ask hd => ⟨fun bad => ?_, fun good => ⟨fun hv => ?_, fun hv => ⟨fun away => ?_,
      fun placed hp => ⟨fun hr => ?_, fun hr => ⟨fun ho => ?_, fun apart within c hc => ?_⟩⟩⟩⟩⟩,
    fun ask => ⟨fun hv => ?_, fun hv => ⟨fun hn => ?_, fun v hs => ⟨fun used => ?_, fun h0 hw hc => ?_⟩⟩⟩,
    fun ask => ⟨fun hv => ?_, fun hv => ⟨fun hn => ?_, fun v hs => ⟨fun wrong => ?_, fun failed => ?_⟩⟩⟩,
    fun ask => ⟨fun hn => ?_, fun l hl => ⟨fun r hs => ?_, fun k hs => ?_, fun v hs hv => ?_⟩⟩⟩
  · exact s.exec_defineVolume_refused ask hd (State.judgeDefine_badValue bad)
  · exact s.exec_defineVolume_refused ask hd (State.judgeDefine_volumeExists good hv)
  · exact s.exec_defineVolume_refused ask hd (State.judgeDefine_diskUnavailable good hv away)
  · exact s.exec_defineVolume_refused ask hd (State.judgeDefine_outOfRange good hv hp hr)
  · exact s.exec_defineVolume_refused ask hd (State.judgeDefine_overlap good hv hp hr ho)
  · exact s.defineVolume_good ask hd hp hr (State.judgeDefine_good good hv hp hr apart within hc)
  · simp only [s.exec_deleteVolume ask, State.deleteVolume, if_pos hv]
  · simp only [s.exec_deleteVolume ask, State.deleteVolume, if_neg (Nat.not_lt.2 hv),
      s.accepted_volume, hn]
  · simp only [s.exec_deleteVolume ask, State.deleteVolume, if_neg (Nat.not_lt.2 hv),
      s.accepted_volume, hs, if_pos used]
  · have free : ¬(0 < v.loanCount ∨ v.waitList ≠ [] ∨ v.state = .clearing) := by simp [h0, hw, hc]
    refine ⟨(s.accepted p).eraseVolume h.volume.toNat, ?_, ?_, rfl, rfl, ?_, fun w hw => ?_, ?_⟩
    · simp only [s.exec_deleteVolume ask, State.deleteVolume, if_neg (Nat.not_lt.2 hv),
        s.accepted_volume, hs, if_neg free]
    · exact ((s.accepted_parts p).mono (by simp)).trans
        ((State.eraseVolume_unchanged _ _).mono (by simp))
    · simp only [State.eraseVolume, s.accepted_lm]
    · exact (Tbl.get_erase_ne _ _ _ hw).trans (s.accepted_volume p w)
    · exact Tbl.get_erase_self _ _
  · simp only [s.exec_clearVolume ask, State.clearVolume, if_pos hv]
  · simp only [s.exec_clearVolume ask, State.clearVolume, if_neg (Nat.not_lt.2 hv),
      s.accepted_volume, hn]
  · simp only [s.exec_clearVolume ask, State.clearVolume, if_neg (Nat.not_lt.2 hv),
      s.accepted_volume, hs, if_pos wrong]
  · obtain ⟨t, ht, parts, clears, lm⟩ := (s.accepted p).toClearing_spec h.volume.toNat v
      ((s.accepted_volume p _).trans hs)
    have clears' := State.Clears.of_accepted clears
    refine ⟨t, ?_, ((s.accepted_parts p).mono (by simp)).trans (parts.mono (by simp)),
      parts .agent (by simp), parts .cls (by simp), by rw [lm, s.accepted_lm], clears',
      State.listFor_of_full clears'⟩
    simp only [s.exec_clearVolume ask, State.clearVolume, if_neg (Nat.not_lt.2 hv), s.accepted_volume,
      hs, failed, ne_eq, not_true_eq_false, if_false, ht]
  · simp only [s.exec_recallLoan ask, State.recallLoan, s.accepted_currentLoan, hn]
  · simp only [s.exec_recallLoan ask, State.recallLoan, s.accepted_currentLoan, hl, hs]
  · simp only [s.exec_recallLoan ask, State.recallLoan, s.accepted_currentLoan, hl, hs]
  · obtain ⟨parts, volumes, loans, loan, ports⟩ := (s.accepted p).recall_spec (x := h.handle) (l := l)
      ((s.accepted_volume p _).trans hv)
    refine ⟨(s.accepted p).recall h.handle l, ?_,
      ((s.accepted_parts p).mono (by simp)).trans (parts.mono (by simp)), parts .agent (by simp),
      parts .cls (by simp), volumes.trans (by rw [s.accepted_lm]), ?_, ?_, ?_⟩
    · simp only [s.exec_recallLoan ask, State.recallLoan, s.accepted_currentLoan, hl, hs]
    · simpa only [OtherLoansUnchanged, State.accepted_loan, State.accepted_lm] using loans
    · rw [loan, s.accepted_now]
    · exact ports.trans (State.placeForNode_ports_of_same (s.accepted_nodes p)
        (s.accepted_parts p .ports (by simp)) _ _)

end Sys2Proof.Machine
end

section
/-! SUPPORT. Reading rules of the lending protocol (R19, R23, R147): what a freed classifier, a frame placed for
a node, and each write of a loan, a volume, a node or a record leave to be read. -/

namespace Sys2Proof.Machine

variable (s : State)

/-! ### The classifier is free -/

@[simp] theorem State.freeClassifier_lm : s.freeClassifier.lm = s.lm := rfl
@[simp] theorem State.freeClassifier_now : s.freeClassifier.now = s.now := rfl
@[simp] theorem State.freeClassifier_volume (v : Nat) : s.freeClassifier.volume? v = s.volume? v := rfl
@[simp] theorem State.freeClassifier_node (n : Nat) : s.freeClassifier.node? n = s.node? n := rfl
@[simp] theorem State.freeClassifier_loanOf (x : BitVec 16) (n : Nat) :
    s.freeClassifier.loanOf x n = s.loanOf x n := rfl
@[simp] theorem State.freeClassifier_borrowCheck (n : Nat) (e : Node) (v : Nat) (m : LoanMode) :
    s.freeClassifier.borrowCheck n e v m = s.borrowCheck n e v m := rfl

/-- A frame that the loan manager takes is of the kind it takes it for. -/
theorem State.kind_of_lendingFrame {k : Byte} {n : Nat} {h : Header}
    (hf : s.lendingFrame k = some (n, h)) : h.kind = k := by
  unfold State.lendingFrame at hf
  split at hf
  · split at hf
    · split at hf
      · cases hf
        assumption
      · cases hf
    · cases hf
  · cases hf

theorem answerHeader_eq {k : Byte} {h : Header} (hk : h.kind = k) (c : Code) :
    answerHeader h c = replyHeader k h.tag c := by
  subst hk
  rfl

/-! ### Frames for nodes -/

@[simp] theorem State.placeForNode_nodes (n : Nat) (h : Header) : (s.placeForNode n h).nodes = s.nodes :=
  s.placeForNode_unchanged n h .nodes (by simp)
@[simp] theorem State.placeForNode_lm (n : Nat) (h : Header) : (s.placeForNode n h).lm = s.lm :=
  s.placeForNode_unchanged n h .lm (by simp)

@[simp] theorem State.placeForNode_loan (n : Nat) (h : Header) (i : Nat) :
    (s.placeForNode n h).loan? i = s.loan? i := by simp [State.loan?]
@[simp] theorem State.placeForNode_volume (n : Nat) (h : Header) (v : Nat) :
    (s.placeForNode n h).volume? v = s.volume? v := by simp [State.volume?]
@[simp] theorem State.placeForNode_node (n : Nat) (h : Header) (m : Nat) :
    (s.placeForNode n h).node? m = s.node? m := by simp [State.node?]

/-- Where a frame for a node goes: the node's address and its last port (R147). -/
def State.nodePlace (s : State) (n : Nat) : Option (Addr × Option Port) :=
  (s.node? n).map fun e => (e.addr, e.lastPort)

/-- Two states in which a frame for any node comes to stand alike: the ports and the places of the nodes are the
same. -/
structure State.SamePlaces (s t : State) : Prop where
  place : ∀ n, t.nodePlace n = s.nodePlace n
  ports : t.ports = s.ports

theorem State.SamePlaces.refl : s.SamePlaces s := ⟨fun _ => rfl, rfl⟩

theorem State.SamePlaces.of_nodes {s t : State} (hn : t.nodes = s.nodes) (hp : t.ports = s.ports) :
    s.SamePlaces t := ⟨fun n => by simp only [State.nodePlace, State.node?, hn], hp⟩

theorem State.SamePlaces.trans {s t u : State} (h : s.SamePlaces t) (k : t.SamePlaces u) : s.SamePlaces u :=
  ⟨fun n => (k.place n).trans (h.place n), k.ports.trans h.ports⟩

/-- A frame for a node goes by the node's place alone. -/
theorem State.SamePlaces.placeForNode {s t : State} (same : s.SamePlaces t) (n : Nat) (h : Header) :
    (s.placeForNode n h).SamePlaces (t.placeForNode n h) := by
  refine ⟨fun m => ?_, ?_⟩
  · simpa only [State.nodePlace, State.placeForNode_node] using same.place m
  · have hn := same.place n
    have hp := same.ports
    unfold State.placeForNode
    cases hs : s.node? n with
    | none =>
      cases ht : t.node? n with
      | none => exact hp
      | some d => simp [State.nodePlace, hs, ht] at hn
    | some e =>
      cases ht : t.node? n with
      | none => simp [State.nodePlace, hs, ht] at hn
      | some d =>
        obtain ⟨addr, port⟩ : d.addr = e.addr ∧ d.lastPort = e.lastPort := by
          simpa [State.nodePlace, hs, ht] using hn
        cases he : e.lastPort with
        | none => simpa only [port, he] using hp
        | some p => simp only [port, he, addr, State.place, State.setPort, State.port, hp]

/-! ### One entry changed where it is in use -/

theorem State.modNode_node (n : Nat) (f : Node → Node) (m : Nat) :
    (s.modNode n f).node? m = (s.node? m).map fun e => if m = n then f e else e := by
  unfold State.modNode
  by_cases hm : m = n
  · subst hm
    cases hn : s.node? m <;> simp [hn]
  · split
    · simp [State.setNode_node_ne _ _ _ _ hm, hm]
    · simp [hm]

@[simp] theorem State.modNode_lm (n : Nat) (f : Node → Node) : (s.modNode n f).lm = s.lm :=
  s.modNode_unchanged n f .lm (by simp)
@[simp] theorem State.modNode_volume (n : Nat) (f : Node → Node) (v : Nat) :
    (s.modNode n f).volume? v = s.volume? v := by simp [State.volume?]
@[simp] theorem State.modNode_loan (n : Nat) (f : Node → Node) (i : Nat) :
    (s.modNode n f).loan? i = s.loan? i := by simp [State.loan?]
@[simp] theorem State.modNode_generation (n : Nat) (f : Node → Node) (i : Nat) :
    (s.modNode n f).generation i = s.generation i := by simp [State.generation]

/-- A change of a node that leaves its address and last port leaves the places of the nodes. -/
theorem State.modNode_samePlaces (n : Nat) {f : Node → Node}
    (hf : ∀ e, (f e).addr = e.addr ∧ (f e).lastPort = e.lastPort) : s.SamePlaces (s.modNode n f) := by
  refine ⟨fun m => ?_, s.modNode_unchanged n f .ports (by simp)⟩
  simp only [State.nodePlace, s.modNode_node, Option.map_map]
  congr 1
  funext e
  by_cases hm : m = n <;> simp [hm, hf]

/-- A node is changed but for its place, and a frame is placed for it, in a state with the nodes and the ports of
`s`. -/
theorem State.modNode_placeForNode_spec {s u : State} {n : Nat} {e : Node} {f : Node → Node}
    (hn : u.nodes = s.nodes) (hp : u.ports = s.ports) (he : s.node? n = some e)
    (hf : ∀ e, (f e).addr = e.addr ∧ (f e).lastPort = e.lastPort) (h : Header) :
    ((u.modNode n f).placeForNode n h).node? n = some (f e) ∧
      OtherNodesUnchanged n s ((u.modNode n f).placeForNode n h) ∧
      ((u.modNode n f).placeForNode n h).ports = (s.placeForNode n h).ports := by
  have node (m : Nat) : u.node? m = s.node? m := by rw [State.node?, hn, State.node?]
  have same : s.SamePlaces (u.modNode n f) := (State.SamePlaces.of_nodes hn hp).trans
    (u.modNode_samePlaces n hf)
  refine ⟨?_, fun m hm => ?_, (same.placeForNode n h).ports⟩
  · simp [State.modNode_node, node, he]
  · simp [State.modNode_node, node, hm]

theorem State.modVolume_volume (v : Nat) (f : Volume → Volume) (x : Nat) :
    (s.modVolume v f).volume? x = (s.volume? x).map fun e => if x = v then f e else e := by
  by_cases hx : x = v
  · subst hx
    cases hv : s.volume? x with
    | none => simp [State.modVolume, hv]
    | some e => simp [s.modVolume_volume_self f hv]
  · simp [s.modVolume_volume_ne v f hx, hx]

/-! ### One loan written -/

/-- Loan entry `i` becomes `l`; no other loan, no volume, and nothing else of the loan manager changes. -/
structure State.LoanBecomes (s t : State) (i : Nat) (l : Loan) : Prop where
  loan : t.loan? i = some l
  others : OtherLoansUnchanged i s t
  volumes : t.lm.volumes = s.lm.volumes

theorem State.setLoan_becomes (i : Nat) (l : Loan) : s.LoanBecomes (s.setLoan i l) i l :=
  ⟨s.setLoan_loan_self i l, ⟨fun _ hj => s.setLoan_loan_ne i l _ hj, rfl, rfl, rfl, rfl, rfl⟩, rfl⟩

/-- What a loan becomes is read of the loan manager alone. -/
theorem State.LoanBecomes.of_lm {s t s' t' : State} {i : Nat} {l : Loan} (h : s.LoanBecomes t i l)
    (hs : s'.lm = s.lm) (ht : t'.lm = t.lm) : s'.LoanBecomes t' i l := by
  obtain ⟨loan, others, volumes⟩ := h
  unfold OtherLoansUnchanged at others
  refine ⟨?_, ?_, by rw [ht, hs, volumes]⟩
  · rwa [State.loan?, ht]
  · unfold OtherLoansUnchanged State.loan?
    rw [ht, hs]
    exact others

/-- A loan is written and a frame placed for a node: what a RENEW, a RETURN and every ending of a loan do. -/
theorem State.setLoan_placeForNode_spec (i : Nat) (l : Loan) (n : Nat) (h : Header) :
    UnchangedBut [.lm, .ports] s ((s.setLoan i l).placeForNode n h) ∧
      s.LoanBecomes ((s.setLoan i l).placeForNode n h) i l ∧
      ((s.setLoan i l).placeForNode n h).ports = (s.placeForNode n h).ports := by
  refine ⟨((s.setLoan_unchanged i l).mono (by simp)).trans
    ((State.placeForNode_unchanged _ n h).mono (by simp)), ?_, ?_⟩
  · exact (s.setLoan_becomes i l).of_lm rfl (State.placeForNode_lm _ n h)
  · exact ((State.SamePlaces.of_nodes (s := s) (t := s.setLoan i l) rfl rfl).placeForNode n h).ports

/-! ### Handles (R20) -/

theorem handleOf_toNat {i g : Nat} (hi : i < 1024) (hg : g < 64) : (handleOf i g).toNat = 64 * i + g := by
  rw [handleOf, BitVec.toNat_ofNat, Nat.mod_eq_of_lt]
  omega

theorem handleIndex_lt (h : BitVec 16) : handleIndex h < 1024 := by
  have := h.isLt
  unfold handleIndex
  omega

theorem handleGen_lt (h : BitVec 16) : handleGen h < 64 := Nat.mod_lt _ (by decide)

/-- Settles O22: the index and the generation are the quotient and the remainder of the handle by 64. -/
theorem handleLaw : Obligations.HandleLaw := by
  intro i g hi hg
  have value := handleOf_toNat hi hg
  refine ⟨value, ?_, ?_, fun h => ⟨?_, handleIndex_lt h, handleGen_lt h⟩⟩
  · rw [handleIndex, value]
    omega
  · rw [handleGen, value]
    omega
  · apply BitVec.eq_of_toNat_eq
    rw [handleOf_toNat (handleIndex_lt h) (handleGen_lt h)]
    exact Nat.div_add_mod _ _

end Sys2Proof.Machine
end

section
/-! SUPPORT. RENEW, RETURN, LOAN_CLAIM and the timers of a loan (R34 to R36, R38, R39, R47): O15, O16 and O18. -/

namespace Sys2Proof.Machine

variable (s : State)

theorem State.termOf_eq {v : Nat} {vol : Volume} (hv : s.volume? v = some vol) : s.termOf v = vol.term := by
  simp only [State.termOf, hv]

theorem LoanState.live_cases {st : LoanState} (h : st.isEnding = false) :
    st = .held ∨ ∃ d, st = .recalling d := by
  cases st with
  | held => exact .inl rfl
  | recalling d => exact .inr ⟨d, rfl⟩
  | ending r => cases h

/-- A loan that is in use is freed at once exactly where it has no outstanding request (R44). -/
theorem State.freeIfQuiet_eq {i : Nat} {l : Loan} (hl : s.loan? i = some l) :
    s.freeIfQuiet i = if l.outstanding = 0 then s.freeLoan i else s := by
  simp only [State.freeIfQuiet, hl]

/-- The ending of a loan that is in use (R36, R38, R41, R43). -/
theorem State.endWithNotice_eq {i : Nat} {l : Loan} (r : EndReason) (hl : s.loan? i = some l) :
    s.endWithNotice i r = (s.setLoan i { l with state := .ending r }).placeForNode l.holder
      (endedHeader (handleOf i (s.generation i)) l.volume r) := by
  simp only [State.endWithNotice, hl]

/-! ### LOAN_CLAIM (R35) -/

/-- A claim that is accepted leaves the loan `l` behind. -/
theorem State.exec_loanClaim_accepted {c : Claim} {l : Loan} (hc : s.mail.claim = some c)
    (hj : s.judgeClaim c = (.accepted, s.setLoan (handleIndex c.handle) l)) :
    ∃ t, exec .loanClaim s = .next t ∧ UnchangedBut [.lm, .mail] s t ∧
      t.mail = { s.mail with claim := none, claimAnswer := some .accepted } ∧
      t.loan? (handleIndex c.handle) = some l ∧
      OtherLoansUnchanged (handleIndex c.handle) s t ∧ t.lm.volumes = s.lm.volumes := by
  have k := s.setLoan_becomes (handleIndex c.handle) l
  refine ⟨{ s.setLoan (handleIndex c.handle) l with
    mail := { s.mail with claim := none, claimAnswer := some .accepted } }, ?_, ?_, rfl, k.loan, k.others, rfl⟩
  · simp only [exec, execLoanClaim, hc, hj]
  · exact ((s.setLoan_unchanged _ _).mono (by simp)).trans ((State.setMail_unchanged _ _).mono (by simp))

theorem State.exec_loanClaim_refused {c : Claim} {r : Code} (hc : s.mail.claim = some c)
    (hj : s.judgeClaim c = (.refused r, s)) :
    exec .loanClaim s = .next { s with
      mail := { s.mail with claim := none, claimAnswer := some (.refused r) } } := by
  simp only [exec, execLoanClaim, hc, hj]

/-- Settles O16: the judgement of a claim follows the loan its handle names for the sender, and then the state
of that loan. -/
theorem loanClaim : Obligations.LoanClaim := by
  refine fun s c hc => ⟨fun absent => ?_, fun l hl => ⟨fun ending => ?_, fun vol held hv => ?_,
    fun d recalling => ?_⟩⟩
  · exact s.exec_loanClaim_refused hc (by simp only [State.judgeClaim, absent])
  · obtain ⟨r, hr⟩ : ∃ r, l.state = .ending r := by
      cases hs : l.state with
      | ending r => exact ⟨r, rfl⟩
      | held => rw [hs] at ending; cases ending
      | recalling d => rw [hs] at ending; cases ending
    exact s.exec_loanClaim_refused hc (by simp only [State.judgeClaim, hl, hr])
  · exact s.exec_loanClaim_accepted hc (by simp only [State.judgeClaim, hl, held, s.termOf_eq hv])
  · exact s.exec_loanClaim_accepted hc (by simp only [State.judgeClaim, hl, recalling])

/-! ### RENEW and RETURN (R34, R39) -/

section Frames
variable {n : Nat} {h : Header} {l : Loan}

theorem State.exec_renew (hf : s.lendingFrame 0x02 = some (n, h)) :
    exec .renew s = .next (s.freeClassifier.renew n h) := by
  simp only [exec, execRenew, hf]

theorem State.exec_returnLoan (hf : s.lendingFrame 0x03 = some (n, h)) :
    exec .returnLoan s = .next (s.freeClassifier.returnLoan n h) := by
  simp only [exec, execReturnLoan, hf]

/-- A loan written and an answer placed for a frame of the loan manager, seen from the state in which the frame
waited. -/
theorem State.answered_spec (i : Nat) (l : Loan) (n : Nat) (x : Header) :
    ∀ u, u = (s.freeClassifier.setLoan i l).placeForNode n x →
      UnchangedBut [.cls, .lm, .ports] s u ∧ u.cls = { s.cls with passed := none } ∧
        u.loan? i = some l ∧ OtherLoansUnchanged i s u ∧ u.lm.volumes = s.lm.volumes ∧
        u.ports = (s.placeForNode n x).ports := by
  rintro u rfl
  obtain ⟨parts, ⟨loan, others, volumes⟩, ports⟩ := s.freeClassifier.setLoan_placeForNode_spec i l n x
  refine ⟨(s.freeClassifier_unchanged.mono (by simp)).trans (parts.mono (by simp)),
    parts .cls (by simp), loan, others, volumes, ports.trans ?_⟩
  exact State.placeForNode_ports_of_same (s := s) (t := s.freeClassifier) rfl rfl n x

/-- A RETURN of a loan that is not ENDING (R39, R44). -/
theorem State.exec_returnLoan_live (hf : s.lendingFrame 0x03 = some (n, h))
    (hl : s.loanOf h.handle n = some l) (live : l.state.isEnding = false) :
    ∃ u, exec .returnLoan s =
        .next (if l.outstanding = 0 then u.freeLoan (handleIndex h.handle) else u) ∧
      UnchangedBut [.cls, .lm, .ports] s u ∧ u.cls = { s.cls with passed := none } ∧
      u.loan? (handleIndex h.handle) = some { l with state := .ending .returned } ∧
      OtherLoansUnchanged (handleIndex h.handle) s u ∧ u.lm.volumes = s.lm.volumes ∧
      u.ports = (s.placeForNode n { replyHeader 0x03 h.tag .ok with
        handle := h.handle, valueA := BitVec.ofNat 32 l.outstanding }).ports := by
  have spec := s.answered_spec (handleIndex h.handle) { l with state := .ending .returned } n
    { replyHeader 0x03 h.tag .ok with
      handle := h.handle, valueA := BitVec.ofNat 32 l.outstanding } _ rfl
  obtain ⟨-, -, loan, -⟩ := id spec
  refine ⟨_, ?_, spec⟩
  rw [s.exec_returnLoan hf]
  obtain held | ⟨d, recalling⟩ := LoanState.live_cases live
  · simp only [State.returnLoan, s.freeClassifier_loanOf, hl, held,
      answerHeader_eq (s.kind_of_lendingFrame hf), State.freeIfQuiet_eq _ loan]
  · simp only [State.returnLoan, s.freeClassifier_loanOf, hl, recalling,
      answerHeader_eq (s.kind_of_lendingFrame hf), State.freeIfQuiet_eq _ loan]

end Frames

/-- Settles O15: what a RENEW or a RETURN does goes by the loan its handle names for the sender, and by the state
of that loan. -/
theorem renewAndReturn : Obligations.RenewAndReturn := by
  refine fun s n h => ⟨fun hf => ⟨fun absent => ?_, fun l hl => ⟨fun r hs => ?_, fun d hs => ?_,
      fun vol hs hv => ?_⟩⟩,
    fun hf => ⟨fun absent => ?_, fun l hl => ⟨fun r hs => ?_, fun live busy => ?_, fun live quiet => ?_⟩⟩⟩
  · simp only [s.exec_renew hf, State.renew, s.freeClassifier_loanOf, absent,
      answerHeader_eq (s.kind_of_lendingFrame hf)]
  · simp only [s.exec_renew hf, State.renew, s.freeClassifier_loanOf, hl, hs,
      answerHeader_eq (s.kind_of_lendingFrame hf)]
  · simp only [s.exec_renew hf, State.renew, s.freeClassifier_loanOf, hl, hs,
      answerHeader_eq (s.kind_of_lendingFrame hf)]
    rfl
  · have term := s.freeClassifier.termOf_eq hv
    refine ⟨_, s.exec_renew hf, s.answered_spec _ _ n _ _ ?_⟩
    simp only [State.renew, s.freeClassifier_loanOf, hl, hs, term,
      answerHeader_eq (s.kind_of_lendingFrame hf), s.freeClassifier_now]
  · simp only [s.exec_returnLoan hf, State.returnLoan, s.freeClassifier_loanOf, absent,
      answerHeader_eq (s.kind_of_lendingFrame hf)]
  · simp only [s.exec_returnLoan hf, State.returnLoan, s.freeClassifier_loanOf, hl, hs,
      answerHeader_eq (s.kind_of_lendingFrame hf)]
  · obtain ⟨u, answer, spec⟩ := s.exec_returnLoan_live hf hl live
    exact ⟨u, by rw [answer, if_neg (Nat.ne_of_gt busy)], spec⟩
  · obtain ⟨u, answer, spec⟩ := s.exec_returnLoan_live hf hl live
    have zero : (0 : BitVec 32) = BitVec.ofNat 32 l.outstanding := congrArg (BitVec.ofNat 32) quiet.symm
    rw [zero]
    exact ⟨u, by rw [answer, if_pos quiet], spec⟩

/-! ### Timers (R36, R38) -/

section Timers
variable {i : Nat} {l : Loan}

/-- A loan that has ended with notice: what it becomes, and the ENDED notice to its holder. -/
theorem State.endWithNotice_spec (r : EndReason) (hl : s.loan? i = some l) :
    UnchangedBut [.lm, .ports] s (s.endWithNotice i r) ∧
      s.LoanBecomes (s.endWithNotice i r) i { l with state := .ending r } ∧
      (s.endWithNotice i r).ports = (s.placeForNode l.holder
        (endedHeader (handleOf i (s.generation i)) l.volume r)).ports := by
  rw [s.endWithNotice_eq r hl]
  exact s.setLoan_placeForNode_spec _ _ _ _

/-- LOAN_EXPIRED joins a channel whose head waits, while the manager's slot is filled (R47). -/
theorem State.expiredNotice_eq (i : Nat) (l : Loan) (hc : settledChannel s.mail.lmToAgent = true) :
    s.expiredNotice i l = { s with mail := { s.mail with lmToAgent := s.mail.lmToAgent ++
      (if s.agent.slot.isSome = true
       then [AgentMsg.notice (.loanExpired (handleOf i (s.generation i)) l.volume l.mode
         (s.nodeAddr l.holder))]
       else []) } } := by
  unfold State.expiredNotice
  cases hs : s.agent.slot with
  | none => simp
  | some sl => simp [s.lmNotice_eq _ hc]

theorem State.exec_termExpiry_due (hl : s.loan? i = some l) (held : l.state = .held)
    (due : l.termDeadline ≤ s.now) : exec (.termExpiry i) s = .next (s.expireTerm i l) := by
  simp only [exec, execTermExpiry, hl, if_pos (And.intro held due)]

/-- The expiry of a term before the entry is freed (R36, R47). -/
theorem State.termExpired_spec (hl : s.loan? i = some l) (hc : settledChannel s.mail.lmToAgent = true) :
    ∀ u, u = (s.endWithNotice i .expired).expiredNotice i l →
      UnchangedBut [.lm, .ports, .mail] s u ∧ s.LoanBecomes u i { l with state := .ending .expired } ∧
      u.ports = (s.placeForNode l.holder
        (endedHeader (handleOf i (s.generation i)) l.volume .expired)).ports ∧
      u.mail = { s.mail with lmToAgent := s.mail.lmToAgent ++
        (if s.agent.slot.isSome = true
         then [AgentMsg.notice (.loanExpired (handleOf i (s.generation i)) l.volume l.mode
           (s.nodeAddr l.holder))]
         else []) } := by
  rintro u rfl
  obtain ⟨parts, becomes, ports⟩ := s.endWithNotice_spec .expired hl
  have mail : (s.endWithNotice i .expired).mail = s.mail := parts .mail (by simp)
  have agent : (s.endWithNotice i .expired).agent = s.agent := parts .agent (by simp)
  have nodes : (s.endWithNotice i .expired).nodes = s.nodes := parts .nodes (by simp)
  have generation : (s.endWithNotice i .expired).generation i = s.generation i := by
    obtain ⟨-, generations, -⟩ := becomes.others
    rw [State.generation, generations, State.generation]
  have addr : (s.endWithNotice i .expired).nodeAddr l.holder = s.nodeAddr l.holder := by
    simp only [State.nodeAddr, State.node?, nodes]
  have told := (s.endWithNotice i .expired).expiredNotice_eq i l (by rwa [mail])
  refine ⟨?_, ?_, ?_, ?_⟩
  · rw [told]
    have kept : UnchangedBut [.lm, .ports, .mail] s (s.endWithNotice i .expired) := parts.mono (by simp)
    exact kept.trans ((State.setMail_unchanged _ _).mono (by simp))
  · rw [told]
    exact becomes.of_lm rfl rfl
  · rw [told]
    exact ports
  · simp only [told, mail, agent, generation, addr]

end Timers

/-- Settles O18: an expiry that is due ends its loan with notice and frees it where it is quiet; any other is
turned away by the test of the loan's state and deadline. -/
theorem loanTimers : Obligations.LoanTimers := by
  refine fun s i l hl => ⟨fun held due law => ?_, fun early => ?_, fun d recalling due => ?_, fun early => ?_⟩
  · obtain ⟨settled, -⟩ := law
    obtain ⟨parts, ⟨loan, others, volumes⟩, ports, mail⟩ := s.termExpired_spec hl settled _ rfl
    refine ⟨_, parts, loan, others, volumes, ports, mail, ?_⟩
    rw [s.exec_termExpiry_due hl held due, State.expireTerm, State.freeIfQuiet_eq _ loan]
  · have notDue : ¬(l.state = .held ∧ l.termDeadline ≤ s.now) := by
      rintro ⟨held, due⟩
      exact early.elim (· held) (Nat.not_lt.2 due)
    simp only [exec, execTermExpiry, hl, if_neg notDue]
  · obtain ⟨parts, ⟨loan, others, volumes⟩, ports⟩ := s.endWithNotice_spec .recalled hl
    refine ⟨_, parts, loan, others, volumes, ports, ?_⟩
    simp only [exec, execGraceExpiry, hl, recalling, if_pos due, State.freeIfQuiet_eq _ loan]
  · cases hs : l.state with
    | held => simp only [exec, execGraceExpiry, hl, hs]
    | recalling d => simp only [exec, execGraceExpiry, hl, hs, if_neg (Nat.not_le.2 (early d hs))]
    | ending r => simp only [exec, execGraceExpiry, hl, hs]

end Sys2Proof.Machine
end

section
/-! SUPPORT. BORROW (R25 to R28): its checks in their order, its outcome, and O13 and O14. -/

namespace Sys2Proof.Machine

variable (s : State) {n : Nat} {h : Header} {e : Node} {m : LoanMode} {vol : Volume}

theorem borrowMode_eq (hm : LoanMode.ofValue h.code = some m) : borrowMode h = m := by
  rw [borrowMode, hm]
  rfl

theorem borrowAnswer_eq (hk : h.kind = 0x01) (c : Code) :
    borrowAnswer h c = { replyHeader 0x01 h.tag c with volume := h.volume } := by
  rw [borrowAnswer, answerHeader_eq hk]

/-! ### The checks (R25) -/

section Checks
variable {v : Nat}

theorem State.borrowCheck_noSuchVolume (hv : s.volume? v = none) :
    s.borrowCheck n e v m = some .noSuchVolume := by simp only [State.borrowCheck, hv]

theorem State.borrowCheck_classForbids (hv : s.volume? v = some vol) (ha : vol.cls.allows m = false) :
    s.borrowCheck n e v m = some .classForbids := by simp [State.borrowCheck, hv, ha]

theorem State.borrowCheck_draining (hv : s.volume? v = some vol) (ha : vol.cls.allows m = true)
    (he : e.state = .draining ∨ e.state = .drained) : s.borrowCheck n e v m = some .draining := by
  simp [State.borrowCheck, hv, ha, he]

variable (hv : s.volume? v = some vol) (ha : vol.cls.allows m = true)
  (he : ¬(e.state = .draining ∨ e.state = .drained))
include hv ha he

theorem State.borrowCheck_alreadyHeld (hh : (s.loanOn n v).isSome ∨ (s.recordOn n v).isSome) :
    s.borrowCheck n e v m = some .alreadyHeld := by simp [State.borrowCheck, hv, ha, he, hh]

theorem State.borrowCheck_loanLimit (hl : s.loanOn n v = none) (hr : s.recordOn n v = none)
    (h8 : 8 ≤ e.loanWait) : s.borrowCheck n e v m = some .loanLimit := by
  simp [State.borrowCheck, hv, ha, he, hl, hr, h8]

theorem State.borrowCheck_volumeBlocked (hl : s.loanOn n v = none) (hr : s.recordOn n v = none)
    (h8 : e.loanWait < 8) (hb : vol.state = .clearFailed ∨ s.impaired vol = true) :
    s.borrowCheck n e v m = some .volumeBlocked := by
  simp [State.borrowCheck, hv, ha, he, hl, hr, Nat.not_le.2 h8, hb]

end Checks

/-! ### What the checks decide -/

section Taken
variable (hf : s.lendingFrame 0x01 = some (n, h)) (hn : s.node? n = some e)
  (hm : LoanMode.ofValue h.code = some m)
include hf hn hm

/-- A BORROW that fails a check whose answer needs no more than the code (R28). -/
theorem State.exec_borrow_refused {c : Code} (hc : s.borrowCheck n e h.volume.toNat m = some c)
    (ne : c ≠ .alreadyHeld) : exec .borrow s = .next (s.freeClassifier.placeForNode n
      { replyHeader 0x01 h.tag c with volume := h.volume }) := by
  rw [← borrowAnswer_eq (s.kind_of_lendingFrame hf)]
  simp only [exec, execBorrow, hf, State.borrow, s.freeClassifier_node, hn, borrowMode_eq hm,
    s.freeClassifier_borrowCheck, hc]
  split
  · contradiction
  · rename_i held _
    exact absurd (Option.some.inj held) ne
  · rw [Option.some.inj ‹some c = _›]
  · contradiction

/-- A BORROW of a node that holds a loan on the volume or waits for it (R28). -/
theorem State.exec_borrow_alreadyHeld (hv : s.volume? h.volume.toNat = some vol)
    (hc : s.borrowCheck n e h.volume.toNat m = some .alreadyHeld) :
    exec .borrow s = .next (s.freeClassifier.placeForNode n
      (s.heldAnswer n h.volume.toNat vol.waitList h)) := by
  simp only [exec, execBorrow, hf, State.borrow, s.freeClassifier_node, hn, borrowMode_eq hm,
    s.freeClassifier_borrowCheck, hc, s.freeClassifier_volume, hv]
  rfl

/-- A BORROW that passes every check (R26). -/
theorem State.exec_borrow_passed (hv : s.volume? h.volume.toNat = some vol)
    (hc : s.borrowCheck n e h.volume.toNat m = none) :
    exec .borrow s = .next (s.freeClassifier.borrowOutcome n h.volume.toNat m vol h) := by
  simp only [exec, execBorrow, hf, State.borrow, s.freeClassifier_node, hn, borrowMode_eq hm,
    s.freeClassifier_borrowCheck, hc, s.freeClassifier_volume, hv]

end Taken

/-- Settles O14: the checks of R25 are taken one after another, and each refusal is the answer that its code
gives. -/
theorem borrowRefused : Obligations.BorrowRefused := by
  refine fun s n h e m hf hn hm => ⟨fun hv => ?_, fun vol hv => ⟨fun ha => ?_, fun ha he => ?_,
    fun ha hd hd' => ⟨fun i l hl => ?_, fun r hl hr => ?_, fun hl hr h8 => ?_, fun hl hr h8 hb => ?_⟩⟩⟩
  · exact s.exec_borrow_refused hf hn hm (s.borrowCheck_noSuchVolume hv) (by decide)
  · exact s.exec_borrow_refused hf hn hm (s.borrowCheck_classForbids hv ha) (by decide)
  · exact s.exec_borrow_refused hf hn hm (s.borrowCheck_draining hv ha he) (by decide)
  · rw [s.exec_borrow_alreadyHeld hf hn hm hv
      (s.borrowCheck_alreadyHeld hv ha (not_or.2 ⟨hd, hd'⟩) (by simp [hl]))]
    simp only [State.heldAnswer, hl, borrowAnswer_eq (s.kind_of_lendingFrame hf)]
  · rw [s.exec_borrow_alreadyHeld hf hn hm hv
      (s.borrowCheck_alreadyHeld hv ha (not_or.2 ⟨hd, hd'⟩) (by simp [hr]))]
    simp only [State.heldAnswer, hl, hr, positionOf, borrowAnswer_eq (s.kind_of_lendingFrame hf)]
  · exact s.exec_borrow_refused hf hn hm
      (s.borrowCheck_loanLimit hv ha (not_or.2 ⟨hd, hd'⟩) hl hr h8) (by decide)
  · exact s.exec_borrow_refused hf hn hm
      (s.borrowCheck_volumeBlocked hv ha (not_or.2 ⟨hd, hd'⟩) hl hr h8 hb) (by decide)

/-! ### The outcome (R26, R27) -/

section Outcome
variable {v : Nat}

/-- What a new loan leaves of its volume (R27). -/
def Volume.lentOnce (vol : Volume) : Volume :=
  { vol with loanCount := vol.loanCount + 1, state := if vol.state = .idle then .lent else vol.state }

/-- A new loan of a node on a volume (R27). -/
def State.newLoan (s : State) (n v : Nat) (m : LoanMode) (vol : Volume) : Loan :=
  { holder := n, volume := v, mode := m, state := .held, termDeadline := s.now + secs vol.term,
    outstanding := 0 }

theorem State.createLoan_eq (hv : s.volume? v = some vol) (n : Nat) (m : LoanMode) (i : Nat) :
    s.createLoan v n m i =
      (s.setLoan i (s.newLoan n v m vol)).setVolume v (Volume.lentOnce vol) := by
  simp only [State.createLoan, hv]
  rfl

/-- A loan granted at once fills a free entry, and both counts rise (R27). -/
theorem State.borrowGrant_spec (hv : s.volume? v = some vol) (hn : s.node? n = some e) {i : Nat}
    (hi : s.lm.loans.lowestFree 1024 = some i) :
    ∀ t, t = s.borrowGrant n v m vol h →
      UnchangedBut [.lm, .nodes, .ports] s t ∧ t.loan? i = some (s.newLoan n v m vol) ∧
      OtherLoansUnchanged i s t ∧ t.volume? v = some (Volume.lentOnce vol) ∧
      OtherVolumesUnchanged v s t ∧ t.node? n = some { e with loanWait := e.loanWait + 1 } ∧
      OtherNodesUnchanged n s t ∧
      t.ports = (s.placeForNode n { borrowAnswer h .ok with
        handle := handleOf i (s.generation i), valueA := BitVec.ofNat 32 vol.term }).ports := by
  let l := s.newLoan n v m vol
  let u := (s.setLoan i l).setVolume v (Volume.lentOnce vol)
  let c : Node → Node := fun e => { e with loanWait := e.loanWait + 1 }
  let x : Header := { borrowAnswer h .ok with
    handle := handleOf i (s.generation i), valueA := BitVec.ofNat 32 vol.term }
  have grant : s.borrowGrant n v m vol h = (u.modNode n c).placeForNode n x := by
    simp only [State.borrowGrant, hi, s.createLoan_eq hv]
    rfl
  have parts : UnchangedBut [.lm, .nodes, .ports] s u :=
    ((s.setLoan_unchanged i l).trans (State.setVolume_unchanged _ v _)).mono (by simp)
  rw [grant]
  rintro t rfl
  obtain ⟨node, nodes, ports⟩ := State.modNode_placeForNode_spec (s := s) (u := u) rfl rfl hn
    (f := c) (fun _ => ⟨rfl, rfl⟩) x
  refine ⟨(parts.trans ((u.modNode_unchanged n c).mono (by simp))).trans
    ((State.placeForNode_unchanged _ n x).mono (by simp)), ?_, ⟨fun j hj => ?_, ?_⟩, ?_, fun w hw => ?_,
    node, nodes, ports⟩
  · rw [State.placeForNode_loan, State.modNode_loan]
    exact s.setLoan_loan_self i l
  · rw [State.placeForNode_loan, State.modNode_loan]
    exact s.setLoan_loan_ne i l j hj
  · rw [State.placeForNode_lm, State.modNode_lm]
    exact ⟨rfl, rfl, rfl, rfl, rfl⟩
  · rw [State.placeForNode_volume, State.modNode_volume]
    exact State.setVolume_volume_self _ v _
  · rw [State.placeForNode_volume, State.modNode_volume]
    exact State.setVolume_volume_ne _ v _ w hw

/-- A borrow that is queued takes a free record, which joins the tail of the volume's wait list (R28). -/
theorem State.borrowQueue_spec (hn : s.node? n = some e) (limit : Nat) {r : Nat}
    (hr : s.lm.waits.lowestFree 256 = some r) :
    ∀ t, t = s.borrowQueue n v m vol limit h →
      UnchangedBut [.lm, .nodes, .ports] s t ∧
      t.lm.waits.get r = some { node := n, volume := v, mode := m, deadline := s.now + secs limit } ∧
      (∀ q, q ≠ r → t.lm.waits.get q = s.lm.waits.get q) ∧ t.lm.loans = s.lm.loans ∧
      t.lm.generations = s.lm.generations ∧ t.lm.retry = s.lm.retry ∧ t.lm.bays = s.lm.bays ∧
      t.lm.resetShare = s.lm.resetShare ∧
      t.volume? v = some { vol with waitList := vol.waitList ++ [r] } ∧
      OtherVolumesUnchanged v s t ∧ t.node? n = some { e with loanWait := e.loanWait + 1 } ∧
      OtherNodesUnchanged n s t ∧
      t.ports = (s.placeForNode n { borrowAnswer h .queued with
        valueA := BitVec.ofNat 32 (vol.waitList.length + 1), valueB := BitVec.ofNat 32 limit }).ports := by
  let w : WaitRec := { node := n, volume := v, mode := m, deadline := s.now + secs limit }
  let u := (s.setRecord r w).setVolume v { vol with waitList := vol.waitList ++ [r] }
  let c : Node → Node := fun e => { e with loanWait := e.loanWait + 1 }
  let x : Header := { borrowAnswer h .queued with
    valueA := BitVec.ofNat 32 (vol.waitList.length + 1), valueB := BitVec.ofNat 32 limit }
  have queue : s.borrowQueue n v m vol limit h = (u.modNode n c).placeForNode n x := by
    simp only [State.borrowQueue, hr]
    rfl
  have parts : UnchangedBut [.lm, .nodes, .ports] s u :=
    ((s.setRecord_unchanged r w).trans (State.setVolume_unchanged _ v _)).mono (by simp)
  rw [queue]
  rintro t rfl
  rw [State.placeForNode_lm, State.modNode_lm]
  obtain ⟨node, nodes, ports⟩ := State.modNode_placeForNode_spec (s := s) (u := u) rfl rfl hn
    (f := c) (fun _ => ⟨rfl, rfl⟩) x
  refine ⟨(parts.trans ((u.modNode_unchanged n c).mono (by simp))).trans
    ((State.placeForNode_unchanged _ n x).mono (by simp)), Tbl.get_set_self _ _ _,
    fun q hq => Tbl.get_set_ne _ _ _ _ hq, rfl, rfl, rfl, rfl, rfl, ?_, fun w hw => ?_, node, nodes, ports⟩
  · rw [State.placeForNode_volume, State.modNode_volume]
    exact State.setVolume_volume_self _ v _
  · rw [State.placeForNode_volume, State.modNode_volume]
    exact State.setVolume_volume_ne _ v _ w hw

theorem State.borrowOutcome_grantable (hw : vol.waitList = []) (hc : s.compatible v m = true) :
    s.borrowOutcome n v m vol h = s.borrowGrant n v m vol h := by
  simp [State.borrowOutcome, hw, hc]

theorem min_limit_eq_zero_iff : min 600 h.valueA.toNat = 0 ↔ h.valueA = 0 := by
  rw [← BitVec.toNat_inj]
  have zero : (0 : BitVec 32).toNat = 0 := rfl
  omega

/-- A borrow that is not grantable is refused with wait limit 0, and else queued (R26). -/
theorem State.borrowOutcome_blocked (hg : ¬(vol.waitList = [] ∧ s.compatible v m = true)) :
    s.borrowOutcome n v m vol h =
      if h.valueA = 0 then s.placeForNode n (borrowAnswer h .unavailableNow)
      else s.borrowQueue n v m vol (min 600 h.valueA.toNat) h := by
  have blocked : ¬(vol.waitList.isEmpty && s.compatible v m) = true := by simpa using hg
  simp only [State.borrowOutcome, if_neg blocked, min_limit_eq_zero_iff]

end Outcome

/-- Settles O13: a BORROW that passes its checks is granted, refused or queued by its wait list, its
compatibility and its wait limit, and answered POOL_FULL where the table it needs is full. -/
theorem borrowAdmitted : Obligations.BorrowAdmitted := by
  intro s n h e m vol hf hn hm hc hv
  have passed := s.exec_borrow_passed hf hn hm hv hc
  have answer := borrowAnswer_eq (s.kind_of_lendingFrame hf)
  have free := s.freeClassifier_unchanged
  have places (x : Header) : (s.freeClassifier.placeForNode n x).ports = (s.placeForNode n x).ports :=
    State.placeForNode_ports_of_same (s := s) (t := s.freeClassifier) rfl rfl n x
  refine ⟨fun i hw hcomp hi => ?_, fun hw hcomp hi => ?_, fun hg h0 => ?_, fun hg h0 hr => ?_,
    fun r hg h0 hr => ?_⟩
  · obtain ⟨parts, loan, others, volume, volumes, node, nodes, ports⟩ :=
      s.freeClassifier.borrowGrant_spec (h := h) (m := m) hv hn hi _ rfl
    refine ⟨_, ?_, (free.mono (by simp)).trans (parts.mono (by simp)), parts .cls (by simp), loan, others,
      volume, volumes, node, nodes, ?_⟩
    · rw [passed, s.freeClassifier.borrowOutcome_grantable hw hcomp]
    · rw [ports, places, answer]
      rfl
  · rw [passed, s.freeClassifier.borrowOutcome_grantable hw hcomp]
    simp only [State.borrowGrant, s.freeClassifier_lm, hi, answer]
  · rw [passed, s.freeClassifier.borrowOutcome_blocked hg, if_pos h0, answer]
  · rw [passed, s.freeClassifier.borrowOutcome_blocked hg, if_neg h0]
    simp only [State.borrowQueue, s.freeClassifier_lm, hr, answer]
  · obtain ⟨parts, record, records, loans, generations, retry, bays, share, volume, volumes, node, nodes,
      ports⟩ := s.freeClassifier.borrowQueue_spec (h := h) (m := m) (v := h.volume.toNat) (vol := vol) hn
        (min 600 h.valueA.toNat) hr _ rfl
    refine ⟨_, ?_, (free.mono (by simp)).trans (parts.mono (by simp)), parts .cls (by simp), record, records,
      loans, generations, retry, bays, share, volume, volumes, node, nodes, ?_⟩
    · rw [passed, s.freeClassifier.borrowOutcome_blocked hg, if_neg h0]
    · rw [ports, places, answer]

end Sys2Proof.Machine
end

section
/-! SUPPORT. Waiting records: granting from the head of a wait list, the grant retry order, and the removal of a
record (R29 to R32), with O19 and O20. -/

namespace Sys2Proof.Machine

variable (s : State) {v r : Nat} {vol : Volume} {w : WaitRec}

/-! ### A record leaves the pool and its wait list -/

theorem filter_ne_of_nodup_cons {r : Nat} {rest : List Nat} (hd : (r :: rest).Nodup) :
    (r :: rest).filter (· ≠ r) = rest := by
  rw [List.nodup_cons] at hd
  rw [List.filter_cons_of_neg (by simp), List.filter_eq_self]
  intro q hq
  simpa using fun e : q = r => hd.1 (e ▸ hq)

theorem State.dropRecord_lm (v r : Nat) : (s.dropRecord v r).lm =
    { s.lm with waits := s.lm.waits.erase r, volumes := (s.dropRecord v r).lm.volumes } := by
  unfold State.dropRecord
  rw [State.modVolume_lm]

theorem State.dropRecord_volume (v r x : Nat) : (s.dropRecord v r).volume? x =
    (s.volume? x).map fun e =>
      if x = v then { e with waitList := e.waitList.filter (· ≠ r) } else e :=
  State.modVolume_volume _ v _ x

theorem State.dropRecord_nodes (v r : Nat) : (s.dropRecord v r).nodes = s.nodes :=
  s.dropRecord_unchanged v r .nodes (by simp)
theorem State.dropRecord_ports (v r : Nat) : (s.dropRecord v r).ports = s.ports :=
  s.dropRecord_unchanged v r .ports (by simp)
theorem State.dropRecord_now (v r : Nat) : (s.dropRecord v r).now = s.now :=
  s.dropRecord_unchanged v r .now (by simp)

/-! ### One step of granting (R29) -/

/-- The head record becomes a loan in a free entry, and its node is sent GRANTED (R29 step 4). -/
theorem State.grantRecord_spec (hv : s.volume? v = some vol) (r : Nat) (w : WaitRec) (i : Nat) :
    ∀ u, u = s.grantRecord v r w i →
      UnchangedBut [.lm, .ports] s u ∧ u.loan? i = some (s.newLoan w.node v w.mode vol) ∧
      (∀ j, j ≠ i → u.loan? j = s.loan? j) ∧
      u.volume? v = some (Volume.lentOnce { vol with waitList := vol.waitList.filter (· ≠ r) }) ∧
      OtherVolumesUnchanged v s u ∧
      u.lm = { s.lm with
        waits := s.lm.waits.erase r, loans := u.lm.loans, volumes := u.lm.volumes } ∧
      u.ports = (s.placeForNode w.node
        (grantedHeader (handleOf i (s.generation i)) v w.mode vol.term)).ports := by
  let d := s.dropRecord v r
  let rest : Volume := { vol with waitList := vol.waitList.filter (· ≠ r) }
  let u := (d.setLoan i (s.newLoan w.node v w.mode vol)).setVolume v (Volume.lentOnce rest)
  let x := grantedHeader (handleOf i (s.generation i)) v w.mode vol.term
  have dv : d.volume? v = some rest := by simp [d, s.dropRecord_volume, hv, rest]
  have granted : s.grantRecord v r w i = u.placeForNode w.node x := by
    have loan : d.newLoan w.node v w.mode rest = s.newLoan w.node v w.mode vol := by
      simp only [State.newLoan, d, s.dropRecord_now, rest]
    simp only [State.grantRecord, s.termOf_eq hv, d.createLoan_eq dv, loan, u, x, d]
  have lm : (u.placeForNode w.node x).lm = u.lm := State.placeForNode_lm _ _ _
  have dl : d.lm = { s.lm with waits := s.lm.waits.erase r, volumes := d.lm.volumes } :=
    s.dropRecord_lm v r
  intro t ht
  refine ⟨ht ▸ s.grantRecord_unchanged v r w i, ?_, fun j hj => ?_, ?_, fun y hy => ?_, ?_, ?_⟩ <;>
    rw [ht, granted]
  · rw [State.placeForNode_loan]
    exact d.setLoan_loan_self i _
  · rw [State.placeForNode_loan]
    refine (d.setLoan_loan_ne i _ j hj).trans ?_
    rw [State.loan?, dl, State.loan?]
  · rw [State.placeForNode_volume]
    exact State.setVolume_volume_self _ v _
  · rw [State.placeForNode_volume]
    refine (State.setVolume_volume_ne _ v _ y hy).trans ?_
    exact (s.dropRecord_volume v r y).trans (by simp [hy])
  · have ul : u.lm = { d.lm with loans := u.lm.loans, volumes := u.lm.volumes } := rfl
    rw [lm, ul, dl]
  · have same : s.SamePlaces u := .of_nodes (s.dropRecord_nodes v r) (s.dropRecord_ports v r)
    exact (same.placeForNode w.node x).ports

theorem State.grantLoop_retry (l : List Nat) : (State.grantLoop v l s).1.lm.retry = s.lm.retry := by
  induction l generalizing s with
  | nil => rfl
  | cons r l ih =>
    unfold State.grantLoop
    split
    · rfl
    · split
      · rfl
      · rename_i w _ blocked
        split
        · rfl
        · rename_i i _
          obtain ⟨vol, hv⟩ : ∃ vol, s.volume? v = some vol := by
            cases hv : s.volume? v with
            | none => simp [State.compatible, hv] at blocked
            | some vol => exact ⟨vol, rfl⟩
          obtain ⟨-, -, -, -, -, lm, -⟩ := s.grantRecord_spec hv r w i _ rfl
          rw [ih, lm]

/-! ### Granting from a volume (R29, R30) -/

theorem State.grant_eq (hv : s.volume? v = some vol) :
    s.grant v = (State.grantLoop v vol.waitList s).1.noteRetry v (State.grantLoop v vol.waitList s).2 := by
  simp only [State.grant, State.grantEnd, hv]

theorem State.grantEnd_snd (hv : s.volume? v = some vol) :
    (s.grantEnd v).2 = (State.grantLoop v vol.waitList s).2 := by
  simp only [State.grantEnd, hv]

/-- Where granting ends for another reason than the want of an entry, the volume leaves the grant retry order. -/
theorem State.grant_retry_of_ended (hv : s.volume? v = some vol) (h : (s.grantEnd v).2 ≠ .noEntry) :
    (s.grant v).lm.retry = s.lm.retry.filter (· ≠ v) := by
  rw [s.grantEnd_snd hv] at h
  rw [s.grant_eq hv]
  cases he : (State.grantLoop v vol.waitList s).2 with
  | empty => simp only [State.noteRetry, s.grantLoop_retry]
  | blocked => simp only [State.noteRetry, s.grantLoop_retry]
  | noEntry => exact absurd he h

/-- A volume stands in the grant retry order after granting from it just where an entry was wanting. -/
theorem State.mem_grant_retry_iff (hv : s.volume? v ≠ none) :
    v ∈ (s.grant v).lm.retry ↔ (s.grantEnd v).2 = .noEntry := by
  obtain ⟨vol, hv⟩ := Option.ne_none_iff_exists'.1 hv
  constructor
  · intro hm
    by_contra h
    rw [s.grant_retry_of_ended hv h] at hm
    simp at hm
  · intro h
    rw [s.grantEnd_snd hv] at h
    rw [s.grant_eq hv, h, State.noteRetry]
    by_cases hr : v ∈ (State.grantLoop v vol.waitList s).1.lm.retry <;> simp [hr]

theorem State.noteRetry_unwanted (e : GrantEnd) (h : e ≠ .noEntry) : s.noteRetry v e =
    { s with lm := { s.lm with retry := s.lm.retry.filter (· ≠ v) } } := by
  cases e with
  | empty => rfl
  | blocked => rfl
  | noEntry => exact absurd rfl h

section Head
variable {rest : List Nat} (hv : s.volume? v = some vol) (hl : vol.waitList = r :: rest)
  (hw : s.lm.waits.get r = some w)
include hv hl hw

theorem State.grant_incompatible (hc : s.compatible v w.mode = false) :
    s.grant v = { s with lm := { s.lm with retry := s.lm.retry.filter (· ≠ v) } } := by
  have loop : State.grantLoop v vol.waitList s = (s, .blocked) := by simp [hl, State.grantLoop, hw, hc]
  rw [s.grant_eq hv, loop]
  exact s.noteRetry_unwanted .blocked (by decide)

theorem State.grant_noEntry (hc : s.compatible v w.mode = true) (hf : s.lm.loans.lowestFree 1024 = none) :
    s.grant v = { s with lm := { s.lm with
      retry := if v ∈ s.lm.retry then s.lm.retry else s.lm.retry ++ [v] } } := by
  have loop : State.grantLoop v vol.waitList s = (s, .noEntry) := by simp [hl, State.grantLoop, hw, hc, hf]
  rw [s.grant_eq hv, loop]
  simp only [State.noteRetry, List.contains_iff_mem]

/-- A compatible head with an entry free is granted, and granting goes on behind it. -/
theorem State.grant_granted (hd : vol.waitList.Nodup) {i : Nat} (hc : s.compatible v w.mode = true)
    (hi : s.lm.loans.lowestFree 1024 = some i) : s.grant v = (s.grantRecord v r w i).grant v := by
  have loop : State.grantLoop v vol.waitList s = State.grantLoop v rest (s.grantRecord v r w i) := by
    simp [hl, State.grantLoop, hw, hc, hi]
  obtain ⟨-, -, -, volume, -⟩ := s.grantRecord_spec hv r w i _ rfl
  rw [s.grant_eq hv, State.grant_eq _ volume, loop]
  have behind : vol.waitList.filter (· ≠ r) = rest := hl ▸ filter_ne_of_nodup_cons (hl ▸ hd)
  simp only [Volume.lentOnce, behind]

end Head

/-! ### The grant retry order (R30) -/

theorem State.retryLoop_stops (h : s.lm.retry = [] ∨ s.lm.loans.lowestFree 1024 = none) (n : Nat) :
    State.retryLoop n s = s := by
  cases n with
  | zero => rfl
  | succ n =>
    unfold State.retryLoop
    rcases h with h | h
    · simp only [h]
    · split
      · rfl
      · simp [h]

/-- One volume at the head of the order, with an entry free. -/
theorem State.retryLoop_goes {rest : List Nat} (hr : s.lm.retry = v :: rest)
    (hf : s.lm.loans.lowestFree 1024 ≠ none) (n : Nat) : State.retryLoop (n + 1) s =
      if (s.grantEnd v).2 = .noEntry then s.grant v else State.retryLoop n (s.grant v) := by
  have free : ¬(s.lm.loans.lowestFree 1024).isNone = true := by simpa using hf
  simp only [State.retryLoop, hr, if_neg free, State.grant]
  generalize s.grantEnd v = g
  obtain ⟨t, e⟩ := g
  cases e with
  | empty => rfl
  | blocked => rfl
  | noEntry => rfl

/-- A volume of the order that is not defined stops the order's service. -/
theorem State.retryLoop_undefined {rest : List Nat} (hr : s.lm.retry = v :: rest) (hv : s.volume? v = none)
    (n : Nat) : State.retryLoop n s = s := by
  have grant : s.grantEnd v = (s, .empty) := by simp only [State.grantEnd, hv]
  induction n with
  | zero => rfl
  | succ n ih =>
    by_cases hf : s.lm.loans.lowestFree 1024 = none
    · exact s.retryLoop_stops (.inr hf) _
    · rw [s.retryLoop_goes hr hf, State.grant, grant]
      exact ih

/-- The service of the order ends by itself: rounds beyond its length change nothing. -/
theorem State.retryLoop_enough (n m : Nat) (hn : s.lm.retry.length ≤ n) (hm : s.lm.retry.length ≤ m) :
    State.retryLoop n s = State.retryLoop m s := by
  induction n generalizing s m with
  | zero =>
    have empty : s.lm.retry = [] := List.eq_nil_of_length_eq_zero (Nat.le_zero.1 hn)
    rw [s.retryLoop_stops (.inl empty), s.retryLoop_stops (.inl empty)]
  | succ n ih =>
    cases hr : s.lm.retry with
    | nil => rw [s.retryLoop_stops (.inl hr), s.retryLoop_stops (.inl hr)]
    | cons v rest =>
      rw [hr, List.length_cons] at hn hm
      obtain ⟨m, rfl⟩ : ∃ k, m = k + 1 := ⟨m - 1, by omega⟩
      by_cases hf : s.lm.loans.lowestFree 1024 = none
      · rw [s.retryLoop_stops (.inr hf), s.retryLoop_stops (.inr hf)]
      · cases hv : s.volume? v with
        | none => rw [s.retryLoop_undefined hr hv, s.retryLoop_undefined hr hv]
        | some vol =>
          rw [s.retryLoop_goes hr hf, s.retryLoop_goes hr hf]
          split
          · rfl
          · rename_i ended
            have shorter : (s.grant v).lm.retry.length ≤ rest.length := by
              rw [s.grant_retry_of_ended hv ended, hr, List.filter_cons_of_neg (by simp)]
              exact List.length_filter_le _ _
            exact ih _ m (by omega) (by omega)

/-- The order is served from its head (R30): it goes on behind a volume that has left it. -/
theorem State.retryGrants_goes {rest : List Nat} (hr : s.lm.retry = v :: rest)
    (hf : s.lm.loans.lowestFree 1024 ≠ none) (hv : s.volume? v ≠ none) :
    s.retryGrants = if v ∈ (s.grant v).lm.retry then s.grant v else (s.grant v).retryGrants := by
  have round : s.retryGrants =
      if v ∈ (s.grant v).lm.retry then s.grant v else State.retryLoop rest.length (s.grant v) := by
    rw [State.retryGrants, hr, List.length_cons, s.retryLoop_goes hr hf]
    simp only [s.mem_grant_retry_iff hv]
  rw [round]
  split
  · rfl
  · rename_i left
    rw [s.mem_grant_retry_iff hv] at left
    obtain ⟨vol, hv⟩ := Option.ne_none_iff_exists'.1 hv
    refine State.retryLoop_enough _ _ _ ?_ (Nat.le_refl _)
    rw [s.grant_retry_of_ended hv left, hr, List.filter_cons_of_neg (by simp)]
    exact List.length_filter_le _ _

/-- Settles O20: granting takes the head of the wait list or ends there, and the service of the retry order takes
the head of the order or ends there. -/
theorem grantFromHead : Obligations.GrantFromHead := by
  refine ⟨fun s => ⟨fun stops => s.retryLoop_stops stops _, fun v rest hr hf hv => ⟨fun stays => ?_,
      fun left => ?_⟩⟩,
    fun s v vol hv => ⟨fun empty => ?_, fun r rest w hl hd hw => ⟨s.grant_incompatible hv hl hw,
      s.grant_noEntry hv hl hw, fun i hc hi => ?_⟩⟩⟩
  · rw [s.retryGrants_goes hr hf hv, if_pos stays]
  · rw [s.retryGrants_goes hr hf hv, if_neg left]
  · rw [s.grant_eq hv, empty]
    rfl
  · obtain ⟨parts, loan, loans, volume, volumes, lm, ports⟩ := s.grantRecord_spec hv r w i _ rfl
    refine ⟨s.grantRecord v r w i, s.grant_granted hv hl hw hd hc hi, parts, loan, loans, ?_, fun q hq => ?_,
      ?_, volumes, by rw [lm], by rw [lm], by rw [lm], ports⟩
    · rw [lm]
      exact Tbl.get_erase_self _ _
    · rw [lm]
      exact Tbl.get_erase_ne _ _ _ hq
    · rw [volume, hl, filter_ne_of_nodup_cons (hl ▸ hd)]
      rfl

/-! ### A record is removed without a grant (R31) -/

theorem State.leaveRetry_lm (v : Nat) :
    (s.leaveRetry v).lm = { s.lm with retry := (s.leaveRetry v).lm.retry } := by
  unfold State.leaveRetry
  split
  · split <;> rfl
  · rfl

theorem State.leaveRetry_retry (hv : s.volume? v = some vol) : (s.leaveRetry v).lm.retry =
    if vol.waitList = [] then s.lm.retry.filter (· ≠ v) else s.lm.retry := by
  simp only [State.leaveRetry, hv, List.isEmpty_iff]
  split <;> rfl

theorem State.leaveRetry_volume (v x : Nat) : (s.leaveRetry v).volume? x = s.volume? x := by
  rw [State.volume?, s.leaveRetry_lm, State.volume?]

theorem State.leaveRetry_nodes (v : Nat) : (s.leaveRetry v).nodes = s.nodes :=
  s.leaveRetry_unchanged v .nodes (by simp)

/-- A record removed, before a notice is placed: it is free and out of its wait list, its node's count has
fallen, and its volume has left the grant retry order if no record is left to it. -/
def State.withoutRecord (s : State) (r : Nat) (w : WaitRec) : State :=
  ((s.dropRecord w.volume r).modNode w.node fun e => { e with loanWait := e.loanWait - 1 }).leaveRetry
    w.volume

theorem State.removeRecord_eq (hw : s.lm.waits.get r = some w) (notice : Bool) :
    s.removeRecord r notice = if notice then
      (s.withoutRecord r w).placeForNode w.node (waitExpiredHeader w.volume w.mode)
      else s.withoutRecord r w := by
  simp only [State.removeRecord, hw, State.withoutRecord]

theorem State.withoutRecord_lm (r : Nat) (w : WaitRec) : (s.withoutRecord r w).lm = { s.lm with
    waits := s.lm.waits.erase r, volumes := (s.withoutRecord r w).lm.volumes,
    retry := (s.withoutRecord r w).lm.retry } := by
  unfold State.withoutRecord
  rw [State.leaveRetry_lm, State.modNode_lm, State.dropRecord_lm]

theorem State.withoutRecord_volume (r : Nat) (w : WaitRec) (x : Nat) : (s.withoutRecord r w).volume? x =
    (s.volume? x).map fun e =>
      if x = w.volume then { e with waitList := e.waitList.filter (· ≠ r) } else e := by
  rw [State.withoutRecord, State.leaveRetry_volume, State.modNode_volume, State.dropRecord_volume]

theorem State.withoutRecord_node (r : Nat) (w : WaitRec) (m : Nat) : (s.withoutRecord r w).node? m =
    (s.node? m).map fun e => if m = w.node then { e with loanWait := e.loanWait - 1 } else e := by
  rw [State.withoutRecord, State.node?, State.leaveRetry_nodes]
  refine (State.modNode_node _ _ _ m).trans ?_
  rw [State.node?, s.dropRecord_nodes, State.node?]

theorem State.withoutRecord_retry (r : Nat) (hv : s.volume? w.volume = some vol) :
    (s.withoutRecord r w).lm.retry = if vol.waitList.filter (· ≠ r) = []
      then s.lm.retry.filter (· ≠ w.volume) else s.lm.retry := by
  have volume : ((s.dropRecord w.volume r).modNode w.node fun e =>
      { e with loanWait := e.loanWait - 1 }).volume? w.volume =
      some { vol with waitList := vol.waitList.filter (· ≠ r) } := by
    rw [State.modNode_volume, State.dropRecord_volume, hv]
    simp
  rw [State.withoutRecord, State.leaveRetry_retry _ volume, State.modNode_lm, State.dropRecord_lm]

theorem State.withoutRecord_samePlaces (r : Nat) (w : WaitRec) : s.SamePlaces (s.withoutRecord r w) := by
  have dropped : s.SamePlaces (s.dropRecord w.volume r) :=
    .of_nodes (s.dropRecord_nodes _ _) (s.dropRecord_ports _ _)
  have lowered := dropped.trans ((s.dropRecord w.volume r).modNode_samePlaces w.node
    (f := fun e => { e with loanWait := e.loanWait - 1 }) fun _ => ⟨rfl, rfl⟩)
  exact lowered.trans (.of_nodes (State.leaveRetry_nodes _ _)
    (State.leaveRetry_unchanged _ _ .ports (by simp)))

/-- What is read of a record's removal but the ports: a notice changes nothing of it. -/
theorem State.removeRecord_reads (hw : s.lm.waits.get r = some w) (notice : Bool) :
    (s.removeRecord r notice).lm = (s.withoutRecord r w).lm ∧
      (s.removeRecord r notice).nodes = (s.withoutRecord r w).nodes := by
  rw [s.removeRecord_eq hw]
  cases notice with
  | false => exact ⟨rfl, rfl⟩
  | true => exact ⟨State.placeForNode_lm _ _ _, State.placeForNode_nodes _ _ _⟩

theorem State.removeRecord_samePlaces (hw : s.lm.waits.get r = some w) (notice : Bool) :
    (if notice then s.placeForNode w.node (waitExpiredHeader w.volume w.mode) else s).SamePlaces
      (s.removeRecord r notice) := by
  rw [s.removeRecord_eq hw]
  cases notice with
  | false => exact s.withoutRecord_samePlaces r w
  | true => exact (s.withoutRecord_samePlaces r w).placeForNode _ _

/-- Settles O19: an expiry that is due removes its record and grants from the head behind it; what a removal does
is read part by part of the record's leaving. -/
theorem waitExpiry : Obligations.WaitExpiry := by
  refine ⟨fun s r hw => ?_, fun s r w vol e hw hv hn => ⟨fun due => ?_, fun early => ?_, ?_⟩⟩
  · simp only [exec, execWaitTimerExpiry, hw]
  · simp only [exec, execWaitTimerExpiry, hw, if_pos due]
  · simp only [exec, execWaitTimerExpiry, hw, if_neg (Nat.not_le.2 early)]
  · rintro notice u rfl
    obtain ⟨lm, nodes⟩ := s.removeRecord_reads hw notice
    have volume (x : Nat) : (s.removeRecord r notice).volume? x = (s.withoutRecord r w).volume? x := by
      rw [State.volume?, lm, State.volume?]
    have node (m : Nat) : (s.removeRecord r notice).node? m = (s.withoutRecord r w).node? m := by
      rw [State.node?, nodes, State.node?]
    have without := s.withoutRecord_lm r w
    refine ⟨s.removeRecord_unchanged r notice, ?_, fun q hq => ?_, ?_, fun x hx => ?_, ?_, fun m hm => ?_,
      ?_, ?_, ?_, ?_, ?_, ?_, ?_⟩
    · rw [lm, without]
      exact Tbl.get_erase_self _ _
    · rw [lm, without]
      exact Tbl.get_erase_ne _ _ _ hq
    · simp [volume, s.withoutRecord_volume, hv]
    · simp [volume, s.withoutRecord_volume, hx]
    · simp [node, s.withoutRecord_node, hn]
    · simp [node, s.withoutRecord_node, hm]
    · rw [lm, without]
    · rw [lm, without]
    · rw [lm, without]
    · rw [lm, without]
    · rw [lm, s.withoutRecord_retry r hv]
    · rw [(s.removeRecord_samePlaces hw notice).ports]
      cases notice <;> rfl
    · simp only [State.removeAndGrant, hw, hv]

end Sys2Proof.Machine
end

section
/-! SUPPORT. The freeing of a loan entry (R44, R45), and O17. -/

namespace Sys2Proof.Machine

variable (s : State) {i : Nat} {l : Loan} {vol : Volume} {e : Node}

/-! ### The entry -/

theorem State.generation_setGeneration_self (i g : Nat) : (s.setGeneration i g).generation i = g := by
  unfold State.setGeneration State.generation
  split
  · rename_i h
    simp [Tbl.getD, h]
  · exact Tbl.getD_set_self _ _ _ _

theorem State.generation_setGeneration_ne (i g : Nat) {j : Nat} (hj : j ≠ i) :
    (s.setGeneration i g).generation j = s.generation j := by
  unfold State.setGeneration State.generation
  split
  · simp [Tbl.getD, Tbl.get_erase_ne _ _ _ hj]
  · exact Tbl.getD_set_ne _ _ _ _ _ hj

/-- A loan entry before its volume is updated (R44): it is free, its generation has risen by one modulo 64, and
the holder's count has fallen. -/
def State.entryFreed (s : State) (i : Nat) (l : Loan) : State :=
  ({ s with lm := { s.lm with loans := s.lm.loans.erase i } }.setGeneration i
    ((s.generation i + 1) % 64)).modNode l.holder fun e => { e with loanWait := e.loanWait - 1 }

theorem State.freeLoan_none (h : s.loan? i = none) : s.freeLoan i = s := by
  simp only [State.freeLoan, h]

theorem State.freeLoan_eq (h : s.loan? i = some l) : s.freeLoan i =
    (((s.entryFreed i l).volumeFreed l.volume).retryGrants).checkLmReset := by
  simp only [State.freeLoan, h]
  rfl

theorem State.entryFreed_parts (i : Nat) (l : Loan) : UnchangedBut [.lm, .nodes] s (s.entryFreed i l) :=
  (((s.setLm_unchanged _).trans (State.setGeneration_unchanged _ i _)).mono (by simp)).trans
    ((State.modNode_unchanged _ _ _).mono (by simp))

theorem State.entryFreed_lm (i : Nat) (l : Loan) : (s.entryFreed i l).lm = { s.lm with
    loans := s.lm.loans.erase i, generations := (s.entryFreed i l).lm.generations } := by
  unfold State.entryFreed
  rw [State.modNode_lm]
  rfl

theorem State.entryFreed_volume (i : Nat) (l : Loan) (v : Nat) :
    (s.entryFreed i l).volume? v = s.volume? v := by
  rw [State.volume?, State.entryFreed_lm, State.volume?]

theorem State.entryFreed_lmBay (i : Nat) (l : Loan) (b : Bay) : (s.entryFreed i l).lmBay b = s.lmBay b := by
  rw [State.lmBay, State.entryFreed_lm, State.lmBay]

theorem State.entryFreed_bmail (i : Nat) (l : Loan) (b : Bay) : (s.entryFreed i l).bmail b = s.bmail b := by
  have h : (s.entryFreed i l).bayMail = s.bayMail := s.entryFreed_parts i l .bayMail (by simp)
  rw [State.bmail, h, State.bmail]

/-- What the freeing of entry `i`, held by the node `e` under loan `l`, leaves of the loans, the generations, the
nodes and the waiting records. -/
def State.Freed (s t : State) (i : Nat) (l : Loan) (e : Node) : Prop :=
  t.loan? i = none ∧ (∀ j, j ≠ i → t.loan? j = s.loan? j) ∧
  t.generation i = (s.generation i + 1) % 64 ∧ (∀ j, j ≠ i → t.generation j = s.generation j) ∧
  t.node? l.holder = some { e with loanWait := e.loanWait - 1 } ∧ OtherNodesUnchanged l.holder s t ∧
  t.lm.waits = s.lm.waits ∧ t.lm.retry = s.lm.retry ∧ t.lm.resetShare = s.lm.resetShare

theorem State.entryFreed_freed (he : s.node? l.holder = some e) (i : Nat) :
    s.Freed (s.entryFreed i l) i l e := by
  have lm := s.entryFreed_lm i l
  have generation (j : Nat) : (s.entryFreed i l).generation j =
      (s.setGeneration i ((s.generation i + 1) % 64)).generation j := by
    rw [State.entryFreed, State.modNode_generation]
    rfl
  have node (m : Nat) : (s.entryFreed i l).node? m =
      (s.node? m).map fun e => if m = l.holder then { e with loanWait := e.loanWait - 1 } else e :=
    State.modNode_node _ _ _ m
  refine ⟨?_, fun j hj => ?_, ?_, fun j hj => ?_, ?_, fun m hm => ?_, by rw [lm], by rw [lm], by rw [lm]⟩
  · rw [State.loan?, lm]
    exact Tbl.get_erase_self _ _
  · rw [State.loan?, lm]
    exact Tbl.get_erase_ne _ _ _ hj
  · rw [generation, State.generation_setGeneration_self]
  · rw [generation, s.generation_setGeneration_ne i _ hj]
  · simp [node, he]
  · simp [node, hm]

/-- The freeing leaves nothing more to be read where the nodes and, but for volumes and bays, the loan manager
stay. -/
theorem State.Freed.of_kept {s t u : State} (h : s.Freed t i l e) (hn : u.nodes = t.nodes)
    (hl : u.lm = { t.lm with volumes := u.lm.volumes, bays := u.lm.bays }) : s.Freed u i l e := by
  obtain ⟨loan, loans, generation, generations, node, nodes, waits, retry, share⟩ := h
  have same (j : Nat) : u.loan? j = t.loan? j := by rw [State.loan?, hl, State.loan?]
  have sameGen (j : Nat) : u.generation j = t.generation j := by
    rw [State.generation, hl, State.generation]
  have sameNode (m : Nat) : u.node? m = t.node? m := by rw [State.node?, hn, State.node?]
  exact ⟨(same i).trans loan, fun j hj => (same j).trans (loans j hj), (sameGen i).trans generation,
    fun j hj => (sameGen j).trans (generations j hj), (sameNode _).trans node,
    fun m hm => (sameNode m).trans (nodes m hm), by rw [hl, waits], by rw [hl, retry], by rw [hl, share]⟩

/-! ### The volume (R45) -/

/-- A volume that is not cleared on a freed loan: LIBRARY or SHOT, or with a loan left. -/
theorem State.volumeFreed_granted {v : Nat} (hv : s.volume? v = some vol)
    (h : vol.cls ≠ .scratch ∨ 1 < vol.loanCount) : s.volumeFreed v =
      (s.setVolume v { vol with
        loanCount := vol.loanCount - 1,
        state := if vol.loanCount - 1 = 0 then .idle else vol.state }).grant v := by
  by_cases hz : vol.loanCount - 1 = 0
  · have cls : vol.cls ≠ .scratch := h.resolve_right (by omega)
    simp [State.volumeFreed, hv, hz, cls]
  · simp [State.volumeFreed, hv, hz]

theorem State.volumeFreed_cleared {v : Nat} (hv : s.volume? v = some vol) (hs : vol.cls = .scratch)
    (hc : vol.loanCount = 1) :
    s.volumeFreed v = (s.setVolume v { vol with loanCount := 0 }).toClearing v := by
  simp [State.volumeFreed, hv, hs, hc]

section Entry
variable (hl : s.loan? i = some l) (hv : s.volume? l.volume = some vol) (he : s.node? l.holder = some e)
include hl hv he

/-- The freeing of an entry whose volume is granted from. -/
theorem State.freeLoan_granted (h : vol.cls ≠ .scratch ∨ 1 < vol.loanCount) :
    ∃ t, UnchangedBut [.lm, .nodes] s t ∧ s.Freed t i l e ∧ t.lm.bays = s.lm.bays ∧
      t.volume? l.volume = some { vol with
        loanCount := vol.loanCount - 1,
        state := if vol.loanCount - 1 = 0 then .idle else vol.state } ∧
      OtherVolumesUnchanged l.volume s t ∧
      s.freeLoan i = (t.grant l.volume).retryGrants.checkLmReset := by
  let u := s.entryFreed i l
  let d : Volume := { vol with
    loanCount := vol.loanCount - 1, state := if vol.loanCount - 1 = 0 then .idle else vol.state }
  have bays : u.lm.bays = s.lm.bays := by rw [s.entryFreed_lm]
  refine ⟨u.setVolume l.volume d,
    (s.entryFreed_parts i l).trans ((State.setVolume_unchanged _ _ _).mono (by simp)),
    (s.entryFreed_freed he i).of_kept rfl rfl, bays, State.setVolume_volume_self _ _ _,
    fun w hw => ?_, ?_⟩
  · exact (State.setVolume_volume_ne _ _ _ w hw).trans (s.entryFreed_volume i l w)
  · rw [s.freeLoan_eq hl, State.volumeFreed_granted _ ((s.entryFreed_volume i l _).trans hv) h]

/-- The freeing of the last loan of a SCRATCH volume (R45, R115). -/
theorem State.freeLoan_cleared (hs : vol.cls = .scratch) (hc : vol.loanCount = 1) :
    ∃ t, UnchangedBut [.lm, .nodes, .bayMail] s t ∧ s.Freed t i l e ∧
      s.Clears t l.volume { vol with loanCount := 0 } ∧
      s.freeLoan i = (t.listFor vol).retryGrants.checkLmReset := by
  let u := (s.entryFreed i l).setVolume l.volume { vol with loanCount := 0 }
  obtain ⟨t, clearing, parts, ⟨volume, volumes, bays⟩, lm⟩ :=
    u.toClearing_spec l.volume { vol with loanCount := 0 } (State.setVolume_volume_self _ _ _)
  have before : UnchangedBut [.lm, .nodes] s u :=
    (s.entryFreed_parts i l).trans ((State.setVolume_unchanged _ _ _).mono (by simp))
  have freed : s.Freed u i l e := (s.entryFreed_freed he i).of_kept rfl rfl
  refine ⟨t, (before.mono (by simp)).trans (parts.mono (by simp)),
    freed.of_kept (parts .nodes (by simp)) lm, ⟨volume, fun w hw => ?_, fun b => ?_⟩, ?_⟩
  · exact ((volumes w hw).trans (State.setVolume_volume_ne _ _ _ w hw)).trans (s.entryFreed_volume i l w)
  · have hb := bays b
    rw [State.setVolume_lmBay, State.setVolume_bmail, s.entryFreed_lmBay, s.entryFreed_bmail] at hb
    exact hb
  · rw [s.freeLoan_eq hl, State.volumeFreed_cleared _ ((s.entryFreed_volume i l _).trans hv) hs hc]
    exact congrArg (fun x => (State.retryGrants x).checkLmReset) clearing

end Entry

/-! ### One segment -/

theorem clearRefs_one_self (v : Nat) (g : Segment) : clearRefs v [g] g.bay = [{ vol := v, seg := 0 }] := by
  simp [clearRefs]

theorem clearRefs_one_ne (v : Nat) (g : Segment) {b : Bay} (hb : b ≠ g.bay) : clearRefs v [g] b = [] := by
  simp [clearRefs, Ne.symm hb]

/-- The clearing of a volume of one served segment, listed at once: the queue of its bay is reported non-empty and
then empty, and the extent is sent (R115, R116; log entry 16). -/
theorem State.Clears.listOne {s t : State} {v : Nat} {g : Segment} (clears : s.Clears t v vol)
    (units : t.units = s.units) (hg : vol.segments = [g]) (served : s.served g = true)
    (empty : (s.lmBay g.bay).pendingClear = []) (room : (s.lmBay g.bay).listed < 8) :
    UnchangedBut [.lm, .bayMail] t (t.listFor vol) ∧
      (t.listFor vol).lm =
        { t.lm with volumes := (t.listFor vol).lm.volumes, bays := (t.listFor vol).lm.bays } ∧
      (t.listFor vol).volume? v =
        some { vol with state := .clearing, segments := [{ g with clear := .listed }] } ∧
      OtherVolumesUnchanged v s (t.listFor vol) ∧
      (t.listFor vol).lmBay g.bay = { s.lmBay g.bay with listed := (s.lmBay g.bay).listed + 1 } ∧
      (t.listFor vol).bmail g.bay = { s.bmail g.bay with
        lmToUnit := (s.bmail g.bay).lmToUnit ++
          [.pendingClear true, .pendingClear false, .extent v 0 g.identity g.base g.length] } ∧
      ∀ c, c ≠ g.bay → (t.listFor vol).bmail c = s.bmail c ∧ (t.listFor vol).lmBay c = s.lmBay c := by
  obtain ⟨volume, volumes, bays⟩ := clears
  rw [hg] at volume bays
  let x : SegRef := { vol := v, seg := 0 }
  let p : Segment := { g with clear := .pending }
  obtain ⟨bay, mail⟩ := bays g.bay
  rw [clearRefs_one_self, empty] at bay mail
  have segment : t.segment? x = some p := by simp [State.segment?, x, volume, p]
  have here : t.served p = true := by
    rw [← served]
    simp only [State.served, State.unit, units, p, Segment.onDisk]
  obtain ⟨u, goes, ⟨parts, others⟩, ubay, uvolumes, uvolume, lm, umail⟩ :=
    t.listFromHead_served (b := g.bay) (x := x) (rest := []) (g := p) (by rw [bay]; rfl)
      (by rw [bay]; exact room) segment here
  have listed : t.listFor vol = u := by
    have stops : u.listFromHead g.bay = u := u.listFromHead_stops (.inr (by rw [ubay]))
    simp only [State.listFor, hg, List.map_cons, List.map_nil, List.foldl_cons, List.foldl_nil, goes, stops]
  rw [listed]
  refine ⟨parts, lm, ?_, fun w hw => (uvolumes w hw).trans (volumes w hw), ?_, ?_, fun c hc => ?_⟩
  · rw [uvolume _ volume]
    rfl
  · rw [ubay, bay, ← empty]
  · rw [umail, mail]
    simp [x, p]
  · obtain ⟨-, -, cmail, cbay⟩ := others c hc
    rw [cmail, cbay, (bays c).1, (bays c).2, clearRefs_one_ne v g hc]
    simp

/-- Settles O17: the freeing of an entry is its own writes, then its volume's, then the service of the retry order
and the examination of the share; with nothing waiting the last three change nothing. -/
theorem loanFreed : Obligations.LoanFreed := by
  refine ⟨?_, fun s i => ⟨s.freeLoan_none, fun l vol e hl hv he => ⟨fun h => ?_, fun hs hc => ?_, ?_⟩⟩⟩
  · rintro s taken h rest hq rfl
    have current : State.currentLoan { s with mail := { s.mail with quietLoans := rest } } h =
        s.currentLoan h := rfl
    refine ⟨fun other => ?_, fun l hl ending quiet => ?_⟩
    · simp only [exec, execLoanQuiet, hq, current]
      cases hl : s.currentLoan h with
      | none => rfl
      | some l =>
        have stays : ¬(l.state.isEnding = true ∧ l.outstanding = 0) := by
          rintro ⟨ending, quiet⟩
          rcases other l hl with live | busy
          · rw [ending] at live
            cases live
          · omega
        simp only [if_neg stays]
    · simp only [exec, execLoanQuiet, hq, current, hl, if_pos (And.intro ending quiet)]
  · obtain ⟨t, parts, freed, bays, volume, volumes, eq⟩ := s.freeLoan_granted hl hv he h
    obtain ⟨-, -, -, -, -, -, -, sameRetry, sameShare⟩ := id freed
    refine ⟨t, parts, freed, bays, volume, volumes, eq, fun hw hr hs => ?_⟩
    have retry : t.lm.retry = [] := sameRetry.trans hr
    rw [eq, t.grant_of_no_wait _ _ volume hw retry, t.retryGrants_of_empty retry,
      t.checkLmReset_of_no_share (sameShare.trans hs)]
  · obtain ⟨t, parts, freed, clears, eq⟩ := s.freeLoan_cleared hl hv he hs hc
    exact ⟨t, parts, freed, clears, eq⟩
  · rintro g t rfl hs hc hg served empty room hr share
    obtain ⟨t, parts, freed, clears, eq⟩ := s.freeLoan_cleared hl hv he hs hc
    obtain ⟨listed, lm, volume, volumes, bay, mail, others⟩ :=
      clears.listOne (parts .units (by simp)) hg served empty room
    have freed := freed.of_kept (listed .nodes (by simp)) lm
    obtain ⟨-, -, -, -, -, -, -, sameRetry, sameShare⟩ := id freed
    have whole : s.freeLoan i = t.listFor { vol with loanCount := 0 } := by
      rw [eq]
      exact (congrArg State.checkLmReset (State.retryGrants_of_empty _ (sameRetry.trans hr))).trans
        (State.checkLmReset_of_no_share _ (sameShare.trans share))
    rw [whole]
    exact ⟨parts.trans (listed.mono (by simp)), freed, volume, volumes, bay, mail, others⟩

end Sys2Proof.Machine
end

section
/-! SUPPORT. Several loans ended with notice in ascending order (R41, R43), and the start of a bay release at the
loan manager (R137): O45. -/

namespace Sys2Proof.Machine

variable (s : State)

/-! ### Loans ended with notice -/

theorem State.SamePlaces.foldl {α : Type} {f : State → α → State}
    (hf : ∀ a b x, a.SamePlaces b → (f a x).SamePlaces (f b x)) {s t : State} (h : s.SamePlaces t)
    (l : List α) : (l.foldl f s).SamePlaces (l.foldl f t) := by
  induction l generalizing s t with
  | nil => exact h
  | cons x l ih => exact ih (hf s t x h)

/-- A state with the ENDED notice for a loan of `s` placed in it (R46). -/
def State.endedFrame (s : State) (r : EndReason) (a : State) (i : Nat) : State :=
  match s.loan? i with
  | some l => a.placeForNode l.holder (endedHeader (handleOf i (s.generation i)) l.volume r)
  | none => a

theorem State.endedFrame_samePlaces (r : EndReason) (a b : State) (i : Nat) (h : a.SamePlaces b) :
    (s.endedFrame r a i).SamePlaces (s.endedFrame r b i) := by
  unfold State.endedFrame
  split
  · exact h.placeForNode _ _
  · exact h

theorem State.endWithNotice_none {i : Nat} (r : EndReason) (h : s.loan? i = none) :
    s.endWithNotice i r = s := by simp only [State.endWithNotice, h]

theorem State.endWithNotice_lm (i : Nat) (r : EndReason) :
    (s.endWithNotice i r).lm = { s.lm with loans := (s.endWithNotice i r).lm.loans } := by
  cases h : s.loan? i with
  | none => rw [s.endWithNotice_none r h]
  | some l =>
    rw [s.endWithNotice_eq r h, State.placeForNode_lm]
    rfl

theorem State.endWithNotice_loan (i : Nat) (r : EndReason) (j : Nat) : (s.endWithNotice i r).loan? j =
    (s.loan? j).map fun l => if j = i then { l with state := .ending r } else l := by
  cases h : s.loan? i with
  | none =>
    rw [s.endWithNotice_none r h]
    by_cases hj : j = i
    · rw [hj, h, Option.map_none]
    · simp [hj]
  | some l =>
    rw [s.endWithNotice_eq r h, State.placeForNode_loan]
    by_cases hj : j = i
    · simp [hj, h]
    · simp [State.setLoan_loan_ne _ _ _ _ hj, hj]

theorem State.endWithNotice_samePlaces (i : Nat) (r : EndReason) :
    (s.endedFrame r s i).SamePlaces (s.endWithNotice i r) := by
  cases h : s.loan? i with
  | none =>
    simp only [State.endedFrame, h, s.endWithNotice_none r h]
    exact .refl s
  | some l =>
    simp only [State.endedFrame, h, s.endWithNotice_eq r h]
    have written : s.SamePlaces (s.setLoan i { l with state := .ending r }) := .of_nodes rfl rfl
    exact written.placeForNode _ _

/-- Loans ended with notice, one after another. -/
def State.endLoans (s : State) (ids : List Nat) (r : EndReason) : State :=
  ids.foldl (fun t i => t.endWithNotice i r) s

theorem State.endLoans_parts (ids : List Nat) (r : EndReason) :
    UnchangedBut [.lm, .ports] s (s.endLoans ids r) :=
  .foldl _ (fun t i => t.endWithNotice_unchanged i r) ids s

theorem State.endLoans_lm (ids : List Nat) (r : EndReason) :
    (s.endLoans ids r).lm = { s.lm with loans := (s.endLoans ids r).lm.loans } := by
  induction ids generalizing s with
  | nil => rfl
  | cons i ids ih =>
    have h := ih (s.endWithNotice i r)
    rw [s.endWithNotice_lm] at h
    exact h

theorem State.endLoans_loan (ids : List Nat) (r : EndReason) (j : Nat) : (s.endLoans ids r).loan? j =
    (s.loan? j).map fun l => if j ∈ ids then { l with state := .ending r } else l := by
  induction ids generalizing s with
  | nil => simp [State.endLoans]
  | cons i ids ih =>
    refine (ih (s.endWithNotice i r)).trans ?_
    rw [s.endWithNotice_loan, Option.map_map]
    congr 1
    funext l
    by_cases hj : j = i <;> by_cases hm : j ∈ ids <;> simp [hj, hm]

/-- Each ending sends its holder ENDED, as the loans stood before. -/
theorem State.endLoans_samePlaces (ids : List Nat) (r : EndReason) :
    (ids.foldl (s.endedFrame r) s).SamePlaces (s.endLoans ids r) := by
  induction ids generalizing s with
  | nil => exact .refl s
  | cons i ids ih =>
    have frames : (s.endWithNotice i r).endedFrame r = s.endedFrame r := by
      funext a j
      have generation : (s.endWithNotice i r).generation j = s.generation j := by
        rw [State.generation, s.endWithNotice_lm, State.generation]
      simp only [State.endedFrame, s.endWithNotice_loan, generation]
      cases s.loan? j with
      | none => rfl
      | some l => by_cases hj : j = i <;> simp [hj]
    have rest := ih (s.endWithNotice i r)
    rw [frames] at rest
    exact (State.SamePlaces.foldl (s.endedFrame_samePlaces r) (s.endWithNotice_samePlaces i r) ids).trans rest

/-! ### The loan step of a release (R41) -/

theorem State.endAndFree_none {i : Nat} (r : EndReason) (h : s.loan? i = none) :
    (s.endWithNotice i r).freeIfQuiet i = s := by
  rw [s.endWithNotice_none r h]
  simp only [State.freeIfQuiet, h]

/-- The ending of one loan, freed at once where it is quiet (R41, R44). -/
theorem State.endAndFree_some {i : Nat} {l : Loan} (r : EndReason) (h : s.loan? i = some l) :
    (s.endWithNotice i r).freeIfQuiet i =
      if l.outstanding = 0 then (s.endWithNotice i r).freeLoan i else s.endWithNotice i r := by
  obtain ⟨-, ⟨loan, -, -⟩, -⟩ := s.endWithNotice_spec r h
  rw [State.freeIfQuiet_eq _ loan]

/-- Loans with requests outstanding are ended, and none of them is freed. -/
theorem State.endLoans_of_busy (ids : List Nat) (r : EndReason)
    (busy : ∀ i ∈ ids, ∀ l, s.loan? i = some l → l.outstanding ≠ 0) :
    ids.foldl (fun t i => (t.endWithNotice i r).freeIfQuiet i) s = s.endLoans ids r := by
  induction ids generalizing s with
  | nil => rfl
  | cons i ids ih =>
    have keeps : (s.endWithNotice i r).freeIfQuiet i = s.endWithNotice i r := by
      cases h : s.loan? i with
      | none => rw [s.endAndFree_none r h, s.endWithNotice_none r h]
      | some l => rw [s.endAndFree_some r h, if_neg (busy i List.mem_cons_self l h)]
    rw [List.foldl_cons, keeps]
    refine ih _ fun j hj l hl => ?_
    rw [s.endWithNotice_loan] at hl
    obtain ⟨d, hd, rfl⟩ := Option.map_eq_some_iff.1 hl
    have outstanding := busy j (List.mem_cons_of_mem _ hj) d hd
    by_cases hji : j = i
    · simpa [hji] using outstanding
    · simpa [hji] using outstanding

/-! ### The start of a release (R137) -/

variable {b : Bay}

/-- The mark of a release that is outstanding. -/
def State.markRelease (s : State) (b : Bay) : State :=
  s.setLmBay b { s.lmBay b with releaseOutstanding := true }

/-- The live loans on the volumes of a bay. -/
def State.bayLoans (s : State) (b : Bay) : List Nat := s.liveLoans fun l => s.volumeOnBay l.volume b

theorem State.beginRelease_eq (b : Bay) : s.beginRelease b =
    ((((s.bayLoans b).foldl (fun t i => (t.endWithNotice i .bayReleased).freeIfQuiet i)
      (s.markRelease b)).failPending b).lmSend b .release) := rfl

/-- A release that frees no loan and fails no clear, in full. -/
theorem State.beginRelease_of_busy (hq : (s.lmBay b).pendingClear = [])
    (busy : ∀ i ∈ s.bayLoans b, ∀ l, s.loan? i = some l → l.outstanding ≠ 0) :
    ∀ r, r = s.beginRelease b → UnchangedBut [.lm, .ports, .bayMail] s r ∧
      r.lmBay b = { s.lmBay b with releaseOutstanding := true } ∧
      r.bmail b = { s.bmail b with lmToUnit := (s.bmail b).lmToUnit ++ [.release] } ∧
      (∀ c, c ≠ b → r.lmBay c = s.lmBay c ∧ r.bmail c = s.bmail c) ∧
      (∀ i, r.loan? i = if i ∈ s.bayLoans b
        then (s.loan? i).map (fun l => { l with state := .ending .bayReleased }) else s.loan? i) ∧
      r.lm.volumes = s.lm.volumes ∧ r.lm.waits = s.lm.waits ∧ r.lm.generations = s.lm.generations ∧
      r.ports = ((s.bayLoans b).foldl (s.endedFrame .bayReleased) s).ports := by
  let t := s.markRelease b
  let u := t.endLoans (s.bayLoans b) .bayReleased
  let v := u.setLmBay b { u.lmBay b with pendingClear := [] }
  have parts : UnchangedBut [.lm, .ports] s u :=
    ((s.setLmBay_unchanged b _).mono (by simp)).trans (t.endLoans_parts _ _)
  have lm : u.lm = { t.lm with loans := u.lm.loans } := t.endLoans_lm _ _
  have volumes : u.lm.volumes = s.lm.volumes := by rw [lm]; rfl
  have waits : u.lm.waits = s.lm.waits := by rw [lm]; rfl
  have generations : u.lm.generations = s.lm.generations := by rw [lm]; rfl
  have bay (c : Bay) : u.lmBay c = t.lmBay c := by rw [State.lmBay, lm, State.lmBay]
  have mail (c : Bay) : u.bmail c = s.bmail c := by
    have e : u.bayMail = s.bayMail := parts .bayMail (by simp)
    rw [State.bmail, e, State.bmail]
  have marked : u.lmBay b = { s.lmBay b with releaseOutstanding := true } :=
    (bay b).trans (s.setLmBay_lmBay_self b _)
  have release : s.beginRelease b = v.lmSend b .release := by
    rw [s.beginRelease_eq, t.endLoans_of_busy _ _ busy, State.failPending_of_empty _ (by rw [marked, hq])]
  rw [release]
  rintro r rfl
  refine ⟨?_, ?_, ?_, fun c hc => ⟨?_, ?_⟩, fun i => ?_, ?_, ?_, ?_, ?_⟩
  · exact ((parts.mono (by simp)).trans ((u.setLmBay_unchanged b _).mono (by simp))).trans
      ((v.lmSend_unchanged b _).mono (by simp))
  · refine (u.setLmBay_lmBay_self b _).trans ?_
    rw [marked, ← hq]
  · refine (v.setBmail_bmail_self b _).trans ?_
    rw [show v.bmail b = s.bmail b from mail b]
  · exact (u.setLmBay_lmBay_ne b _ c hc).trans ((bay c).trans (s.setLmBay_lmBay_ne b _ c hc))
  · exact (v.setBmail_bmail_ne b _ c hc).trans (mail c)
  · refine (t.endLoans_loan _ _ i).trans ?_
    rw [show t.loan? i = s.loan? i from rfl]
    split
    · rfl
    · exact Option.map_id'
  · exact volumes
  · exact waits
  · exact generations
  · have frames : t.endedFrame .bayReleased = s.endedFrame .bayReleased := rfl
    have ended := t.endLoans_samePlaces (s.bayLoans b) .bayReleased
    rw [frames] at ended
    have before : s.SamePlaces t := .of_nodes rfl rfl
    exact ((before.foldl (s.endedFrame_samePlaces .bayReleased) _).trans ended).ports

/-! ### The commands -/

theorem State.releaseBarred_iff (b : Bay) : s.releaseBarred b = true ↔
    (s.unit b).state = .service ∨ (s.unit b).state = .absent ∨ (s.lmBay b).releaseOutstanding = true := by
  simp [State.releaseBarred, or_assoc]

theorem bayOf_none {h : Header} (hb : 24 ≤ h.valueA.toNat) : bayOf h = none := by
  simp only [bayOf, dif_neg (Nat.not_lt.2 hb)]

theorem bayOf_some {h : Header} (hb : h.valueA.toNat = b.val) : bayOf h = some b := by
  have hlt : h.valueA.toNat < 24 := hb ▸ b.isLt
  simp only [bayOf, dif_pos hlt, Option.some.injEq]
  exact Fin.ext hb

section Request
variable {p : Port} {f : InFrame} {h : Header}

theorem State.exec_releaseBay (ask : s.Asks 0x2C p f h) :
    exec .releaseBay s = .next ((s.accepted p).releaseBay h) := by
  simp only [exec, execReleaseBay, s.manage_of_asks _ ask]

theorem State.accepted_releaseBarred (p : Port) (b : Bay) :
    (s.accepted p).releaseBarred b = s.releaseBarred b := by
  simp only [State.releaseBarred, State.accepted_unit, State.accepted_lmBay]

theorem State.accepted_bayLent (p : Port) (b : Bay) : (s.accepted p).bayLent b = s.bayLent b := by
  simp only [State.bayLent, State.accepted_lm, State.volumeOnBay, State.accepted_volume]

end Request

theorem State.exec_serviceOverride {k : Nat} (hk : (s.bmail b).overrides = k + 1) :
    ∀ a, a = s.setBmail b { s.bmail b with overrides := k } →
      exec (.serviceOverride b) s = .next (if s.releaseBarred b then a else a.beginRelease b) := by
  rintro a rfl
  simp only [exec, execServiceOverride, hk, Nat.succ_ne_zero, if_false, Nat.add_sub_cancel]
  rfl

/-- Settles O45: a release is its mark, the endings in ascending order, the failing of the bay's queue and the
message to the drive unit; the two commands test the bay and, RELEASE_BAY, the loans before it. -/
theorem releaseStart : Obligations.ReleaseStart := by
  refine ⟨fun s b => ?_, fun s b => ⟨fun hq => ?_, fun hq => ?_⟩, fun s b => ⟨fun k hk => ?_, fun h0 => ?_, ?_⟩⟩
  · intro onBay ended
    have step (a : State) (i : Nat) : (a.endWithNotice i .bayReleased).freeIfQuiet i = ended a i := by
      cases hl : a.loan? i with
      | none => simp only [ended, hl, a.endAndFree_none _ hl]
      | some l =>
        rw [a.endAndFree_some _ hl, a.endWithNotice_eq _ hl]
        simp only [ended, hl]
        rfl
    refine ⟨s.markRelease b, ⟨(s.setLmBay_unchanged b _).mono (by simp), s.setLmBay_otherBays b _⟩, rfl,
      s.setLmBay_lmBay_self b _, ?_, fun hq busy => ?_⟩
    · rintro v rfl
      rw [s.beginRelease_eq, funext fun a => funext fun i => step a i]
      rfl
    · exact s.beginRelease_of_busy hq busy _ rfl
  · rw [s.failPending_of_empty hq]
    refine ⟨s.setLmBay_unchanged b _, fun c => ?_⟩
    by_cases hc : c = b
    · rw [hc, s.setLmBay_lmBay_self, ← hq]
    · exact s.setLmBay_lmBay_ne b _ c hc
  · obtain ⟨only, bay, mail, lm⟩ := s.setPending_becomes [] hq
    exact ⟨s.setPending b [], only, lm, bay, mail, rfl⟩
  · intro a
    have taken := s.exec_serviceOverride hk a rfl
    refine ⟨fun barred => ?_, fun free => ?_⟩
    · rw [taken, if_pos ((s.releaseBarred_iff b).2 barred)]
    · rw [taken, if_neg (fun barred => free ((s.releaseBarred_iff b).1 barred))]
  · simp only [exec, execServiceOverride, h0, if_true]
  · rintro p f h ask a rfl
    refine ⟨fun high => ?_, fun hb => ⟨fun barred => ?_, fun free hact lent => ?_, fun free may => ?_⟩⟩
    · simp only [s.exec_releaseBay ask, State.releaseBay, bayOf_none high]
    · simp only [s.exec_releaseBay ask, State.releaseBay, bayOf_some hb, s.accepted_releaseBarred,
        if_pos ((s.releaseBarred_iff b).2 barred)]
    · have lent : s.bayLent b = true := by simpa [State.bayLent, List.any_eq_true] using lent
      simp [s.exec_releaseBay ask, State.releaseBay, bayOf_some hb, s.accepted_releaseBarred,
        s.accepted_bayLent, s.releaseBarred_iff, free, hact, lent]
    · have goes : ¬(!h.act && s.bayLent b) = true := by
        rcases may with act | unlent
        · simp [act]
        · simpa [State.bayLent] using fun _ i l hl => unlent (i, l) hl
      simp only [s.exec_releaseBay ask, State.releaseBay, bayOf_some hb, s.accepted_releaseBarred,
        s.accepted_bayLent, s.releaseBarred_iff, if_neg free, if_neg goes]

end Sys2Proof.Machine
end

section
/-! SUPPORT. The loan manager's share of a soft reset (R43): every waiting record removed, every live loan ended,
and the report of the share's end, with O21. -/

namespace Sys2Proof

variable {α : Type}

/-! ### Tables in their one form -/

theorem Tbl.nodup_of_wf {t : Tbl α} {n : Nat} (h : t.wf n = true) : t.numbers.Nodup := by
  simp only [Tbl.wf, Bool.and_eq_true, decide_eq_true_eq] at h
  exact h.1.imp fun hlt => Nat.ne_of_lt hlt

theorem Tbl.get_of_mem {t : Tbl α} (h : t.numbers.Nodup) {e : Nat × α} (he : e ∈ t) :
    t.get e.1 = some e.2 := by
  induction t with
  | nil => cases he
  | cons f t ih =>
    obtain ⟨k, b⟩ := f
    have hd : k ∉ Tbl.numbers t ∧ (Tbl.numbers t).Nodup := List.nodup_cons.1 h
    rcases List.mem_cons.1 he with rfl | he
    · simp [Tbl.get]
    · have ne : e.1 ≠ k := fun hk => hd.1 (hk ▸ List.mem_map_of_mem (f := Prod.fst) he)
      simp only [Tbl.get, if_neg ne, ih hd.2 he]

theorem Tbl.mem_numbersWhere_iff {t : Tbl α} (h : t.numbers.Nodup) (p : α → Bool) {i : Nat} {a : α}
    (ha : t.get i = some a) : i ∈ t.numbersWhere p ↔ p a = true := by
  simp only [Tbl.numbersWhere, List.mem_map, List.mem_filter]
  constructor
  · rintro ⟨e, ⟨he, hp⟩, rfl⟩
    rw [Tbl.get_of_mem h he, Option.some.injEq] at ha
    rwa [← ha]
  · exact fun hp => ⟨(i, a), ⟨t.mem_of_get i a ha, hp⟩, rfl⟩

/-- Freeing the entries of a list of numbers leaves the others. -/
theorem Tbl.foldl_erase (l : List Nat) (t : Tbl α) :
    l.foldl Tbl.erase t = t.filter fun e => e.1 ∉ l := by
  induction l generalizing t with
  | nil => simp
  | cons i l ih =>
    rw [List.foldl_cons, ih, Tbl.erase, List.filter_filter]
    congr 1
    funext e
    by_cases hi : e.1 = i <;> simp [hi]

theorem Tbl.foldl_erase_numbers (t : Tbl α) : t.numbers.foldl Tbl.erase t = [] := by
  rw [Tbl.foldl_erase, List.filter_eq_nil_iff]
  rintro e he
  have used : e.1 ∈ t.numbers := List.mem_map_of_mem he
  simpa using used

end Sys2Proof

namespace Sys2Proof.Machine

variable (s : State)

/-! ### Every waiting record removed -/

/-- A state with the WAIT_EXPIRED notice for a waiting record placed in it (R46). -/
def expiredFrame (a : State) (x : Nat × WaitRec) : State :=
  a.placeForNode x.2.node (waitExpiredHeader x.2.volume x.2.mode)

/-- What the removal of the waiting records `l` with notices leaves (R31). -/
structure State.RecordsRemoved (s t : State) (l : Tbl WaitRec) : Prop where
  parts : UnchangedBut [.lm, .nodes, .ports] s t
  lm : t.lm = { s.lm with
    waits := l.numbers.foldl Tbl.erase s.lm.waits, volumes := t.lm.volumes, retry := t.lm.retry }
  volume : ∀ v, t.volume? v = (s.volume? v).map fun e => { e with
    waitList := e.waitList.filter fun r => !l.any fun x => x.1 == r && x.2.volume == v }
  node : ∀ n, t.node? n = (s.node? n).map fun e => { e with
    loanWait := e.loanWait - (l.filter fun x => x.2.node == n).length }
  places : (l.foldl expiredFrame s).SamePlaces t

theorem State.RecordsRemoved.nil : s.RecordsRemoved s [] :=
  ⟨.refl _ s, rfl, by simp, by simp, .refl s⟩

/-- One record more, at the front. -/
theorem State.RecordsRemoved.cons {s t : State} {r : Nat} {w : WaitRec} {l : Tbl WaitRec}
    (hw : s.lm.waits.get r = some w) (h : (s.removeRecord r true).RecordsRemoved t l) :
    s.RecordsRemoved t ((r, w) :: l) := by
  obtain ⟨lm, nodes⟩ := s.removeRecord_reads hw true
  refine ⟨(s.removeRecord_unchanged r true).trans h.parts, ?_, fun v => ?_, fun n => ?_, ?_⟩
  · rw [h.lm, lm, s.withoutRecord_lm]
    rfl
  · rw [h.volume, State.volume?, lm]
    refine (congrArg (Option.map _) (s.withoutRecord_volume r w v)).trans ?_
    rw [Option.map_map]
    congr 1
    funext e
    by_cases hv : v = w.volume
    · subst hv
      simp only [Function.comp_apply, if_true, List.filter_filter]
      congr 2
      funext q
      by_cases hq : q = r
      · simp [hq]
      · simp [hq, beq_false_of_ne (Ne.symm hq)]
    · simp [hv, beq_false_of_ne (Ne.symm hv)]
  · rw [h.node, State.node?, nodes]
    refine (congrArg (Option.map _) (s.withoutRecord_node r w n)).trans ?_
    rw [Option.map_map]
    congr 1
    funext e
    by_cases hn : n = w.node
    · simp [hn, Nat.sub_sub, Nat.add_comm]
    · simp [hn, Ne.symm hn]
  · have first := s.removeRecord_samePlaces hw true
    exact (State.SamePlaces.foldl (f := expiredFrame) (fun a b x same => same.placeForNode _ _) first l).trans
      h.places

theorem State.removeRecords_spec (l : Tbl WaitRec) (hd : l.numbers.Nodup)
    (hl : ∀ x ∈ l, s.lm.waits.get x.1 = some x.2) :
    s.RecordsRemoved (l.numbers.foldl (fun t r => t.removeRecord r true) s) l := by
  induction l generalizing s with
  | nil => exact .nil s
  | cons x l ih =>
    obtain ⟨r, w⟩ := x
    have hw := hl (r, w) List.mem_cons_self
    have hd : r ∉ Tbl.numbers l ∧ (Tbl.numbers l).Nodup := List.nodup_cons.1 hd
    refine .cons hw (ih _ hd.2 fun x hx => ?_)
    have ne : x.1 ≠ r := fun e => hd.1 (e ▸ List.mem_map_of_mem (f := Prod.fst) hx)
    obtain ⟨lm, -⟩ := s.removeRecord_reads hw true
    rw [lm, s.withoutRecord_lm]
    exact (Tbl.get_erase_ne _ _ _ ne).trans (hl x (List.mem_cons_of_mem _ hx))

/-! ### The end of the share -/

theorem settle_resetFinished (l : List AgentMsg) (h : settledChannel l = true) :
    settle (l ++ [.resetFinished]) s = (l ++ [.resetFinished], s) := by
  cases l with
  | nil => rfl
  | cons a l =>
    cases a with
    | notice n => rfl
    | resetFinished => rfl
    | status a => cases h
    | drainAnswer a c => cases h

theorem State.checkLmReset_finished (hc : settledChannel s.mail.lmToAgent = true)
    (hs : s.lm.resetShare = true) (hl : ∀ e ∈ s.lm.loans, e.2.state ≠ .ending .reset) :
    s.checkLmReset = { s with
      lm := { s.lm with resetShare := false },
      mail := { s.mail with lmToAgent := s.mail.lmToAgent ++ [.resetFinished] } } := by
  have gone : s.lm.loans.any (fun e => e.2.state == .ending .reset) = false := by simpa using hl
  simp only [State.checkLmReset, hs, gone, Bool.not_false, Bool.and_self, if_true, State.lmTellAgent,
    settle_resetFinished _ _ hc]

theorem State.checkLmReset_waits (hl : ∃ e ∈ s.lm.loans, e.2.state = .ending .reset) :
    s.checkLmReset = s := by
  have left : s.lm.loans.any (fun e => e.2.state == .ending .reset) = true := by simpa using hl
  simp [State.checkLmReset, left]

/-! ### The share -/

/-- The state after the removals of a reset: the grant retry order is empty too. -/
def State.resetRemoved (s : State) : State :=
  let t := s.lm.waits.numbers.foldl (fun t r => t.removeRecord r true) s
  { t with lm := { t.lm with retry := [] } }

/-- The loans that a reset ends, ascending by entry. -/
def State.resetIds (s : State) : List Nat := s.liveLoans fun _ => true

/-- The state of a reset before the freeings: every waiting record is removed and every live loan ended (R43). -/
def State.resetEnded (s : State) : State := s.resetRemoved.endLoans s.resetIds .reset

section Reset
variable (hw : s.lm.waits.wf 256 = true)
include hw

theorem State.resetRemoved_lm : s.resetRemoved.lm =
    { s.lm with waits := [], volumes := s.resetRemoved.lm.volumes, retry := [] } := by
  have removed := s.removeRecords_spec s.lm.waits (Tbl.nodup_of_wf hw)
    fun x hx => Tbl.get_of_mem (Tbl.nodup_of_wf hw) hx
  have lm := removed.lm
  rw [Tbl.foldl_erase_numbers] at lm
  simp only [State.resetRemoved]
  rw [lm]

/-- The removals and the emptied order, over every record of the pool. -/
theorem State.resetRemoved_spec : UnchangedBut [.lm, .nodes, .ports] s s.resetRemoved ∧
    (∀ v, s.resetRemoved.volume? v = (s.volume? v).map fun e => { e with
      waitList := e.waitList.filter fun r => !s.lm.waits.any fun x => x.1 == r && x.2.volume == v }) ∧
    (∀ n, s.resetRemoved.node? n = (s.node? n).map fun e => { e with
      loanWait := e.loanWait - (s.lm.waits.filter fun x => x.2.node == n).length }) ∧
    (s.lm.waits.foldl expiredFrame s).SamePlaces s.resetRemoved := by
  obtain ⟨parts, -, volume, node, places⟩ := s.removeRecords_spec s.lm.waits (Tbl.nodup_of_wf hw)
    fun x hx => Tbl.get_of_mem (Tbl.nodup_of_wf hw) hx
  exact ⟨parts.trans ((State.setLm_unchanged _ _).mono (by simp)), volume, node,
    places.trans (.of_nodes rfl rfl)⟩

theorem State.resetRemoved_loan (i : Nat) : s.resetRemoved.loan? i = s.loan? i := by
  rw [State.loan?, s.resetRemoved_lm hw, State.loan?]

theorem State.resetLoans_eq : ∀ w, w = s.resetIds.foldl State.freeIfQuiet s.resetEnded →
    s.resetLoans = State.checkLmReset { w with lm := { w.lm with resetShare := true } } := by
  have ids : s.resetRemoved.liveLoans (fun _ => true) = s.resetIds := by
    rw [State.liveLoans, s.resetRemoved_lm hw, State.resetIds, State.liveLoans]
  rintro w rfl
  simp only [State.resetEnded, ← ids]
  rfl

theorem State.resetEnded_lm : s.resetEnded.lm = { s.lm with
    waits := [], volumes := s.resetRemoved.lm.volumes, retry := [], loans := s.resetEnded.lm.loans } := by
  rw [State.resetEnded, State.endLoans_lm, s.resetRemoved_lm hw]

/-- A live loan is ENDING with RESET, and an ENDING one keeps its reason. -/
theorem State.resetEnded_loan (hl : s.lm.loans.wf 1024 = true) (i : Nat) : s.resetEnded.loan? i =
    (s.loan? i).map fun l => if l.state.isEnding then l else { l with state := .ending .reset } := by
  rw [State.resetEnded, State.endLoans_loan, s.resetRemoved_loan hw]
  cases h : s.loan? i with
  | none => rfl
  | some l =>
    have live : i ∈ s.resetIds ↔ l.state.isEnding = false := by
      unfold State.resetIds State.liveLoans
      simpa using Tbl.mem_numbersWhere_iff (Tbl.nodup_of_wf hl) (fun l => !l.state.isEnding && true) h
    cases he : l.state.isEnding <;> simp [live, he]

/-- The frames of a reset: WAIT_EXPIRED for every record, then ENDED for every loan that it ends. -/
theorem State.resetEnded_places (hl : s.lm.loans.wf 1024 = true) :
    ((s.lm.loans.filter fun x => !x.2.state.isEnding).foldl (fun a x => a.placeForNode x.2.holder
        (endedHeader (handleOf x.1 (s.generation x.1)) x.2.volume .reset))
      (s.lm.waits.foldl expiredFrame s)).SamePlaces s.resetEnded := by
  obtain ⟨-, -, -, places⟩ := s.resetRemoved_spec hw
  have first := places.foldl (s.resetRemoved.endedFrame_samePlaces .reset) s.resetIds
  have all := first.trans (s.resetRemoved.endLoans_samePlaces s.resetIds .reset)
  have ids : s.resetIds = (s.lm.loans.filter fun x => !x.2.state.isEnding).map Prod.fst := by
    simp only [State.resetIds, State.liveLoans, Tbl.numbersWhere, Bool.and_true]
  rw [ids, List.foldl_map] at all
  rw [State.resetEnded, ids, List.foldl_ext _ (fun a x => s.resetRemoved.endedFrame .reset a x.1)]
  · exact all
  · intro a x hx
    have loan : s.loan? x.1 = some x.2 :=
      Tbl.get_of_mem (Tbl.nodup_of_wf hl) (List.mem_of_mem_filter hx)
    have generation : s.resetRemoved.generation x.1 = s.generation x.1 := by
      rw [State.generation, s.resetRemoved_lm hw, State.generation]
    simp only [State.endedFrame, s.resetRemoved_loan hw, loan, generation]

end Reset

/-- Settles O21: all removals, then all endings, then all freeings, each read off the lemma of its own loop; the
examination of the share is a test of the loans. -/
theorem loanManagerReset : Obligations.LoanManagerReset := by
  refine ⟨fun s hm hl hw => ?_, fun s hc => ⟨s.checkLmReset_finished hc, fun stays => ?_⟩⟩
  · intro expired ended freed
    let t : State := { s with mail := { s.mail with resetLm := false } }
    obtain ⟨removed, volume, node, -⟩ := t.resetRemoved_spec hw
    have parts := t.resetRemoved.endLoans_parts t.resetIds .reset
    have lm := t.resetEnded_lm hw
    have before : UnchangedBut [.lm, .nodes, .ports, .mail] s t := (s.setMail_unchanged _).mono (by simp)
    have all : UnchangedBut [.lm, .nodes, .ports] t t.resetEnded := removed.trans (parts.mono (by simp))
    refine ⟨t.resetEnded, before.trans (all.mono (by simp)), all .mail (by simp), by rw [lm], by rw [lm],
      t.resetEnded_loan hw hl, fun waits v vol hv => ?_, by rw [lm], by rw [lm], by rw [lm], fun n => ?_, ?_, ?_⟩
    · have ended : t.resetEnded.volume? v = t.resetRemoved.volume? v := by
        rw [State.volume?, lm, State.volume?]
      have emptied : vol.waitList.filter
          (fun r => !s.lm.waits.any fun x => x.1 == r && x.2.volume == v) = [] := by
        rw [List.filter_eq_nil_iff]
        intro r hr
        obtain ⟨w, hget, hvol⟩ := waits v vol r hv hr
        have mem := Tbl.mem_of_get _ _ _ hget
        simpa using ⟨w, mem, hvol⟩
      rw [ended, volume, show t.volume? v = some vol from hv, Option.map_some]
      exact congrArg (fun q => some { vol with waitList := q }) emptied
    · have ended : t.resetEnded.node? n = t.resetRemoved.node? n := by
        rw [State.node?, show t.resetEnded.nodes = t.resetRemoved.nodes from parts .nodes (by simp), State.node?]
      exact ended.trans (node n)
    · have from_t := (t.resetEnded_places hw hl).ports
      have start : s.SamePlaces t := .of_nodes rfl rfl
      have waits := start.foldl (f := expiredFrame) (fun a b x same => same.placeForNode _ _) s.lm.waits
      have loans := waits.foldl (f := ended) (fun a b x same => same.placeForNode _ _)
        (s.lm.loans.filter fun x => !x.2.state.isEnding)
      exact from_t.trans loans.ports
    · have freeing : freed = State.freeIfQuiet := by
        funext a i
        cases h : a.loan? i <;> simp only [freed, State.freeIfQuiet, h]
      rintro w rfl
      simp only [exec, execLoanManagerReset, hm, if_true, freeing]
      exact congrArg Host.Outcome.next (t.resetLoans_eq hw _ rfl)
  · rcases stays with share | left
    · exact s.checkLmReset_of_no_share share
    · exact s.checkLmReset_waits left

end Sys2Proof.Machine
end

section
/-! SUPPORT. The requests of the node block (R145, R150 to R154, R172) and the quiet nodes (R75, R151): O53. -/

namespace Sys2Proof

/-! ### The lowest free entry -/

theorem Tbl.freeFrom_none {α : Type} (t : Tbl α) (fuel i : Nat)
    (h : ∀ k, i ≤ k → k < i + fuel → (t.get k).isSome = true) : t.freeFrom fuel i = none := by
  induction fuel generalizing i with
  | zero => rfl
  | succ fuel ih =>
    have used := h i (Nat.le_refl _) (by omega)
    have here : ¬(t.get i).isNone = true := by simpa [Option.isSome_iff_ne_none] using used
    rw [Tbl.freeFrom, if_neg here]
    exact ih (i + 1) fun k hk hk' => h k (by omega) (by omega)

theorem Tbl.freeFrom_eq {α : Type} (t : Tbl α) (fuel i j : Nat) (hj : t.get j = none) (hi : i ≤ j)
    (hf : j < i + fuel) (h : ∀ k, i ≤ k → k < j → (t.get k).isSome = true) :
    t.freeFrom fuel i = some j := by
  induction fuel generalizing i with
  | zero => omega
  | succ fuel ih =>
    rw [Tbl.freeFrom]
    rcases Nat.eq_or_lt_of_le hi with rfl | hlt
    · rw [if_pos (by rw [hj]; rfl)]
    · have used := h i (Nat.le_refl _) hlt
      have here : ¬(t.get i).isNone = true := by simpa [Option.isSome_iff_ne_none] using used
      rw [if_neg here]
      exact ih (i + 1) hlt (by omega) fun k hk hk' => h k (by omega) hk'

theorem Tbl.lowestFree_none {α : Type} (t : Tbl α) (n : Nat)
    (h : ∀ k, k < n → (t.get k).isSome = true) : t.lowestFree n = none :=
  t.freeFrom_none n 0 fun k _ hk => h k (by omega)

theorem Tbl.lowestFree_eq {α : Type} (t : Tbl α) (n : Nat) {j : Nat} (hn : j < n) (hj : t.get j = none)
    (h : ∀ k, k < j → (t.get k).isSome = true) : t.lowestFree n = some j :=
  t.freeFrom_eq n 0 j hj (Nat.zero_le _) (by omega) fun k _ hk => h k hk

theorem Tbl.get_update {α : Type} (t : Tbl α) (f : α → α) (i : Nat) :
    (t.update f).get i = (t.get i).map f := by
  induction t with
  | nil => rfl
  | cons e t ih =>
    obtain ⟨k, a⟩ := e
    simp only [Tbl.update, List.map_cons, Tbl.get] at ih ⊢
    split
    · rfl
    · exact ih

/-- An update that keeps a condition keeps which numbers meet it. -/
theorem Tbl.numbersWhere_update {α : Type} (t : Tbl α) (f : α → α) (p : α → Bool)
    (hp : ∀ a, p (f a) = p a) : (t.update f).numbersWhere p = t.numbersWhere p := by
  simp only [Tbl.numbersWhere, Tbl.update, List.filter_map, List.map_map, Function.comp_def, hp]

theorem Tbl.update_of_fixed {α : Type} (t : Tbl α) (f : α → α) (h : ∀ e ∈ t, f e.2 = e.2) :
    t.update f = t := by
  unfold Tbl.update
  refine (List.map_congr_left fun e he => ?_).trans t.map_id
  rw [h e he]
  rfl

theorem Tbl.numbersWhere_eq_nil {α : Type} (t : Tbl α) (p : α → Bool) (h : ∀ e ∈ t, p e.2 = false) :
    t.numbersWhere p = [] := by
  rw [Tbl.numbersWhere, List.filter_eq_nil_iff.2 fun e he => by simp [h e he], List.map_nil]

end Sys2Proof

namespace Sys2Proof.Machine

variable (s : State) {p : Port} {f : InFrame} {h : Header}

/-! ### The requests in the accepted state -/

@[simp] theorem State.accepted_nodeByAddr (p : Port) (x : Addr) :
    (s.accepted p).nodeByAddr x = s.nodeByAddr x := by simp [State.nodeByAddr]
@[simp] theorem State.accepted_progress (p : Port) : (s.accepted p).agent.progress = s.agent.progress := by
  rw [s.accepted_agent]
@[simp] theorem State.accepted_nextId (p : Port) : (s.accepted p).agent.nextId = s.agent.nextId := by
  rw [s.accepted_agent]

theorem State.exec_admitNode (ask : s.Asks 0x20 p f h) :
    exec .admitNode s = .next ((s.accepted p).admitNode h h.offset) := by
  simp only [exec, execAdmitNode, s.manage_of_asks _ ask]

theorem State.exec_readmitNode (ask : s.Asks 0x21 p f h) :
    exec .readmitNode s = .next ((s.accepted p).readmitNode h h.offset) := by
  simp only [exec, execReadmitNode, s.manage_of_asks _ ask]

theorem State.exec_drainNode (ask : s.Asks 0x22 p f h) : exec .drainNode s =
    .next (if 64 ≤ s.agent.progress.length then (s.accepted p).answer (h.status .busy)
      else (s.accepted p).drainNode h h.offset) := by
  simp only [exec, execDrainNode, s.manage_of_asks _ ask, s.accepted_progress, State.reply]

theorem State.exec_drainNode_taken (ask : s.Asks 0x22 p f h) (room : s.agent.progress.length < 64) :
    exec .drainNode s = .next ((s.accepted p).drainNode h h.offset) := by
  rw [s.exec_drainNode ask, if_neg (Nat.not_le.2 room)]

theorem State.exec_forgetNode (ask : s.Asks 0x23 p f h) :
    exec .forgetNode s = .next ((s.accepted p).forgetNode h h.offset) := by
  simp only [exec, execForgetNode, s.manage_of_asks _ ask]

theorem State.exec_readNode (ask : s.Asks 0x24 p f h) :
    exec .readNode s = .next ((s.accepted p).readNode h h.offset) := by
  simp only [exec, execReadNode, s.manage_of_asks _ ask]

/-- A node entry written in the accepted state, seen from the state in which the request waited. -/
theorem State.accepted_setNode_spec (p : Port) (n : Nat) (e : Node) :
    UnchangedBut [.cls, .agent, .nodes] s ((s.accepted p).setNode n e) ∧
      ((s.accepted p).setNode n e).agent = (s.accepted p).agent ∧
      ((s.accepted p).setNode n e).cls = (s.accepted p).cls ∧
      ((s.accepted p).setNode n e).node? n = some e ∧
      OtherNodesUnchanged n s ((s.accepted p).setNode n e) := by
  refine ⟨((s.accepted_parts p).mono (by simp)).trans ((State.setNode_unchanged _ n e).mono (by simp)),
    rfl, rfl, State.setNode_node_self _ n e, fun m hm => ?_⟩
  refine (State.setNode_node_ne _ n e m hm).trans ?_
  rw [State.node?, s.accepted_nodes, State.node?]

/-- A node as it is admitted (R145). -/
def Node.admittedAt (x : Addr) : Node where
  addr := x
  state := .admitted
  lastPort := none
  outstanding := 0
  tags := []
  loanWait := 0

section Admit
variable {x : Addr} (good : x ≠ 0) (single : x.getLsbD 40 = false)
include good single

theorem not_zero_or_group : ¬(x = 0 ∨ isGroupAddress x = true) := by
  rintro (zero | group)
  · exact good zero
  · rw [isGroupAddress, single] at group
    cases group

theorem State.admitNode_alreadyPresent (present : (s.nodeByAddr x).isSome = true) :
    s.admitNode h x = s.nodeStatus h .alreadyPresent := by
  simp only [State.admitNode, if_neg (not_zero_or_group good single), if_pos present]

variable (absent : s.nodeByAddr x = none)
include absent

theorem State.admitNode_tableFull (full : s.nodes.lowestFree 512 = none) :
    s.admitNode h x = s.nodeStatus h .tableFull := by
  simp only [State.admitNode, if_neg (not_zero_or_group good single), absent, full, Option.isSome_none,
    Bool.false_eq_true, if_false]

/-- A new node is admitted into the lowest free entry (R145). -/
theorem State.admitNode_new {n : Nat} (free : s.nodes.lowestFree 512 = some n) :
    s.admitNode h x = (s.setNode n (Node.admittedAt x)).nodeStatus h .ok := by
  simp only [State.admitNode, if_neg (not_zero_or_group good single), absent, free, Option.isSome_none,
    Bool.false_eq_true, if_false]
  rfl

end Admit

/-! ### The bytes of READ_NODE (R154, R182) -/

theorem Entry.drains_eq (x : Entry) (a : Addr) : x.drains a = (x.work == .drain a) := by
  unfold Entry.drains
  cases hx : x.work with
  | drain y =>
    rw [Bool.eq_iff_iff]
    simp
  | reset w d => rfl

theorem State.tagEntry_length (n : Nat) (e : Node) (t : Nat) : (s.tagEntry n e t).length = 2 := by
  unfold State.tagEntry
  split
  · split <;> rfl
  · rfl

theorem length_flatMap_const {α β : Type} (l : List α) (g : α → List β) (k : Nat)
    (hg : ∀ x, (g x).length = k) : (l.flatMap g).length = k * l.length := by
  induction l with
  | nil => rfl
  | cons x l ih =>
    rw [List.flatMap_cons, List.length_append, ih, hg, List.length_cons, Nat.mul_succ, Nat.add_comm]

theorem State.nodeBytes_length (n : Nat) (e : Node) : (s.nodeBytes n e).length = 64 := by
  have handles : ((s.nodeHandles n).take 8).length ≤ 8 := by simp
  have waits : ((s.nodeWaits n).take 8).length ≤ 8 := by simp
  have tags := length_flatMap_const (List.range 16) (s.tagEntry n e) 2 (s.tagEntry_length n e)
  have words := length_flatMap_const ((s.nodeHandles n).take 8) (fun h => be 2 h.toNat) 2
    fun h => be_length 2 _
  simp only [State.nodeBytes, List.length_append, tags, words, be_length, padFF_eq, List.length_map,
    List.length_replicate, List.length_range, List.length_cons, List.length_nil]
  omega

theorem State.nodeHandles_eq (n : Nat) : s.nodeHandles n = (s.lm.loans.filter fun x => x.2.holder == n).map
    fun x => handleOf x.1 (s.generation x.1) := by
  simp only [State.nodeHandles, Tbl.numbersWhere, List.map_map, Function.comp_def]

theorem State.nodeWaits_bytes (n : Nat) : (s.nodeWaits n).map (BitVec.ofNat 8) =
    (s.lm.waits.filter fun x => x.2.node == n).map fun x => BitVec.ofNat 8 x.2.volume := by
  simp only [State.nodeWaits, List.map_map, Function.comp_def]

/-- The two bytes of a tag entry: of the request that the tag names, if there is one (R182). -/
def tagBytes : Option (Nat × Request) → List Byte
  | some (_, q) => [q.kind.code, q.state.value]
  | none => [0, 0xFF]

theorem State.tagEntry_eq (n : Nat) (e : Node) (t : Nat) : s.tagEntry n e t =
    tagBytes (if BitVec.ofNat 8 t ∈ e.tags then s.requestByTag n (BitVec.ofNat 8 t) else none) := by
  unfold State.tagEntry
  by_cases ht : BitVec.ofNat 8 t ∈ e.tags
  · rw [if_pos (List.contains_iff_mem.2 ht), if_pos ht]
    split
    · rename_i hq
      rw [hq]
      rfl
    · rename_i hq
      rw [hq]
      rfl
  · rw [if_neg (fun used => ht (List.contains_iff_mem.1 used)), if_neg ht]
    rfl

/-- The byte of a node's last port, FFh where it has none (R182). -/
def portByte : Option Port → Byte
  | some p => BitVec.ofNat 8 p.val
  | none => 0xFF

/-- The payload of READ_NODE part by part (R154, R182). -/
theorem State.nodeBytes_eq (n : Nat) (e : Node) (hs : List (BitVec 16)) (ws : List Byte)
    (hhs : hs = (s.lm.loans.filter fun x => x.2.holder == n).map
      fun x => handleOf x.1 (s.generation x.1))
    (hws : ws = (s.lm.waits.filter fun x => x.2.node == n).map fun x => BitVec.ofNat 8 x.2.volume) :
    s.nodeBytes n e =
      [e.state.value, portByte e.lastPort] ++
      be 1 e.outstanding ++ be 1 e.loanWait ++
      be 1 (s.agent.progress.filter fun x => x.work == .drain e.addr).length ++ be 3 0 ++
      ((List.range 16).flatMap fun j => tagBytes
        (if BitVec.ofNat 8 j ∈ e.tags then s.requestByTag n (BitVec.ofNat 8 j) else none)) ++
      ((hs.take 8).flatMap fun x => be 2 x.toNat) ++
      List.replicate (16 - 2 * (hs.take 8).length) (0 : Byte) ++
      ws.take 8 ++ List.replicate (8 - (ws.take 8).length) (0xFF : Byte) := by
  have drains : s.drainsHeld e.addr = (s.agent.progress.filter fun x => x.work == .drain e.addr).length := by
    simp only [State.drainsHeld, Entry.drains_eq]
  have waits : ((s.nodeWaits n).take 8).map (fun v => BitVec.ofNat 8 v) = ws.take 8 := by
    rw [List.map_take, hws, ← s.nodeWaits_bytes]
  rw [← s.nodeHandles_eq] at hhs
  simp only [State.nodeBytes, drains, waits, ← hhs, s.tagEntry_eq, be_zero (16 - _), padFF_eq,
    List.append_assoc]
  rfl

@[simp] theorem State.accepted_nodeBytes (p : Port) (n : Nat) (e : Node) :
    (s.accepted p).nodeBytes n e = s.nodeBytes n e := by
  have ru : (s.accepted p).ru = s.ru := s.accepted_parts p .ru (by simp)
  simp only [State.nodeBytes, State.drainsHeld, State.tagEntry, State.requestByTag, State.nodeHandles,
    State.nodeWaits, State.accepted_progress, State.accepted_lm, State.accepted_generation, ru]

/-! ### The outstanding count (R80, R151, R152) -/

section Count
variable {tag : BitVec 8} {x : Addr} {n : Nat} {e : Node}

theorem State.countReady_iff (n : Nat) :
    s.countReady n = true ↔ s.ru.admitting = none ∧ n ∉ s.mail.quietNodes := by
  simp [State.countReady]

/-- The count waits for a claim in flight and for the node's quiet reports (log entry 32). -/
theorem State.exec_count_waits (h : s.ru.admitting ≠ none ∨ n ∈ s.mail.quietNodes)
    (hw : s.agent.wait = .drainCount tag x n ∨ s.agent.wait = .forgetCount tag x n) :
    exec .outstandingCountAnswer s = .next s := by
  have waits : ¬s.countReady n = true := by
    rw [s.countReady_iff]
    rintro ⟨free, quiet⟩
    exact h.elim (· free) quiet
  rcases hw with hw | hw <;> simp only [exec, execOutstandingCountAnswer, hw, if_neg waits]

theorem State.exec_count_drain (ready : s.countReady n = true) (hw : s.agent.wait = .drainCount tag x n) :
    exec .outstandingCountAnswer s = .next (s.drainProceeds tag x n) := by
  simp only [exec, execOutstandingCountAnswer, hw, if_pos ready]

theorem State.exec_count_forget (ready : s.countReady n = true) (hw : s.agent.wait = .forgetCount tag x n) :
    exec .outstandingCountAnswer s = .next (s.forgetProceeds tag x n) := by
  simp only [exec, execOutstandingCountAnswer, hw, if_pos ready]

theorem State.drainProceeds_halted (hn : s.node? n = some e) (he : e.state = .halted) :
    s.drainProceeds tag x n = s.nodeStatus (nodeRequestHeader 0x22 tag x) .wrongState := by
  simp only [State.drainProceeds, hn, he]

theorem State.drainProceeds_draining (hn : s.node? n = some e) (he : e.state = .draining) :
    s.drainProceeds tag x n =
      if e.outstanding = 0 then
        (s.setNode n { e with state := .drained }).nodeStatus (nodeRequestHeader 0x22 tag x) .ok
      else (s.setWait .free).addEntry tag (.drain x) := by
  simp only [State.drainProceeds, hn, he]

theorem State.forgetProceeds_eq (hn : s.node? n = some e) : s.forgetProceeds tag x n =
    if e.outstanding = 0 then
      { s.forgetLoanStep n with nodes := (s.forgetLoanStep n).nodes.erase n }.nodeStatus
        (nodeRequestHeader 0x23 tag x) .ok
    else s.nodeStatus (nodeRequestHeader 0x23 tag x) .nodeBusy := by
  simp only [State.forgetProceeds, hn]

end Count

/-! ### The loan step of a forget (R42) -/

/-- A loan of a node that is forgotten: ENDING, with its own reason if it had one. -/
def Loan.forgottenBy (n : Nat) (l : Loan) : Loan :=
  if l.holder = n ∧ l.state.isEnding = false then { l with state := .ending .forgotten } else l

theorem Loan.forgottenBy_holder (n : Nat) (l : Loan) : (Loan.forgottenBy n l).holder = l.holder := by
  unfold Loan.forgottenBy
  split <;> rfl

/-- The waiting records of a node removed, without a notice. -/
def State.forgetRecords (s : State) (n : Nat) : State :=
  (s.lm.waits.numbersWhere fun w => w.node == n).foldl (fun t r => t.removeAndGrant r false) s

/-- The loans of a node ended. -/
def State.forgetEnded (s : State) (n : Nat) : State :=
  { s with lm := { s.lm with loans := s.lm.loans.update (Loan.forgottenBy n) } }

theorem State.forgetLoanStep_eq (n : Nat) : s.forgetLoanStep n =
    ((s.forgetRecords n).lm.loans.numbersWhere fun l => l.holder == n).foldl (fun t i => t.freeLoan i)
      ((s.forgetRecords n).forgetEnded n) := by
  have numbers := Tbl.numbersWhere_update (s.forgetRecords n).lm.loans (Loan.forgottenBy n)
    (fun l => l.holder == n) fun l => by rw [Loan.forgottenBy_holder]
  rw [← numbers]
  rfl

/-- A node with no record and no loan leaves nothing to the loan step. -/
theorem State.forgetLoanStep_of_none {n : Nat} (hw : ∀ r ∈ s.lm.waits, r.2.node ≠ n)
    (hl : ∀ l ∈ s.lm.loans, l.2.holder ≠ n) : s.forgetLoanStep n = s := by
  have records : s.forgetRecords n = s := by
    rw [State.forgetRecords, Tbl.numbersWhere_eq_nil _ _ fun r hr => by simpa using hw r hr]
    rfl
  have ended : s.forgetEnded n = s := by
    have fixed : s.lm.loans.update (Loan.forgottenBy n) = s.lm.loans :=
      Tbl.update_of_fixed _ _ fun l hm => if_neg fun mine => hl l hm mine.1
    rw [State.forgetEnded, fixed]
  rw [State.forgetLoanStep_eq, records, ended,
    Tbl.numbersWhere_eq_nil _ _ fun l hm => by simpa using hl l hm]
  rfl

/-! ### Quiet nodes (R75, R151) -/

theorem State.drainAsked_iff (n : Nat) :
    s.drainAsked n = true ↔ ∃ tag x, s.agent.wait = .drainCount tag x n := by
  unfold State.drainAsked
  cases s.agent.wait <;> simp

section Quiet
variable {n : Nat} {e : Node} {rest : List Nat} (hq : s.mail.quietNodes = n :: rest)
  (hn : s.node? n = some e)
include hq hn

theorem State.exec_nodeQuiet_ignored
    (h : e.state ≠ .draining ∨ ∃ tag x, s.agent.wait = .drainCount tag x n) :
    exec .nodeQuiet s = .next { s with mail := { s.mail with quietNodes := rest } } := by
  have node : State.node? { s with mail := { s.mail with quietNodes := rest } } n = some e := hn
  have asked : State.drainAsked { s with mail := { s.mail with quietNodes := rest } } n = s.drainAsked n := rfl
  have stays : ¬(e.state = .draining ∧ s.drainAsked n = false) := by
    rintro ⟨draining, unasked⟩
    rcases h with other | count
    · exact other draining
    · rw [(s.drainAsked_iff n).2 count] at unasked
      cases unasked
  simp only [exec, execNodeQuiet, hq, State.quietNode, node, asked, if_neg stays]

theorem State.exec_nodeQuiet_drained (he : e.state = .draining)
    (h : ∀ tag x, s.agent.wait ≠ .drainCount tag x n) :
    exec .nodeQuiet s =
      .next ((State.setNode { s with mail := { s.mail with quietNodes := rest } } n
        { e with state := .drained }).nodeTellAgent (.drainAnswer e.addr .ok)) := by
  have node : State.node? { s with mail := { s.mail with quietNodes := rest } } n = some e := hn
  have asked : State.drainAsked { s with mail := { s.mail with quietNodes := rest } } n = s.drainAsked n := rfl
  have unasked : s.drainAsked n = false := by
    rw [← Bool.not_eq_true, s.drainAsked_iff]
    rintro ⟨tag, x, count⟩
    exact h tag x count
  simp only [exec, execNodeQuiet, hq, State.quietNode, node, asked, he, unasked, and_self, if_true]

end Quiet

/-! ### O53 -/

/-- A request whose answer writes one node entry and tells the agent OK. -/
theorem State.writes_of_eq {i : Instr} {n : Nat} {e : Node}
    (he : exec i s = .next (((s.accepted p).setNode n e).nodeStatus h .ok)) :
    ∃ t, exec i s = .next (t.nodeStatus h .ok) ∧ UnchangedBut [.cls, .agent, .nodes] s t ∧
      t.agent = (s.accepted p).agent ∧ t.cls = (s.accepted p).cls ∧ t.node? n = some e ∧
      OtherNodesUnchanged n s t :=
  ⟨_, he, s.accepted_setNode_spec p n e⟩

/-- Settles O53: each request is carried out in the accepted state, whose tables are those before; the count
decides a drain or a forget, and the loan step of a forget is its three loops. -/
theorem nodeRequests : Obligations.NodeRequests := by
  refine ⟨?_, fun s tag x n e hn => ⟨s.exec_count_waits, fun claim quiet => ?_⟩,
    fun s n e rest hq hn => ⟨s.exec_nodeQuiet_ignored hq hn, fun he unasked => ?_⟩⟩
  · rintro s p f h a rfl
    intro Writes
    refine ⟨fun ask => ⟨fun bad => ?_, fun good single => ⟨fun present => ?_, fun absent =>
        ⟨fun full => ?_, fun n hlt free lower => ?_⟩⟩⟩,
      fun ask => ⟨fun absent => ?_, fun n e hn => ⟨fun he => ?_, fun he => ?_, fun he => ?_⟩⟩,
      fun ask => ⟨fun full => ?_, fun room => ⟨fun absent => ?_, fun n e hn => ⟨fun he => ?_, fun he => ?_,
        fun he => ?_, fun he => ?_⟩⟩⟩,
      fun ask => ⟨fun absent => ?_, fun n e hn => ⟨fun he => ?_, fun he => ?_⟩⟩,
      fun ask => ⟨fun absent => ?_, fun n e hn => ⟨?_, State.nodeBytes_length _ n e, fun hs ws hhs hws => ?_⟩⟩⟩
    · have bad : h.offset = 0 ∨ isGroupAddress h.offset = true := bad
      simp only [s.exec_admitNode ask, State.admitNode, if_pos bad]
    · rw [s.exec_admitNode ask, State.admitNode_alreadyPresent _ good single (by simpa using present)]
    · rw [s.exec_admitNode ask, State.admitNode_tableFull _ good single (by simpa using absent)]
      rw [s.accepted_nodes]
      exact Tbl.lowestFree_none _ 512 full
    · refine s.writes_of_eq ?_
      rw [s.exec_admitNode ask, State.admitNode_new _ good single (by simpa using absent)]
      · rfl
      · rw [s.accepted_nodes]
        exact Tbl.lowestFree_eq _ 512 hlt free lower
    · simp only [s.exec_readmitNode ask, State.readmitNode, s.accepted_nodeByAddr, absent]
    · refine s.writes_of_eq ?_
      rcases he with he | he <;>
        simp only [s.exec_readmitNode ask, State.readmitNode, s.accepted_nodeByAddr, hn, he]
    · simp only [s.exec_readmitNode ask, State.readmitNode, s.accepted_nodeByAddr, hn, he]
    · simp only [s.exec_readmitNode ask, State.readmitNode, s.accepted_nodeByAddr, hn, he]
    · rw [s.exec_drainNode ask, if_pos full]
    · simp only [s.exec_drainNode_taken ask room, State.drainNode, s.accepted_nodeByAddr, absent]
    · simp only [s.exec_drainNode_taken ask room, State.drainNode, s.accepted_nodeByAddr, hn, he]
    · simp only [s.exec_drainNode_taken ask room, State.drainNode, s.accepted_nodeByAddr, hn, he]
    · simp only [s.exec_drainNode_taken ask room, State.drainNode, s.accepted_nodeByAddr, hn, he,
        State.addEntry, s.accepted_progress, s.accepted_nextId]
    · simp only [s.exec_drainNode_taken ask room, State.drainNode, s.accepted_nodeByAddr, hn, he]
    · simp only [s.exec_forgetNode ask, State.forgetNode, s.accepted_nodeByAddr, absent]
    · rcases he with he | he <;>
        simp only [s.exec_forgetNode ask, State.forgetNode, s.accepted_nodeByAddr, hn, he]
    · rcases he with he | he <;>
        simp only [s.exec_forgetNode ask, State.forgetNode, s.accepted_nodeByAddr, hn, he]
    · simp only [s.exec_readNode ask, State.readNode, s.accepted_nodeByAddr, absent]
    · simp only [s.exec_readNode ask, State.readNode, s.accepted_nodeByAddr, hn]
    · rw [s.accepted_nodeBytes]
      exact s.nodeBytes_eq n e hs ws hhs hws
  · have ready : s.countReady n = true := (s.countReady_iff n).2 ⟨claim, quiet⟩
    refine ⟨fun hw he => ?_, fun hw he => ⟨fun h0 => ?_, fun h0 => ?_⟩,
      fun hw => ⟨fun h0 => ?_, fun h0 => ?_, fun h0 waits loans => ?_⟩⟩
    · rw [s.exec_count_drain ready hw, s.drainProceeds_halted hn he]
      rfl
    · rw [s.exec_count_drain ready hw, s.drainProceeds_draining hn he, if_pos h0]
      rfl
    · rw [s.exec_count_drain ready hw, s.drainProceeds_draining hn he, if_neg h0]
      rfl
    · rw [s.exec_count_forget ready hw, s.forgetProceeds_eq hn, if_neg h0]
      rfl
    · refine ⟨s.forgetRecords n, (s.forgetRecords n).forgetEnded n, rfl, rfl, State.setLm_unchanged _ _,
        Tbl.get_update _ _, ?_⟩
      rintro w rfl
      rw [s.exec_count_forget ready hw, s.forgetProceeds_eq hn, if_pos h0, s.forgetLoanStep_eq]
      rfl
    · refine ⟨{ s with nodes := s.nodes.erase n }, ?_, ?_, rfl, Tbl.get_erase_self _ _,
        fun m hm => Tbl.get_erase_ne _ _ _ hm⟩
      · rw [s.exec_count_forget ready hw, s.forgetProceeds_eq hn, if_pos h0,
          s.forgetLoanStep_of_none waits loans]
        rfl
      · exact (s.eraseNode_unchanged n).mono (by simp)
  · let t : State := { s with mail := { s.mail with quietNodes := rest } }
    have taken : UnchangedBut [.nodes, .mail] s t := (s.setMail_unchanged _).mono (by simp)
    exact ⟨t.setNode n { e with state := .drained }, s.exec_nodeQuiet_drained hq hn he unasked,
      taken.trans ((t.setNode_unchanged n _).mono (by simp)), rfl, t.setNode_node_self n _,
      fun m hm => t.setNode_node_ne n _ m hm⟩

end Sys2Proof.Machine
end

section
/-! SUPPORT. The cut of a range of the window into pieces (R60), and O25. -/

namespace Sys2Proof

open Machine (DriveCmd.touches)

variable (g : Segment) (l : List Segment) (base p r : Nat)

/-! ### One segment -/

/-- The piece of a range of `r` blocks from window position `p` in the segment that begins at `base`. -/
def Segment.cutAt : Cut :=
  { bay := g.bay, identity := g.identity, start := g.base + (p - base),
    length := min r (base + g.length - p), window := p }

theorem cutFrom_none : cutFrom l base p 0 = [] := by
  cases l <;> rfl

theorem cutFrom_beyond (hp : base + g.length ≤ p) :
    cutFrom (g :: l) base p r = cutFrom l (base + g.length) p r := by
  by_cases hr : r = 0
  · simp only [hr, cutFrom_none]
  · simp only [cutFrom, if_neg hr, if_neg (Nat.not_lt.2 hp)]

/-- A range that begins inside a segment has one piece there, and goes on from the segment's end (R60). -/
theorem cutFrom_inside (hr : r ≠ 0) (hp : p < base + g.length) :
    cutFrom (g :: l) base p r = g.cutAt base p r ::
      cutFrom l (base + g.length) (base + g.length) (r - min r (base + g.length - p)) := by
  simp only [cutFrom, if_neg hr, if_pos hp, Segment.cutAt, List.cons.injEq, true_and]
  by_cases h : r ≤ base + g.length - p
  · simp only [Nat.min_eq_left h, Nat.sub_self, cutFrom_none]
  · rw [Nat.min_eq_right (by omega), Nat.add_sub_cancel' hp.le]

/-! ### The whole range -/

/-- A piece of a range that ends at position `stop` lies whole in one segment of `l`, the segments being laid
from `base` on, and ends with the range or with its segment (R60). -/
def Cut.LiesIn (x : Cut) (l : List Segment) (base stop : Nat) : Prop :=
  ∃ (j : Nat) (g : Segment) (start : Nat), l[j]? = some g ∧
    start = base + ((l.take j).map Segment.length).sum ∧
    x.bay = g.bay ∧ x.identity = g.identity ∧ start ≤ x.window ∧ x.window < start + g.length ∧
    x.start = g.base + (x.window - start) ∧
    x.length = min (stop - x.window) (start + g.length - x.window)

theorem Cut.LiesIn.cons {x : Cut} {l : List Segment} {base stop : Nat} (g : Segment)
    (h : x.LiesIn l (base + g.length) stop) : x.LiesIn (g :: l) base stop := by
  obtain ⟨j, k, start, hk, hs, within⟩ := h
  exact ⟨j + 1, k, start, by simpa using hk, by simp [hs, Nat.add_assoc], within⟩

theorem Segment.cutAt_liesIn (hb : base ≤ p) (hp : p < base + g.length) :
    (g.cutAt base p r).LiesIn (g :: l) base (p + r) :=
  ⟨0, g, base, rfl, by simp, rfl, rfl, hb, hp, rfl, by simp [Segment.cutAt]⟩

/-- What R60 says of the pieces of a range from `p` of `r` blocks. -/
structure Cuts (l : List Segment) (base p r : Nat) (cuts : List Cut) : Prop where
  sum : (cuts.map Cut.length).sum = r
  count : cuts.length ≤ l.length
  each : ∀ (i : Nat) (x : Cut), cuts[i]? = some x →
    x.window = p + ((cuts.take i).map Cut.length).sum ∧ 0 < x.length ∧ x.LiesIn l base (p + r)

theorem Cuts.nil : Cuts l base p 0 [] := ⟨rfl, by simp, by simp⟩

theorem Cuts.beyond {l : List Segment} {base p r : Nat} {cuts : List Cut}
    (h : Cuts l (base + g.length) p r cuts) : Cuts (g :: l) base p r cuts where
  sum := h.sum
  count := Nat.le_succ_of_le h.count
  each i x hx := by
    obtain ⟨window, pos, lies⟩ := h.each i x hx
    exact ⟨window, pos, lies.cons g⟩

/-- The piece in the first segment stands before the pieces of what is left of the range. -/
theorem Cuts.inside {l : List Segment} {base p r : Nat} {cuts : List Cut} (hr : r ≠ 0) (hb : base ≤ p)
    (hp : p < base + g.length)
    (h : Cuts l (base + g.length) (base + g.length) (r - min r (base + g.length - p)) cuts) :
    Cuts (g :: l) base p r (g.cutAt base p r :: cuts) where
  sum := by
    simp only [List.map_cons, List.sum_cons, h.sum, Segment.cutAt]
    omega
  count := Nat.succ_le_succ h.count
  each i x hx := by
    cases i with
    | zero =>
      obtain rfl : g.cutAt base p r = x := by simpa using hx
      refine ⟨by simp [Segment.cutAt], ?_, g.cutAt_liesIn l base p r hb hp⟩
      simp only [Segment.cutAt]
      omega
    | succ i =>
      obtain ⟨window, pos, lies⟩ := h.each i x (by simpa using hx)
      have left : r - min r (base + g.length - p) ≠ 0 := by
        intro none
        have hs := h.sum
        rw [none, List.sum_eq_zero_iff] at hs
        have := hs x.length (List.mem_map_of_mem (List.mem_of_getElem? (by simpa using hx)))
        omega
      have stop : base + g.length + (r - min r (base + g.length - p)) = p + r := by omega
      refine ⟨?_, pos, (stop ▸ lies).cons g⟩
      simp only [List.take_succ_cons, List.map_cons, List.sum_cons, Segment.cutAt, window]
      omega

theorem cutFrom_cuts (hb : base ≤ p) (hr : p + r ≤ base + (l.map Segment.length).sum) :
    Cuts l base p r (cutFrom l base p r) := by
  induction l generalizing base p r with
  | nil =>
    obtain rfl : r = 0 := by simp at hr; omega
    exact .nil [] base p
  | cons g l ih =>
    simp only [List.map_cons, List.sum_cons] at hr
    by_cases h0 : r = 0
    · subst h0
      rw [cutFrom_none]
      exact .nil _ base p
    · by_cases hp : p < base + g.length
      · rw [cutFrom_inside g l base p r h0 hp]
        exact .inside g h0 hb hp (ih _ _ _ le_rfl (by omega))
      · rw [cutFrom_beyond g l base p r (by omega)]
        exact .beyond g (ih _ _ _ (by omega) (by omega))

/-! ### O25 -/

/-- A FETCH, a STORE or a PROBE run stays within the blocks of its piece. -/
theorem Job.command_touches {j : Job} {k : Nat} (hd : j.done ≤ j.length)
    (hw : j.kind = .write → j.data.length = j.length) (ht : DriveCmd.touches j.command k) :
    j.start ≤ k ∧ k < j.start + j.length := by
  cases hk : j.kind with
  | read => simpa only [Job.command, hk, DriveCmd.touches] using ht
  | write => simpa only [Job.command, hk, DriveCmd.touches, hw hk] using ht
  | check =>
    simp only [Job.command, hk, DriveCmd.touches] at ht
    omega

/-- Settles O25: by induction on the segments, each of which the range begins behind or inside. -/
theorem windowCut : Obligations.WindowCut := by
  refine ⟨fun v o c h => ?_, fun _ _ _ => rfl, fun _ _ => Job.command_touches⟩
  obtain ⟨sum, count, each⟩ := cutFrom_cuts v.segments 0 o c (Nat.zero_le o) (by simpa [Volume.window] using h)
  refine ⟨sum, count, fun i x hx => ?_⟩
  obtain ⟨window, pos, lies⟩ := each i x hx
  exact ⟨window, pos, by simpa only [Cut.LiesIn, Nat.zero_add] using lies⟩

end Sys2Proof
end

section
/-! SUPPORT. READ, WRITE and CHECK as the request unit takes them (R51, R55 to R60): O23 and O24. -/

namespace Sys2Proof.Machine

variable (s : State)

/-! ### The frame -/

/-- A block request frame is taken with the classifier free again (R55). -/
theorem State.exec_request {k : ReqKind} {n : Nat} {p : Port} {h : Header} {data : List Byte}
    (hf : s.requestFrame k.code = some (n, p, h, data)) :
    exec (requestCommand k) s = .next (s.freeClassifier.takeRequest k n p h data) := by
  cases k
  · have hf : s.requestFrame 0x10 = some (n, p, h, data) := hf
    simp only [requestCommand, exec, execRead, hf]
  · have hf : s.requestFrame 0x11 = some (n, p, h, data) := hf
    simp only [requestCommand, exec, execWrite, hf]
  · have hf : s.requestFrame 0x12 = some (n, p, h, data) := hf
    simp only [requestCommand, exec, execCheck, hf]

/-- While a claim is in flight the request unit takes no frame (R56). -/
theorem State.requestFrame_none (ha : s.ru.admitting ≠ none) (kind : Byte) :
    s.requestFrame kind = none := by
  cases h : s.ru.admitting with
  | none => exact absurd h ha
  | some a => simp only [State.requestFrame, h]

theorem State.exec_request_waits (ha : s.ru.admitting ≠ none) (k : ReqKind) :
    exec (requestCommand k) s = .next s := by
  cases k
  · simp only [requestCommand, exec, execRead, s.requestFrame_none ha]
  · simp only [requestCommand, exec, execWrite, s.requestFrame_none ha]
  · simp only [requestCommand, exec, execCheck, s.requestFrame_none ha]

theorem State.exec_abort_waits (ha : s.ru.admitting ≠ none) : exec .abort s = .next s := by
  simp only [exec, execAbort, s.requestFrame_none ha]

section Frame
variable {s} {k : ReqKind} {n : Nat} {p : Port} {h : Header} {data : List Byte} {e : Node}

/-! ### A request that passes every check -/

theorem State.exec_request_presented {l : Loan} {v : Volume}
    (hf : s.requestFrame k.code = some (n, p, h, data)) (he : s.node? n = some e)
    (hl : s.checkLoan n e k h = .inr (l, v))
    (hp : s.checkPieces v (admittingOf n p k h data l v).cuts = none) :
    exec (requestCommand k) s = .next { s.freeClassifier with
      ru := { s.ru with admitting := some (admittingOf n p k h data l v) },
      mail := { s.mail with claim := some { handle := h.handle, node := n } } } := by
  have he' : s.freeClassifier.node? n = some e := he
  have hl' : s.freeClassifier.checkLoan n e k h = .inr (l, v) := hl
  have hp' : s.freeClassifier.checkPieces v (admittingOf n p k h data l v).cuts = none := hp
  simp only [s.exec_request hf, State.takeRequest, he', hl', hp']
  rfl

/-! ### The count of R51 -/

theorem requestedCount_read (field left : Nat) (toEnd : Bool) :
    requestedCount .read field toEnd left =
      (if field = 0 then 256 else min 256 field, decide (256 < field)) := by
  simp only [requestedCount]
  split
  · simp [*]
  · split
    · rw [Nat.min_eq_right (by assumption), decide_eq_false (by omega)]
    · rw [Nat.min_eq_left (by omega), decide_eq_true (by omega)]

theorem requestedCount_check_toEnd (field left : Nat) :
    requestedCount .check field true left = (min left 4294967295, false) := rfl

theorem requestedCount_check (field left : Nat) :
    requestedCount .check field false left = (if field = 0 then 65536 else field, false) := by
  simp only [requestedCount, Bool.false_eq_true, if_false]
  split <;> rfl

/-- Only the count of a READ is clamped (R51). -/
theorem requestedCount_clamped_iff (field left : Nat) (toEnd : Bool) :
    (requestedCount k field toEnd left).2 = true ↔ k = .read ∧ 256 < field := by
  cases k with
  | read => simp [requestedCount_read]
  | write => simp [requestedCount]
  | check => cases toEnd <;> simp [requestedCount_check_toEnd, requestedCount_check]

end Frame

/-- Settles O23: the request presented is the record that `admittingOf` builds, whose count is that of R51. -/
theorem requestPresented : Obligations.RequestPresented := by
  intro s k
  refine ⟨fun n p h data e l v hf he hl hp => ?_,
    fun ha => ⟨s.exec_request_waits ha k, s.exec_abort_waits ha⟩⟩
  refine ⟨_, admittingOf n p k h data l v, State.exec_request_presented hf he hl hp, ?_, rfl, rfl, rfl, rfl,
    rfl, rfl, rfl, rfl, rfl, rfl, rfl, rfl, ?_, ?_, ?_, ?_, rfl, ?_, rfl⟩
  · intro a ha
    cases a <;> simp at ha <;> rfl
  · rintro rfl
    simp [admittingOf, requestedCount_read, BitVec.toNat_eq]
  · rintro rfl
    exact ⟨rfl, rfl⟩
  · rintro rfl toEnd
    simp only [admittingOf, toEnd, Bool.and_true, beq_self_eq_true, requestedCount_check_toEnd]
  · rintro rfl toEnd
    simp [admittingOf, toEnd, requestedCount_check, BitVec.toNat_eq]
  · simp only [admittingOf, Bool.or_eq_true, decide_eq_true_eq, requestedCount_clamped_iff]

/-! ### The checks (R55) -/

section Refused
variable {s} {k : ReqKind} {n : Nat} {p : Port} {h : Header} {data : List Byte} {e : Node} {c : Code}

/-- A request refused with a code (R58). -/
def State.Refuses (s : State) (k : ReqKind) (p : Port) (h : Header) (e : Node) (c : Code) : Prop :=
  exec (requestCommand k) s = .next (s.freeClassifier.place p (OutFrame.build e.addr
    { Header.blank with kind := 0x22, subcode := k.code, tag := h.tag, handle := h.handle, code := c.value }
    (.bytes [])))

variable (hf : s.requestFrame k.code = some (n, p, h, data)) (he : s.node? n = some e)
include hf he

theorem State.refuses_of_checkLoan (hc : s.checkLoan n e k h = .inl c) : s.Refuses k p h e c := by
  have he' : s.freeClassifier.node? n = some e := he
  have hc' : s.freeClassifier.checkLoan n e k h = .inl c := hc
  simp only [State.Refuses, s.exec_request hf, State.takeRequest, he', hc', State.refuse, State.nodeAddr]
  rfl

theorem State.refuses_of_checkPieces {l : Loan} {v : Volume} (hl : s.checkLoan n e k h = .inr (l, v))
    (hc : s.checkPieces v (admittingOf n p k h data l v).cuts = some c) : s.Refuses k p h e c := by
  have he' : s.freeClassifier.node? n = some e := he
  have hl' : s.freeClassifier.checkLoan n e k h = .inr (l, v) := hl
  have hc' : s.freeClassifier.checkPieces v (admittingOf n p k h data l v).cuts = some c := hc
  simp only [State.Refuses, s.exec_request hf, State.takeRequest, he', hl', hc', State.refuse,
    State.nodeAddr]
  rfl

end Refused

section Checks
variable {s} {k : ReqKind} {n : Nat} {h : Header} {e : Node}

theorem State.checkLoan_draining (hd : e.state = .draining ∨ e.state = .drained) :
    s.checkLoan n e k h = .inl .draining := by
  rw [State.checkLoan, if_pos hd]

variable (hd : ¬(e.state = .draining ∨ e.state = .drained))
include hd

theorem State.checkLoan_tagInUse (ht : h.tag ∈ e.tags) : s.checkLoan n e k h = .inl .tagInUse := by
  rw [State.checkLoan, if_neg hd, if_pos (by simpa using ht)]

variable (ht : h.tag ∉ e.tags)
include ht

theorem State.checkLoan_busy (hr : s.ru.requests.lowestFree 512 = none) :
    s.checkLoan n e k h = .inl .busy := by
  rw [State.checkLoan, if_neg hd, if_neg (by simpa using ht), if_pos (by simp [hr])]

variable {r : Nat} (hr : s.ru.requests.lowestFree 512 = some r)
include hr

theorem State.checkLoan_noSuchLoan (hl : s.loanOf h.handle n = none) :
    s.checkLoan n e k h = .inl .noSuchLoan := by
  rw [State.checkLoan, if_neg hd, if_neg (by simpa using ht), if_neg (by simp [hr])]
  simp only [hl]

variable {l : Loan} (hl : s.loanOf h.handle n = some l)
include hl

theorem State.checkLoan_loanEnding (hs : l.state.isEnding = true) :
    s.checkLoan n e k h = .inl .loanEnding := by
  rw [State.checkLoan, if_neg hd, if_neg (by simpa using ht), if_neg (by simp [hr])]
  simp only [hl, hs, if_true]

variable (hs : l.state.isEnding = false)
include hs

theorem State.checkLoan_notPermitted (hm : k = .write ∧ l.mode = .read) :
    s.checkLoan n e k h = .inl .notPermitted := by
  rw [State.checkLoan, if_neg hd, if_neg (by simpa using ht), if_neg (by simp [hr])]
  simp only [hl, hs, Bool.false_eq_true, if_false, if_pos hm]

/-- Checks 1 to 6 passed leave check 7, of the offset against the window. -/
theorem State.checkLoan_window (hm : ¬(k = .write ∧ l.mode = .read)) {v : Volume}
    (hv : s.volume? l.volume = some v) : s.checkLoan n e k h =
      if v.window ≤ h.offset.toNat then .inl .outOfWindow else .inr (l, v) := by
  rw [State.checkLoan, if_neg hd, if_neg (by simpa using ht), if_neg (by simp [hr])]
  simp only [hl, hs, Bool.false_eq_true, if_false, if_neg hm, hv]

end Checks

section Pieces
variable {s} {v : Volume} {cuts : List Cut}

theorem State.checkPieces_diskUnavailable (hc : ∃ c ∈ cuts, s.cutServed v c = false) :
    s.checkPieces v cuts = some .diskUnavailable := by
  rw [State.checkPieces, if_pos (by simpa using hc)]

variable (hc : ∀ c ∈ cuts, s.cutServed v c = true)
include hc

theorem State.checkPieces_asleep (hw : v.wake = false)
    (ha : ∃ c ∈ cuts, (s.unit c.bay).state.asleep = true) : s.checkPieces v cuts = some .asleep := by
  rw [State.checkPieces, if_neg (by simpa using hc), if_pos (by simpa [hw] using ha)]

theorem State.checkPieces_busy (ha : v.wake = true ∨ ∀ c ∈ cuts, (s.unit c.bay).state.asleep = false)
    (hr : s.hasRoomFor cuts = false) : s.checkPieces v cuts = some .busy := by
  have awake : ¬(!v.wake && cuts.any fun c => (s.unit c.bay).state.asleep) = true := by
    rcases ha with ha | ha
    · simp [ha]
    · simp only [Bool.and_eq_true, List.any_eq_true, not_and, not_exists]
      intro _ c hc
      simp [ha c hc]
  rw [State.checkPieces, if_neg (by simpa using hc), if_neg awake, if_pos (by simp [hr])]

end Pieces

/-- Settles O24: each refusal is the first check that fails, those before it having passed. -/
theorem requestRefused : Obligations.RequestRefused := by
  intro s k n p h data e hf he
  refine ⟨fun hd => State.refuses_of_checkLoan hf he (State.checkLoan_draining hd), fun h1 h2 => ?_⟩
  have hd : ¬(e.state = .draining ∨ e.state = .drained) := not_or.2 ⟨h1, h2⟩
  refine ⟨fun ht => State.refuses_of_checkLoan hf he (State.checkLoan_tagInUse hd ht), fun ht =>
    ⟨fun hr => State.refuses_of_checkLoan hf he (State.checkLoan_busy hd ht hr), fun r hr =>
      ⟨fun hl => State.refuses_of_checkLoan hf he (State.checkLoan_noSuchLoan hd ht hr hl), fun l hl =>
        ⟨fun hs => State.refuses_of_checkLoan hf he (State.checkLoan_loanEnding hd ht hr hl hs), fun hs =>
          ⟨fun hk hm => State.refuses_of_checkLoan hf he
            (State.checkLoan_notPermitted hd ht hr hl hs ⟨hk, hm⟩), fun hm v hv => ?_⟩⟩⟩⟩⟩
  have window := State.checkLoan_window hd ht hr hl hs hm hv
  refine ⟨fun out => State.refuses_of_checkLoan hf he (window.trans (if_pos out)), fun inside => ?_⟩
  have passed := window.trans (if_neg (Nat.not_le.2 inside))
  rintro cuts rfl
  exact ⟨fun hc => State.refuses_of_checkPieces hf he passed (State.checkPieces_diskUnavailable hc), fun hc =>
    ⟨fun hw ha => State.refuses_of_checkPieces hf he passed (State.checkPieces_asleep hc hw ha),
      fun ha hr => State.refuses_of_checkPieces hf he passed (State.checkPieces_busy hc ha hr)⟩⟩

end Sys2Proof.Machine
end

section
/-! SUPPORT. What the request unit sends to the drive units when it ends requests (R69, R73, R77 to R79):
withdrawals of QUEUED pieces and staging buffers given back, with O27, O31 and O32. -/

namespace Sys2Proof

variable {α : Type}

/-! ### Every entry of a table rewritten, one after another -/

theorem Tbl.set_between (front back : Tbl α) (i : Nat) (a b : α) (h : ∀ e ∈ front, e.1 < i) :
    Tbl.set (front ++ (i, a) :: back) i b = front ++ (i, b) :: back := by
  induction front with
  | nil => simp [Tbl.set]
  | cons e front ih =>
    obtain ⟨k, c⟩ := e
    have hk : k < i := h (k, c) List.mem_cons_self
    have rest := ih fun e he => h e (List.mem_cons_of_mem _ he)
    simp only [List.cons_append, Tbl.set, if_neg (show ¬i < k by omega), if_neg (show ¬i = k by omega), rest]

theorem Tbl.foldl_set_append (f : α → α) (front back : Tbl α)
    (h : (Tbl.numbers (front ++ back)).Pairwise (· < ·)) :
    back.foldl (fun t e => Tbl.set t e.1 (f e.2)) (front ++ back) = front ++ Tbl.update back f := by
  induction back generalizing front with
  | nil => rfl
  | cons e back ih =>
    obtain ⟨i, a⟩ := e
    have before : ∀ x ∈ front, x.1 < i := by
      simp only [Tbl.numbers, List.map_append, List.pairwise_append] at h
      exact fun x hx => h.2.2 _ (List.mem_map_of_mem hx) _ (by simp)
    have again := ih (front ++ [(i, f a)]) (by simpa [Tbl.numbers] using h)
    simp only [List.append_assoc, List.singleton_append] at again
    rw [List.foldl_cons, Tbl.set_between front back i a _ before, again]
    rfl

/-- Writing over the entries of a table in its one form, in turn, updates the table. -/
theorem Tbl.foldl_set_update (f : α → α) {t : Tbl α} {n : Nat} (h : t.wf n = true) :
    t.foldl (fun u e => Tbl.set u e.1 (f e.2)) t = t.update f := by
  simp only [Tbl.wf, Bool.and_eq_true, decide_eq_true_eq] at h
  exact Tbl.foldl_set_append f [] t h.1

end Sys2Proof

namespace Sys2Proof.Machine

variable (s : State)

/-! ### Messages to the drive units -/

/-- The request unit has sent the messages `ms` to the drive units; no other channel of a bay has changed. -/
def State.Told (s t : State) (ms : Bay → List RuToUnit) : Prop := ∀ c, t.bmail c = s.toldUnit c (ms c)

theorem State.Told.of_bayMail {s t : State} (h : t.bayMail = s.bayMail) : s.Told t fun _ => [] := fun c => by
  simp [State.toldUnit, State.bmail, h]

theorem State.Told.trans {s t u : State} {ms ns : Bay → List RuToUnit} (h : s.Told t ms) (k : t.Told u ns) :
    s.Told u fun c => ms c ++ ns c := fun c => by
  simp only [k c, State.toldUnit, h c, List.append_assoc]

theorem State.Told.congr {s t : State} {ms ns : Bay → List RuToUnit} (h : s.Told t ms) (e : ∀ c, ms c = ns c) :
    s.Told t ns := fun c => by rw [h c, e]

/-- Before the messages, and after them, the channels may be read of any state with the same channels. -/
theorem State.Told.of_same {s s' t t' : State} {ms : Bay → List RuToUnit} (h : s.Told t ms)
    (hs : s'.bayMail = s.bayMail) (ht : t'.bayMail = t.bayMail) : s'.Told t' ms := fun c => by
  simpa only [State.toldUnit, State.bmail, hs, ht] using h c

theorem State.ruSend_told (b : Bay) (m : RuToUnit) :
    s.Told (s.ruSend b m) fun c => if b = c then [m] else [] := fun c => by
  by_cases hc : b = c
  · subst hc
    simp [State.ruSend, State.toldUnit]
  · simp [State.ruSend, State.toldUnit, hc, State.setBmail_bmail_ne _ _ _ _ (Ne.symm hc)]

/-! ### Withdrawals (R69) -/

/-- The withdrawal that a piece record on bay `c` is sent, if it holds a QUEUED piece. -/
def State.withdrawalOf (s : State) (reason : FailReason) (c : Bay) (n : Nat) : Option RuToUnit :=
  match s.piece? n with
  | some pc =>
    if pc.state = .queued ∧ pc.bay = c then some (.withdraw { num := n, serial := pc.serial } reason) else none
  | none => none

theorem State.withdrawals_eq (q : Request) (reason : FailReason) (c : Bay) :
    s.withdrawals q reason c = q.pieces.filterMap (s.withdrawalOf reason c) := rfl

/-- One piece of a request that is withdrawn from the drive units (R69). -/
def State.withdrawOne (s : State) (reason : FailReason) (n : Nat) : State :=
  match s.piece? n with
  | some pc =>
    if pc.state = .queued then s.ruSend pc.bay (.withdraw { num := n, serial := pc.serial } reason) else s
  | none => s

theorem State.withdrawQueued_eq (q : Request) (reason : FailReason) :
    s.withdrawQueued q reason = q.pieces.foldl (fun t n => t.withdrawOne reason n) s := rfl

theorem State.withdrawOne_told (reason : FailReason) (n : Nat) :
    s.Told (s.withdrawOne reason n) fun c => (s.withdrawalOf reason c n).toList := by
  unfold State.withdrawOne State.withdrawalOf
  split
  · rename_i pc _
    by_cases hq : pc.state = .queued
    · rw [if_pos hq]
      refine (s.ruSend_told pc.bay _).congr fun c => ?_
      by_cases hc : pc.bay = c <;> simp [hq, hc]
    · simp only [hq, if_false, false_and, Option.toList_none]
      exact .of_bayMail rfl
  · exact .of_bayMail rfl

theorem State.withdrawOne_ru (reason : FailReason) (n : Nat) : (s.withdrawOne reason n).ru = s.ru := by
  unfold State.withdrawOne
  split
  · split <;> rfl
  · rfl

theorem State.withdrawQueued_ru (q : Request) (reason : FailReason) : (s.withdrawQueued q reason).ru = s.ru :=
  s.withdrawQueued_unchanged q reason .ru (by simp)

/-- Which pieces are withdrawn is read of the piece table alone. -/
theorem State.withdrawalOf_congr {s t : State} (h : t.ru.pieces = s.ru.pieces) :
    t.withdrawalOf = s.withdrawalOf := by
  funext reason c n
  simp only [State.withdrawalOf, State.piece?, h]

theorem State.withdrawOne_foldl_told (reason : FailReason) (l : List Nat) :
    s.Told (l.foldl (fun t n => t.withdrawOne reason n) s) fun c => l.filterMap (s.withdrawalOf reason c) := by
  induction l generalizing s with
  | nil => exact .of_bayMail rfl
  | cons n l ih =>
    refine ((s.withdrawOne_told reason n).trans (ih _)).congr fun c => ?_
    rw [State.withdrawalOf_congr (congrArg RequestUnit.pieces (s.withdrawOne_ru reason n))]
    cases h : s.withdrawalOf reason c n <;> simp [h]

theorem State.withdrawQueued_told (q : Request) (reason : FailReason) :
    s.Told (s.withdrawQueued q reason) (s.withdrawals q reason) := by
  rw [State.withdrawQueued_eq]
  exact (s.withdrawOne_foldl_told reason q.pieces).congr fun c => (s.withdrawals_eq q reason c).symm

/-- A request is written and its QUEUED pieces withdrawn, as every end cause does (R69, R73, R77, R79). -/
theorem State.withdrawRequest_told (r : Nat) {q q' : Request} (hq : q'.pieces = q.pieces)
    (reason : FailReason) : s.Told ((s.setRequest r q').withdrawQueued q' reason) (s.withdrawals q reason) := by
  refine ((State.withdrawQueued_told (s.setRequest r q') q' reason).of_same rfl rfl).congr fun c => ?_
  rw [State.withdrawals_eq, State.withdrawals_eq, hq]
  rfl

theorem ReqState.abort_eq (st : ReqState) (c : EndCause) : st.abort c = endedBy st c := by
  cases st <;> rfl

/-! ### ABORT (R77, R78) -/

section Abort
variable {s} {n : Nat} {p : Port} {h : Header} {data : List Byte}

theorem State.exec_abort (hf : s.requestFrame 0x13 = some (n, p, h, data)) :
    exec .abort s = .next (s.freeClassifier.abortTag n p h) := by
  simp only [exec, execAbort, hf]

theorem State.abortTag_found {r : Nat} {q : Request} (hq : s.requestByTag n h.tag = some (r, q))
    (live : q.state = .queued ∨ q.state = .running) : s.abortTag n p h =
      (s.setRequest r { q with state := .aborting .aborted }).withdrawQueued
        { q with state := .aborting .aborted } .aborted := by
  rcases live with live | live <;> simp only [State.abortTag, hq, live]

end Abort

/-- Settles O27: the outstanding request of the tag, and then its state, decide what an ABORT does. -/
theorem abort : Obligations.Abort := by
  intro s n p h data hf
  refine ⟨fun none => ?_, fun r q c found ended => ?_, fun r q found live => ?_⟩
  · have none : s.freeClassifier.requestByTag n h.tag = .none := none
    simp only [State.exec_abort hf, State.abortTag, none]
    rfl
  · have found : s.freeClassifier.requestByTag n h.tag = some (r, q) := found
    simp only [State.exec_abort hf, State.abortTag, found, ended]
  · have found : s.freeClassifier.requestByTag n h.tag = some (r, q) := found
    have parts : UnchangedBut [.cls, .ru, .bayMail] s _ :=
      ((s.freeClassifier_unchanged).mono (by simp)).trans
        (((s.freeClassifier.setRequest_unchanged r { q with state := .aborting .aborted }).mono (by simp)).trans
          ((State.withdrawQueued_unchanged _ { q with state := .aborting .aborted } .aborted).mono (by simp)))
    refine ⟨_, by rw [State.exec_abort hf, State.abortTag_found found live], parts, ?_, ?_, ?_⟩
    · exact State.withdrawQueued_unchanged _ _ _ .cls (by simp)
    · exact State.withdrawQueued_ru _ _ _
    · exact (s.freeClassifier.withdrawRequest_told r (q := q) (q' := { q with state := .aborting .aborted }) rfl
        .aborted).of_same rfl rfl

/-! ### The request unit's share of a soft reset (R79) -/

/-- A request as a soft reset leaves it. -/
def Request.resetBy (q : Request) : Request := { q with state := endedBy q.state .reset }

theorem State.resetRequest_eq {r : Nat} {q : Request} (hq : s.request? r = some q) :
    s.resetRequest r = (s.setRequest r (Request.resetBy q)).withdrawQueued (Request.resetBy q) .reset := by
  simp only [State.resetRequest, hq, ReqState.abort_eq, Request.resetBy]

/-- The requests of a list of records are reset in turn: what they are sent, and what is written. -/
theorem State.resetRequest_foldl (l : Tbl Request) (distinct : l.numbers.Nodup)
    (hl : ∀ e ∈ l, s.request? e.1 = some e.2) :
    s.Told (l.numbers.foldl State.resetRequest s) (fun c => l.flatMap fun e => s.withdrawals e.2 .reset c) ∧
    (l.numbers.foldl State.resetRequest s).ru = { s.ru with
      requests := l.foldl (fun t e => t.set e.1 (Request.resetBy e.2)) s.ru.requests } := by
  induction l generalizing s with
  | nil => exact ⟨.of_bayMail rfl, rfl⟩
  | cons e l ih =>
    obtain ⟨r, q⟩ := e
    have hd : r ∉ Tbl.numbers l ∧ (Tbl.numbers l).Nodup := List.nodup_cons.1 distinct
    have first := s.resetRequest_eq (hl (r, q) List.mem_cons_self)
    have ru : (s.resetRequest r).ru = { s.ru with requests := s.ru.requests.set r (Request.resetBy q) } := by
      rw [first, State.withdrawQueued_ru]
      rfl
    obtain ⟨told, written⟩ := ih (s.resetRequest r) hd.2 fun e he => by
      have ne : e.1 ≠ r := fun h => hd.1 (h ▸ List.mem_map_of_mem (f := Prod.fst) he)
      rw [State.request?, ru]
      exact (Tbl.get_set_ne _ _ _ _ ne).trans (hl e (List.mem_cons_of_mem _ he))
    have sent : s.Told (s.resetRequest r) (s.withdrawals q .reset) :=
      first ▸ s.withdrawRequest_told r rfl .reset
    refine ⟨(sent.trans told).congr fun c => ?_, written.trans (by rw [ru]; rfl)⟩
    simp only [State.withdrawals_eq, State.withdrawalOf_congr (s := s) (t := s.resetRequest r) (by rw [ru]),
      List.flatMap_cons]

/-- What the share does where the table is not empty. -/
theorem State.resetRequests_spec (used : s.ru.requests ≠ []) (wf : s.ru.requests.wf 512 = true) :
    UnchangedBut [.ru, .bayMail] s s.resetRequests ∧
    s.resetRequests.ru = { s.ru with
      requests := s.ru.requests.update Request.resetBy, resetShare := some s.ru.requests.numbers } ∧
    s.Told s.resetRequests fun c => s.ru.requests.flatMap fun e => s.withdrawals e.2 .reset c := by
  obtain ⟨told, written⟩ := s.resetRequest_foldl s.ru.requests (Tbl.nodup_of_wf wf)
    fun e he => Tbl.get_of_mem (Tbl.nodup_of_wf wf) he
  have parts : UnchangedBut [.ru, .bayMail] s (s.ru.requests.numbers.foldl State.resetRequest s) :=
    .foldl _ (fun t r => t.resetRequest_unchanged r) _ _
  have some : s.ru.requests.numbers.isEmpty = false := by simpa [Tbl.numbers] using used
  simp only [State.resetRequests, some, Bool.false_eq_true, if_false]
  refine ⟨parts.trans ((State.setRu_unchanged _ _).mono (by simp)), ?_, told⟩
  rw [written, Tbl.foldl_set_update Request.resetBy wf]

/-- Settles O32: the requests of the table are reset one after another, which leaves the pieces as they are. -/
theorem requestUnitReset : Obligations.RequestUnitReset := by
  intro s asked
  refine ⟨fun busy => ?_, fun free empty channels => ?_, fun free used wf => ?_⟩
  · simp only [exec, execRequestUnitReset, busy, and_false, if_false]
  · have settled : settle (s.mail.ruToAgent ++ [.resetFinished]) _ = _ :=
      settle_resetFinished { s with mail := { s.mail with resetRu := false } } _ channels.2.1
    simp [exec, execRequestUnitReset, asked, free, State.resetRequests, empty, Tbl.numbers, State.ruTellAgent,
      settled]
  · obtain ⟨parts, ru, told⟩ :=
      State.resetRequests_spec { s with mail := { s.mail with resetRu := false } } used wf
    refine ⟨_, ?_, ((s.setMail_unchanged _).mono (by simp)).trans (parts.mono (by simp)),
      parts .mail (by simp), ru, told⟩
    simp only [exec, execRequestUnitReset, asked, free, and_self, if_true]

/-! ### Staging buffers given back (R73) -/

/-- The message that gives back the staging buffer of a STAGED piece on bay `c`. -/
def State.discardOf (s : State) (c : Bay) (n : Nat) : Option RuToUnit :=
  match s.piece? n with
  | some pc =>
    if Piece.isStaged pc ∧ pc.bay = c then some (.emptied { num := n, serial := pc.serial }) else none
  | none => none

theorem State.discards_eq (q : Request) (c : Bay) : s.discards q c = q.pieces.filterMap (s.discardOf c) := rfl

/-- A piece of an overrun request after the STAGED ones have been discarded. -/
def Piece.discarded (l : List Nat) (m : Nat) (x : Piece) : Piece :=
  if m ∈ l ∧ Piece.isStaged x = true then { x with state := .failed .overrun } else x

/-- The STAGED pieces of the records `l` have been discarded from the delivery list of port `p`. -/
structure State.Discarded (s t : State) (p : Port) (l : List Nat) : Prop where
  parts : UnchangedBut [.ru, .bayMail] s t
  ru : t.ru = { s.ru with pieces := t.ru.pieces, delivery := t.ru.delivery }
  piece : ∀ m, t.piece? m = (s.piece? m).map (Piece.discarded l m)
  list : t.delivery p = (s.delivery p).filter fun m => !(l.contains m && (s.piece? m).any Piece.isStaged)
  lists : ∀ j, j ≠ p → t.delivery j = s.delivery j
  told : s.Told t fun c => l.filterMap (s.discardOf c)

theorem Piece.discarded_none (m : Nat) : Piece.discarded [] m = id := by
  funext x
  simp [Piece.discarded]

theorem State.Discarded.nil (p : Port) : s.Discarded s p [] :=
  ⟨.refl _ s, rfl, fun m => by simp [Piece.discarded_none], by simp, fun _ _ => rfl, .of_bayMail rfl⟩

theorem State.discardStaged_of_staged {p : Port} {n : Nat} {pc : Piece} (hn : s.piece? n = some pc)
    (hs : Piece.isStaged pc = true) : s.discardStaged p n =
      ((s.setPiece n { pc with state := .failed .overrun }).leaveDelivery p n).ruSend pc.bay
        (.emptied { num := n, serial := pc.serial }) := by
  cases hst : pc.state <;> simp [Piece.isStaged, hst] at hs
  simp only [State.discardStaged, hn, hst]

theorem State.discardStaged_of_not {p : Port} {n : Nat} (hs : (s.piece? n).any Piece.isStaged = false) :
    s.discardStaged p n = s := by
  cases hn : s.piece? n with
  | none => simp only [State.discardStaged, hn]
  | some pc =>
    cases hst : pc.state <;> simp [Piece.isStaged, hn, hst] at hs <;> simp only [State.discardStaged, hn, hst]

theorem State.leaveDelivery_piece (p : Port) (n m : Nat) : (s.leaveDelivery p n).piece? m = s.piece? m := rfl

theorem State.discardStaged_discarded (p : Port) (n : Nat) : s.Discarded (s.discardStaged p n) p [n] := by
  cases hs : (s.piece? n).any Piece.isStaged with
  | false =>
    have other (m : Nat) (x : Piece) (hx : s.piece? m = some x) : ¬(m = n ∧ Piece.isStaged x = true) := by
      rintro ⟨rfl, hst⟩
      simp [hx, hst] at hs
    rw [s.discardStaged_of_not hs]
    refine ⟨.refl _ s, rfl, fun m => ?_, ?_, fun _ _ => rfl, ?_⟩
    · cases hx : s.piece? m with
      | none => rfl
      | some x => simp [Piece.discarded, other m x hx]
    · refine (List.filter_eq_self.2 fun m _ => ?_).symm
      by_cases hm : m = n <;> simp [hm, hs]
    · refine (State.Told.of_bayMail rfl).congr fun c => ?_
      cases hx : s.piece? n with
      | none => simp [State.discardOf, hx]
      | some x => simp [State.discardOf, hx, show Piece.isStaged x = false by simpa [hx] using hs]
  | true =>
    obtain ⟨pc, hn, hst⟩ : ∃ pc, s.piece? n = some pc ∧ Piece.isStaged pc = true := by
      simpa [Option.any_eq_true] using hs
    rw [s.discardStaged_of_staged hn hst]
    refine ⟨?_, rfl, fun m => ?_, ?_, fun j hj => ?_, ?_⟩
    · exact (((s.setPiece_unchanged n _).mono (by simp)).trans
        ((State.leaveDelivery_unchanged _ p n).mono (by simp))).trans
        ((State.ruSend_unchanged _ _ _).mono (by simp))
    · by_cases hm : m = n
      · subst hm
        simp [State.ruSend, State.leaveDelivery_piece, hn, Piece.discarded, hst]
      · simp only [State.ruSend, State.setBmail_piece, State.leaveDelivery_piece,
          State.setPiece_piece_ne _ _ _ _ hm]
        cases s.piece? m <;> simp [Piece.discarded, hm]
    · simp only [State.ruSend, State.setBmail_delivery, State.leaveDelivery, State.setDelivery_delivery_self,
        State.setPiece_delivery]
      refine List.filter_congr fun m _ => ?_
      by_cases hm : m = n <;> simp [hm, hs]
    · simp [State.ruSend, State.leaveDelivery, State.setDelivery_delivery_ne _ _ _ _ hj]
    · refine ((State.ruSend_told _ pc.bay _).of_same rfl rfl).congr fun c => ?_
      by_cases hc : pc.bay = c <;> simp [State.discardOf, hn, hst, hc]

theorem State.Discarded.piece_other {s t : State} {p : Port} {l : List Nat} (h : s.Discarded t p l) {m : Nat}
    (hm : m ∉ l) : t.piece? m = s.piece? m := by
  rw [h.piece]
  cases s.piece? m <;> simp [Piece.discarded, hm]

/-- Discarding goes on with other records. -/
theorem State.Discarded.trans {s t u : State} {p : Port} {l k : List Nat} (h : s.Discarded t p l)
    (h' : t.Discarded u p k) (disjoint : ∀ m ∈ k, m ∉ l) : s.Discarded u p (l ++ k) where
  parts := h.parts.trans h'.parts
  ru := by rw [h'.ru, h.ru]
  piece m := by
    rw [h'.piece, h.piece, Option.map_map]
    congr 1
    funext x
    by_cases hl : m ∈ l
    · have hk : m ∉ k := fun hk => disjoint m hk hl
      simp [Piece.discarded, hl, hk]
    · simp [Piece.discarded, hl]
  list := by
    rw [h'.list, h.list, List.filter_filter]
    refine List.filter_congr fun m _ => ?_
    by_cases hl : m ∈ l
    · have hk : m ∉ k := fun hk => disjoint m hk hl
      simp [hl, hk]
    · simp [hl, h.piece_other hl]
  lists j hj := (h'.lists j hj).trans (h.lists j hj)
  told := (h.told.trans h'.told).congr fun c => by
    rw [List.filterMap_append]
    congr 1
    refine List.filterMap_congr fun m hm => ?_
    simp only [State.discardOf, h.piece_other (disjoint m hm)]

theorem State.discardStaged_foldl (p : Port) (l : List Nat) (distinct : l.Nodup) :
    s.Discarded (l.foldl (fun t n => t.discardStaged p n) s) p l := by
  induction l generalizing s with
  | nil => exact .nil s p
  | cons n l ih =>
    obtain ⟨hn, hl⟩ := List.nodup_cons.1 distinct
    exact (s.discardStaged_discarded p n).trans (ih _ hl) fun m hm => by
      rw [List.mem_singleton]
      exact fun e => hn (e ▸ hm)

/-- A discarded piece was not QUEUED, and keeps its place and serial number. -/
theorem State.Discarded.withdrawalOf {s t : State} {p : Port} {l : List Nat} (h : s.Discarded t p l) :
    t.withdrawalOf = s.withdrawalOf := by
  funext reason c m
  simp only [State.withdrawalOf, h.piece]
  cases s.piece? m with
  | none => rfl
  | some x =>
    by_cases hx : m ∈ l ∧ Piece.isStaged x = true
    · have not : x.state ≠ .queued := fun e => by simp [Piece.isStaged, e] at hx
      simp [Piece.discarded, hx, not]
    · simp [Piece.discarded, hx]

/-! ### DELIVERY_TIMER_EXPIRY (R72, R73) -/

section Expiry
variable {s} {n : Nat} {pc : Piece} {q : Request} {k : Nat} {md : Bool} {d : Nat}
  (hn : s.piece? n = some pc) (hs : pc.state = .staged k md d) (hq : s.request? pc.request = some q)
include hn hs hq

theorem State.exec_deliveryTimer_early (early : s.now < d) : exec (.deliveryTimerExpiry n) s = .next s := by
  simp only [exec, execDeliveryTimerExpiry, hn, hs, hq, if_neg (Nat.not_le.2 early)]

theorem State.exec_deliveryTimer_due (late : d ≤ s.now) :
    exec (.deliveryTimerExpiry n) s = .next (s.overrunRequest pc.request q) := by
  simp only [exec, execDeliveryTimerExpiry, hn, hs, hq, if_pos late]

end Expiry

/-- A request as its delivery timer leaves it. -/
def Request.overrunBy (q : Request) : Request := { q with state := endedBy q.state .overrun, overrun := true }

/-- The state in which an overrun request is looked at for its end: its STAGED pieces are discarded, and its
QUEUED ones then withdrawn. -/
def State.overrunState (s : State) (r : Nat) (q : Request) : State :=
  (q.pieces.foldl (fun t n => t.discardStaged q.port n)
    (s.setRequest r (Request.overrunBy q))).withdrawQueued (Request.overrunBy q) .overrun

theorem State.overrunRequest_eq (r : Nat) (q : Request) :
    s.overrunRequest r q = ((s.overrunState r q).finishIfFinal r).deliver q.port := by
  simp only [State.overrunRequest, ReqState.abort_eq]
  rfl

/-- The discards leave every QUEUED piece as it was, so that the withdrawals are those of the state before. -/
theorem State.overrunState_spec (r : Nat) (q : Request) (distinct : q.pieces.Nodup) :
    ∃ u, (s.setRequest r (Request.overrunBy q)).Discarded u q.port q.pieces ∧
      UnchangedBut [.bayMail] u (s.overrunState r q) ∧
      u.Told (s.overrunState r q) (s.withdrawals q .overrun) := by
  have gone := (s.setRequest r (Request.overrunBy q)).discardStaged_foldl q.port q.pieces distinct
  refine ⟨_, gone, State.withdrawQueued_unchanged _ _ _, (State.withdrawQueued_told _ _ _).congr fun c => ?_⟩
  rw [State.withdrawals_eq, gone.withdrawalOf]
  rfl

/-- Settles O31: an expiry that is due discards the STAGED pieces, withdraws the QUEUED ones, and then looks for
the end of the request and delivers from the list. -/
theorem overrun : Obligations.Overrun := by
  intro s n pc q k md d hn hs hq
  refine ⟨State.exec_deliveryTimer_early hn hs hq, fun late _ distinct => ?_⟩
  obtain ⟨u, gone, rest, withdrawn⟩ := s.overrunState_spec pc.request q distinct
  have ru : (s.overrunState pc.request q).ru = u.ru := rest .ru (by simp)
  have piece (m : Nat) :
      (s.overrunState pc.request q).piece? m = (s.piece? m).map (Piece.discarded q.pieces m) := by
    rw [State.piece?, ru]
    exact gone.piece m
  have requests : (s.overrunState pc.request q).ru.requests =
      (s.setRequest pc.request (Request.overrunBy q)).ru.requests := by
    rw [ru, gone.ru]
  refine ⟨s.overrunState pc.request q, ?_, ?_, fun m x hx => ?_, fun m hm => ?_, ?_, fun i hi => ?_, ?_, ?_,
    fun p hp => ?_, ?_⟩
  · rw [State.exec_deliveryTimer_due hn hs hq late, s.overrunRequest_eq]
  · exact ((s.setRequest_unchanged _ _).mono (by simp)).trans (gone.parts.trans (rest.mono (by simp)))
  · rw [piece, hx]
    rfl
  · rw [piece, hm]
    rfl
  · rw [State.request?, requests]
    exact s.setRequest_request_self _ _
  · rw [State.request?, requests]
    exact s.setRequest_request_ne _ _ _ hi
  · rw [ru, gone.ru]
    rfl
  · rw [State.delivery, ru]
    exact gone.list
  · rw [State.delivery, ru]
    exact gone.lists p hp
  · refine ((gone.told.trans withdrawn).of_same rfl rfl).congr fun c => ?_
    rw [s.discards_eq]
    rfl

end Sys2Proof.Machine
end

section
/-! SUPPORT. CLAIM_ANSWER (R56 to R58): the pieces of an admitted request, its record, and O26. -/

namespace Sys2Proof

variable {α : Type}

/-! ### Room in a table -/

theorem Tbl.length_set_of_free (t : Tbl α) (i : Nat) (a : α) (h : t.get i = none) :
    (t.set i a).length = t.length + 1 := by
  induction t with
  | nil => rfl
  | cons e t ih =>
    obtain ⟨k, b⟩ := e
    have ne : i ≠ k := by
      rintro rfl
      simp [Tbl.get] at h
    simp only [Tbl.get, if_neg ne] at h
    simp only [Tbl.set, if_neg ne]
    split
    · rfl
    · exact congrArg (· + 1) (ih h)

theorem Tbl.used_of_freeFrom_none (t : Tbl α) (fuel i : Nat) (h : t.freeFrom fuel i = none) :
    ∀ k, i ≤ k → k < i + fuel → k ∈ t.numbers := by
  induction fuel generalizing i with
  | zero => intro k _ _; omega
  | succ fuel ih =>
    rw [Tbl.freeFrom] at h
    split at h
    · cases h
    · rename_i used
      intro k hk hlt
      rcases Nat.eq_or_lt_of_le hk with rfl | hlt'
      · obtain ⟨a, ha⟩ : ∃ a, t.get i = some a := by simpa [Option.ne_none_iff_exists'] using used
        exact t.mem_numbers_of_get i a ha
      · exact ih (i + 1) h k hlt' (by omega)

/-- A table with fewer entries than its size has a free one. -/
theorem Tbl.exists_lowestFree (t : Tbl α) {n : Nat} (h : t.length < n) : ∃ j, t.lowestFree n = some j := by
  refine Option.ne_none_iff_exists'.1 fun none => ?_
  have all : List.range n ⊆ t.numbers := fun k hk =>
    t.used_of_freeFrom_none n 0 none k (Nat.zero_le k) (by simpa using hk)
  have := (List.subperm_of_subset List.nodup_range all).length_le
  simp only [List.length_range, Tbl.numbers, List.length_map] at this
  omega

end Sys2Proof

namespace Sys2Proof.Machine

variable (s : State)

/-! ### The pieces of an admitted request (R57 steps 2 and 3) -/

/-- The pieces that a drive unit is given of cuts in the records `ns`, the first cut being number `k` of those
whose serial numbers begin at `serial`. -/
def appendsFor (a : Admitting) (serial k : Nat) (cuts : List Cut) (ns : List Nat) (b : Bay) : List RuToUnit :=
  (((cuts.zip ns).zipIdx k).filter fun x => x.1.1.bay == b).map fun x =>
    RuToUnit.append (appendedJob a x.1.1 x.1.2 (serial + x.2)) x.1.1.identity

theorem appendsFor_cons (a : Admitting) (serial k : Nat) (c : Cut) (cuts : List Cut) (n : Nat) (ns : List Nat)
    (b : Bay) : appendsFor a serial k (c :: cuts) (n :: ns) b =
      (if c.bay = b then [.append (appendedJob a c n (serial + k)) c.identity] else []) ++
        appendsFor a serial (k + 1) cuts ns b := by
  by_cases hb : c.bay = b <;> simp [appendsFor, List.zipIdx_cons, hb]

/-- The cuts of an admitted request have been taken into the piece records `ns`, with serial numbers from
`serial + k` on. -/
structure State.CutsAdmitted (a : Admitting) (r serial k : Nat) (cuts : List Cut) (s t : State)
    (ns : List Nat) : Prop where
  parts : UnchangedBut [.ru, .bayMail] s t
  ru : t.ru = { s.ru with pieces := t.ru.pieces, nextSerial := s.ru.nextSerial + cuts.length }
  count : ns.length = cuts.length
  distinct : ns.Nodup
  fresh : ∀ n ∈ ns, s.piece? n = none ∧ n < 1024
  piece : ∀ (i : Nat) (c : Cut), cuts[i]? = some c →
    ∃ n, ns[i]? = some n ∧ t.piece? n = some (c.piece (serial + (k + i)) r)
  others : ∀ n, n ∉ ns → t.piece? n = s.piece? n
  told : s.Told t (appendsFor a serial k cuts ns)

theorem State.CutsAdmitted.nil (a : Admitting) (r serial k : Nat) : State.CutsAdmitted a r serial k [] s s [] :=
  ⟨.refl _ s, rfl, rfl, .nil, by simp, by simp, fun _ _ => rfl, .of_bayMail rfl⟩

/-- One cut taken: its record, the next serial number, and the message to its bay. -/
def State.takeCut (s : State) (a : Admitting) (r n : Nat) (c : Cut) : State :=
  let t := s.setPiece n (c.piece s.ru.nextSerial r)
  { t with ru := { t.ru with nextSerial := s.ru.nextSerial + 1 } }.ruSend c.bay
    (.append (appendedJob a c n s.ru.nextSerial) c.identity)

theorem State.admitCuts_cons {a : Admitting} {r n : Nat} (c : Cut) (cuts : List Cut) (ns : List Nat)
    (hn : s.ru.pieces.lowestFree 1024 = some n) :
    State.admitCuts a r (c :: cuts) s ns = State.admitCuts a r cuts (s.takeCut a r n c) (ns ++ [n]) := by
  simp only [State.admitCuts, hn]
  rfl

theorem State.CutsAdmitted.cons {s t : State} {a : Admitting} {r serial k n : Nat} {c : Cut} {cuts : List Cut}
    {ns : List Nat} (hs : s.ru.nextSerial = serial + k) (hn : s.ru.pieces.lowestFree 1024 = some n)
    (h : State.CutsAdmitted a r serial (k + 1) cuts (s.takeCut a r n c) t ns) :
    State.CutsAdmitted a r serial k (c :: cuts) s t (n :: ns) := by
  obtain ⟨hlt, free, -⟩ := Tbl.lowestFree_spec _ _ _ hn
  have self : (s.takeCut a r n c).piece? n = some (c.piece s.ru.nextSerial r) := Tbl.get_set_self _ _ _
  have other (m : Nat) (hm : m ≠ n) : (s.takeCut a r n c).piece? m = s.piece? m := Tbl.get_set_ne _ _ _ _ hm
  have new : n ∉ ns := fun hmem => by
    have := (h.fresh n hmem).1
    rw [self] at this
    cases this
  refine ⟨?_, ?_, congrArg (· + 1) h.count, List.nodup_cons.2 ⟨new, h.distinct⟩, ?_, ?_, ?_, ?_⟩
  · exact ((((s.setPiece_unchanged _ _).trans (State.setRu_unchanged _ _)).mono (by simp)).trans
      ((State.ruSend_unchanged _ _ _).mono (by simp))).trans h.parts
  · rw [h.ru]
    simp only [State.takeCut, State.ruSend, State.setBmail_ru, List.length_cons]
    rw [Nat.add_assoc, Nat.add_comm 1]
    rfl
  · intro m hm
    rcases List.mem_cons.1 hm with rfl | hm
    · exact ⟨free, hlt⟩
    · obtain ⟨none, lt⟩ := h.fresh m hm
      exact ⟨other m (fun e => new (e ▸ hm)) ▸ none, lt⟩
  · rintro (_ | i) x hx
    · obtain rfl : c = x := by simpa using hx
      exact ⟨n, rfl, by rw [h.others n new, self, hs]; rfl⟩
    · obtain ⟨m, hm, stored⟩ := h.piece i x (by simpa using hx)
      exact ⟨m, by simpa using hm, by rw [stored, Nat.add_assoc, Nat.add_comm 1]⟩
  · intro m hm
    rw [List.mem_cons, not_or] at hm
    rw [h.others m hm.2, other m hm.1]
  · refine (((State.ruSend_told _ c.bay _).of_same rfl rfl).trans h.told).congr fun b => ?_
    rw [appendsFor_cons, hs]

theorem State.admitCuts_spec (a : Admitting) (r serial k : Nat) (cuts : List Cut) (ms : List Nat)
    (hs : s.ru.nextSerial = serial + k) (wf : s.ru.pieces.wf 1024 = true)
    (room : s.ru.pieces.length + cuts.length ≤ 1024) :
    ∃ t ns, State.admitCuts a r cuts s ms = (t, ms ++ ns) ∧ State.CutsAdmitted a r serial k cuts s t ns := by
  induction cuts generalizing s k ms with
  | nil => exact ⟨s, [], by simp [State.admitCuts], .nil s a r serial k⟩
  | cons c cuts ih =>
    simp only [List.length_cons] at room
    obtain ⟨n, hn⟩ := s.ru.pieces.exists_lowestFree (n := 1024) (by omega)
    obtain ⟨hlt, free, -⟩ := Tbl.lowestFree_spec _ _ _ hn
    have more : (s.takeCut a r n c).ru.pieces.length = s.ru.pieces.length + 1 :=
      Tbl.length_set_of_free _ _ _ free
    obtain ⟨t, ns, result, admitted⟩ := ih (s.takeCut a r n c) (k + 1) (ms ++ [n])
      (by rw [← Nat.add_assoc, ← hs]; rfl) (Tbl.set_wf _ _ _ _ wf hlt) (by omega)
    exact ⟨t, n :: ns, by rw [s.admitCuts_cons c cuts ms hn, result]; simp, admitted.cons hs hn⟩

/-! ### The answer (R56 to R58) -/

/-- The request unit with the answer taken and no claim in flight. -/
def State.answerTaken (s : State) : State :=
  { s with ru := { s.ru with admitting := none }, mail := { s.mail with claimAnswer := none } }

theorem State.answerTaken_unchanged : UnchangedBut [.ru, .mail] s s.answerTaken := by
  intro a h
  cases a <;> simp at h <;> rfl

theorem State.exec_claimAnswer_accepted {a : Admitting} (ha : s.ru.admitting = some a)
    (hc : s.mail.claimAnswer = some .accepted) :
    exec .claimAnswer s = .next (s.answerTaken.admitRequest a) := by
  simp only [exec, execClaimAnswer, ha, hc]
  rfl

theorem State.exec_claimAnswer_refused {a : Admitting} {c : Code} (ha : s.ru.admitting = some a)
    (hc : s.mail.claimAnswer = some (.refused c)) :
    exec .claimAnswer s = .next (s.answerTaken.refuse a.node a.port a.tag a.handle a.kind c) := by
  simp only [exec, execClaimAnswer, ha, hc]
  rfl

/-- The record of an admitted request (R57 step 1). -/
def Admitting.request (a : Admitting) (ns : List Nat) : Request :=
  { node := a.node, tag := a.tag, handle := a.handle, volume := a.volume, kind := a.kind, offset := a.offset,
    countField := a.countField, toEnd := a.toEnd, requested := a.requested, effective := a.effective,
    short := a.short, port := a.port, state := .queued, overrun := false, data := a.data, pieces := ns }

/-- The node of an admitted request (R57 step 4). -/
def Node.taking (e : Node) (tag : BitVec 8) : Node :=
  { e with tags := e.tags ++ [tag], outstanding := e.outstanding + 1 }

theorem State.admitRequest_eq {a : Admitting} {r : Nat} {e : Node} {t : State} {ns : List Nat}
    (hr : s.ru.requests.lowestFree 512 = some r) (cuts : State.admitCuts a r a.cuts s [] = (t, ns))
    (he : t.node? a.node = some e) : s.admitRequest a =
      (t.setRequest r (Admitting.request a ns)).setNode a.node (Node.taking e a.tag) := by
  simp only [State.admitRequest, hr, cuts, State.modNode, State.setRequest_node, he]
  rfl

/-- Settles O26: an accepted request takes its cuts, then its record, then its tag; a refused one is its END. -/
theorem claimAnswered : Obligations.ClaimAnswered := by
  intro s a ha
  refine ⟨fun r e hc hr wf room he => ?_, fun c hc => ?_⟩
  · obtain ⟨t, ns, cuts, admitted⟩ := s.answerTaken.admitCuts_spec a r s.ru.nextSerial 0 a.cuts [] rfl wf room
    have nodes : t.nodes = s.nodes := admitted.parts .nodes (by simp)
    have ht : t.node? a.node = some e := by rwa [State.node?, nodes]
    have requests : t.ru.requests = s.ru.requests := by rw [admitted.ru]; rfl
    refine ⟨(t.setRequest r (Admitting.request a ns)).setNode a.node (Node.taking e a.tag), ns, ?_, ?_,
      admitted.parts .mail (by simp), ?_, admitted.count, admitted.distinct, admitted.fresh,
      t.setRequest_request_self r _, fun k hk => ?_, fun i c hx => ?_, admitted.others, fun b => ?_,
      State.setNode_node_self _ _ _, fun m hm => ?_⟩
    · rw [s.exec_claimAnswer_accepted ha hc, State.admitRequest_eq s.answerTaken hr cuts ht]
      rfl
    · exact ((s.answerTaken_unchanged).mono (by simp)).trans ((admitted.parts.mono (by simp)).trans
        (((t.setRequest_unchanged r _).mono (by simp)).trans ((State.setNode_unchanged _ _ _).mono (by simp))))
    · simp only [State.setNode_ru, State.setRequest]
      rw [admitted.ru]
      rfl
    · exact (t.setRequest_request_ne r _ k hk).trans (congrArg (Tbl.get · k) requests)
    · obtain ⟨n, hn, stored⟩ := admitted.piece i c hx
      exact ⟨n, hn, stored.trans (by rw [Nat.zero_add]; rfl)⟩
    · exact admitted.told b
    · exact (State.setNode_node_ne _ _ _ _ hm).trans (congrArg (Tbl.get · m) nodes)
  · refine ⟨_, s.exec_claimAnswer_refused ha hc, ?_, rfl, rfl, rfl⟩
    exact ((s.answerTaken_unchanged).mono (by simp)).trans
      ((State.refuse_unchanged _ _ _ _ _ _ _).mono (by simp))

end Sys2Proof.Machine
end

section
/-! SUPPORT. The end of a request (R75, R76, R79), the reports of drive units on its pieces (R63 to R69, R92):
O28 and O29. -/

namespace Sys2Proof

theorem Tbl.get_foldl_erase {α : Type} (l : List Nat) (t : Tbl α) (i : Nat) :
    (l.foldl (fun tb n => tb.erase n) t).get i = if i ∈ l then none else t.get i := by
  induction l generalizing t with
  | nil => simp
  | cons n l ih =>
    rw [List.foldl_cons, ih]
    by_cases hn : i = n
    · simp [hn]
    · simp [hn, Tbl.get_erase_ne]

end Sys2Proof

namespace Sys2Proof.Machine

variable (s : State)

/-! ### Result and good count (R76) -/

theorem goodWalk_done {p : Piece} {l : List Piece} (h : Piece.isDone p = true) :
    goodWalk (p :: l) = (p.length + (goodWalk l).1, (goodWalk l).2) := by
  have h : p.state = .done := by simpa [Piece.isDone] using h
  simp only [goodWalk, h]

theorem goodWalk_fst (l : List Piece) : (goodWalk l).1 = goodCount l := by
  induction l with
  | nil => rfl
  | cons p l ih =>
    by_cases h : Piece.isDone p = true
    · simp [goodWalk_done h, goodCount, h, ih, Nat.add_assoc]
    · have none : goodCount (p :: l) = p.done := by simp [goodCount, h]
      rw [none]
      cases hs : p.state <;> simp [Piece.isDone, hs] at h <;> simp only [goodWalk, hs]

theorem resultCode_goodWalk (st : ReqState) (l : List Piece) :
    resultCode st (goodWalk l).2 = resultOf st l := by
  induction l with
  | nil => cases st <;> rfl
  | cons p l ih =>
    by_cases h : Piece.isDone p = true
    · rw [goodWalk_done h, ih]
      simp only [resultOf, List.dropWhile_cons_of_pos h]
    · obtain ⟨serial, request, bay, start, length, window, state, done⟩ := p
      simp only [resultOf, List.dropWhile_cons_of_neg h]
      cases state with
      | done => simp [Piece.isDone] at h
      | _ => cases st <;> rfl

/-! ### The steps of the end (R75) -/

/-- The loan `l` of an ended request, with its count lowered and an ENDING loan at 0 reported quiet. -/
def State.loanLowered (s : State) (h : BitVec 16) (l : Loan) : State :=
  { s with
    lm := { s.lm with loans := s.lm.loans.set (handleIndex h) { l with outstanding := l.outstanding - 1 } },
    mail := { s.mail with quietLoans := s.mail.quietLoans ++
      (if l.outstanding - 1 = 0 ∧ l.state.isEnding = true then [h] else []) } }

theorem State.lowerLoan_eq {h : BitVec 16} {l : Loan} (hl : s.currentLoan h = some l) :
    s.lowerLoan h = s.loanLowered h l := by
  simp only [State.lowerLoan, hl, State.loanLowered]
  split
  · rfl
  · rw [List.append_nil]
    rfl

/-- The node `e` of an ended request, with the tag out of use, its count lowered, and a DRAINING node at 0
reported quiet. -/
def State.nodeLowered (s : State) (n : Nat) (e : Node) (tag : BitVec 8) : State :=
  { s with
    nodes := s.nodes.set n { e with tags := e.tags.filter (· ≠ tag), outstanding := e.outstanding - 1 },
    mail := { s.mail with quietNodes := s.mail.quietNodes ++
      (if e.outstanding - 1 = 0 ∧ e.state = .draining then [n] else []) } }

theorem State.lowerNode_eq {n : Nat} {e : Node} (tag : BitVec 8) (he : s.node? n = some e) :
    s.lowerNode n tag = s.nodeLowered n e tag := by
  simp only [State.lowerNode, he, State.nodeLowered]
  split
  · rfl
  · rw [List.append_nil]
    rfl

/-- What a soft reset's share waits for when the request in record `r` has ended (R79). -/
def State.shareLeft (s : State) (r : Nat) : Option (List Nat) := s.ru.resetShare.map fun l => l.filter (· ≠ r)

/-- The share no longer waits for a record, and is reported finished at the last one (R79). -/
def State.shareWaits (s : State) (r : Nat) : State :=
  { s with
    ru := { s.ru with resetShare := if s.shareLeft r = some [] then none else s.shareLeft r },
    mail := { s.mail with ruToAgent := s.mail.ruToAgent ++
      (if s.shareLeft r = some [] then [.resetFinished] else []) } }

theorem State.ruShareEnds_eq (r : Nat) (settled : settledChannel s.mail.ruToAgent = true) :
    s.ruShareEnds r = s.shareWaits r := by
  cases hs : s.ru.resetShare with
  | none =>
    have same : { s.ru with resetShare := none } = s.ru := by rw [← hs]
    simp only [State.ruShareEnds, State.shareWaits, State.shareLeft, hs, Option.map_none, reduceCtorEq,
      if_false, List.append_nil, same]
  | some l =>
    by_cases last : l.filter (· ≠ r) = []
    · have told := settle_resetFinished { s with ru := { s.ru with resetShare := none } } _ settled
      simp only [State.ruShareEnds, State.shareWaits, State.shareLeft, hs, last, Option.map_some,
        List.isEmpty_nil, if_true, State.ruTellAgent, told]
    · have more : (l.filter (· ≠ r)).isEmpty = false := by simpa using last
      simp only [State.ruShareEnds, State.shareWaits, State.shareLeft, hs, last, more, Option.map_some,
        Bool.false_eq_true, if_false, Option.some.injEq, List.append_nil]

/-- The END of a request with its pieces `ps` (R75, R76, R181). -/
def Request.endFrame (q : Request) (dst : Addr) (ps : List Piece) : OutFrame :=
  OutFrame.build dst { Header.blank with
    kind := 0x22, subcode := q.kind.code, tag := q.tag, handle := q.handle,
    offset := BitVec.ofNat 48 q.offset, count := q.countField,
    flags := (if q.toEnd then 1 else 0) ||| (if q.short then 2 else 0),
    volume := BitVec.ofNat 8 q.volume, code := (resultOf q.state ps).value,
    valueA := BitVec.ofNat 32 (goodCount ps), valueB := BitVec.ofNat 32 q.effective } (.bytes [])

/-- The END of the request in record `k` is placed, and its records are free. -/
def State.endPlaced (s : State) (k : Nat) (q : Request) (dst : Addr) : State :=
  { s.place q.port (Request.endFrame q dst (s.piecesOf q)) with ru := { s.ru with
    pieces := q.pieces.foldl (fun tb n => tb.erase n) s.ru.pieces, requests := s.ru.requests.erase k } }

/-- The state after the end of the request `q` in record `k`, of loan `l` and node `e`. -/
def State.requestEnded (s : State) (k : Nat) (q : Request) (l : Loan) (e : Node) : State :=
  (((s.endPlaced k q e.addr).loanLowered q.handle l).nodeLowered q.node e q.tag).shareWaits k

theorem State.requestEnded_unchanged (k : Nat) (q : Request) (l : Loan) (e : Node) :
    UnchangedBut [.ru, .lm, .nodes, .ports, .mail] s (s.requestEnded k q l e) := by
  intro a h
  cases a <;> simp at h <;> rfl

/-- Where the request's loan and node are in use and the agent's channel waits, the end is those four writes. -/
theorem State.finish_eq {k : Nat} {q : Request} {l : Loan} {e : Node} (hl : s.currentLoan q.handle = some l)
    (he : s.node? q.node = some e) (settled : settledChannel s.mail.ruToAgent = true) :
    s.finish k q = s.requestEnded k q l e := by
  have steps : s.finish k q =
      (((s.endPlaced k q e.addr).lowerLoan q.handle).lowerNode q.node q.tag).ruShareEnds k := by
    simp only [State.finish, State.nodeAddr, he, goodWalk_fst, resultCode_goodWalk]
    rfl
  have hl : (s.endPlaced k q e.addr).currentLoan q.handle = some l := hl
  have he : ((s.endPlaced k q e.addr).loanLowered q.handle l).node? q.node = some e := he
  rw [steps, State.lowerLoan_eq _ hl, State.lowerNode_eq _ q.tag he]
  exact State.ruShareEnds_eq _ k settled

section End
variable {s} {k : Nat} {q : Request}

theorem State.finishIfFinal_of_final (hq : s.request? k = some q)
    (final : ∀ n ∈ q.pieces, ∃ p, s.piece? n = some p ∧ p.state.final = true) :
    s.finishIfFinal k = s.finish k q := by
  have all : (s.piecesOf q).all (fun p => p.state.final) = true := by
    rw [List.all_eq_true]
    intro p hp
    obtain ⟨n, hn, hx⟩ := List.mem_filterMap.1 hp
    obtain ⟨x, hx', hf⟩ := final n hn
    rw [hx, Option.some.injEq] at hx'
    rwa [hx']
  simp only [State.finishIfFinal, hq, all, if_true]

theorem State.finishIfFinal_of_open (hq : s.request? k = some q)
    (left : ∃ n ∈ q.pieces, ∃ p, s.piece? n = some p ∧ p.state.final = false) : s.finishIfFinal k = s := by
  obtain ⟨n, hn, p, hp, hf⟩ := left
  have some : ¬(s.piecesOf q).all (fun p => p.state.final) = true := by
    rw [List.all_eq_true]
    intro all
    have := all p (List.mem_filterMap.2 ⟨n, hn, hp⟩)
    rw [hf] at this
    cases this
  simp only [State.finishIfFinal, hq, if_neg some]

end End

/-! ### One piece and its request written -/

/-- Piece `n` becomes `x` and request `r` becomes `q`, and of the request unit nothing else changes but its
delivery lists. -/
structure State.WorkBecomes (s t : State) (n : Nat) (x : Piece) (r : Nat) (q : Request) : Prop where
  piece : t.piece? n = some x
  request : t.request? r = some q
  others : OtherWorkUnchanged n r s t

theorem State.setPiece_becomes {r : Nat} {q : Request} (n : Nat) (x : Piece) (hq : s.request? r = some q) :
    s.WorkBecomes (s.setPiece n x) n x r q :=
  ⟨s.setPiece_piece_self n x, hq, fun _ hm => s.setPiece_piece_ne n x _ hm, fun _ _ => rfl, rfl, rfl, rfl, rfl⟩

theorem State.setRequest_becomes {n : Nat} {x : Piece} (r : Nat) (q : Request) (hx : s.piece? n = some x) :
    s.WorkBecomes (s.setRequest r q) n x r q :=
  ⟨hx, s.setRequest_request_self r q, fun _ _ => rfl, fun _ hk => s.setRequest_request_ne r q _ hk, rfl, rfl,
    rfl, rfl⟩

theorem State.WorkBecomes.trans {s t u : State} {n r : Nat} {x y : Piece} {q p : Request}
    (h : s.WorkBecomes t n x r q) (k : t.WorkBecomes u n y r p) : s.WorkBecomes u n y r p := by
  obtain ⟨-, -, pieces, requests, admitting, limit, share, serial⟩ := h
  obtain ⟨piece, request, pieces', requests', admitting', limit', share', serial'⟩ := k
  exact ⟨piece, request, fun m hm => (pieces' m hm).trans (pieces m hm),
    fun k hk => (requests' k hk).trans (requests k hk), admitting'.trans admitting, limit'.trans limit,
    share'.trans share, serial'.trans serial⟩

/-- Two states in which the request unit holds the same but for its delivery lists. -/
def State.SameWork (s t : State) : Prop := t.ru = { s.ru with delivery := t.ru.delivery }

theorem State.WorkBecomes.of_same {s s' t t' : State} {n r : Nat} {x : Piece} {q : Request}
    (h : s.WorkBecomes t n x r q) (hs : s.SameWork s') (ht : t.SameWork t') : s'.WorkBecomes t' n x r q := by
  have pieces' (m : Nat) : t'.piece? m = t.piece? m := by rw [State.piece?, ht, State.piece?]
  have requests' (k : Nat) : t'.request? k = t.request? k := by rw [State.request?, ht, State.request?]
  obtain ⟨piece, request, pieces, requests, rest⟩ := h
  refine ⟨(pieces' n).trans piece, (requests' r).trans request, fun m hm => ?_, fun k hk => ?_, ?_⟩
  · rw [pieces', pieces m hm, State.piece?, State.piece?, hs]
  · rw [requests', requests k hk, State.request?, State.request?, hs]
  · rw [ht, hs]
    exact rest

/-- A QUEUED request runs once a piece of it has left QUEUED (R53). -/
def Request.runs (q : Request) : Request := { q with state := if q.state = .queued then .running else q.state }

theorem State.requestRuns_eq {r : Nat} {q : Request} (hq : s.request? r = some q) :
    s.requestRuns r = if q.state = .queued then s.setRequest r (Request.runs q) else s := by
  by_cases queued : q.state = .queued
  · simp only [State.requestRuns, hq, Request.runs, queued, if_true]
  · simp only [State.requestRuns, hq, if_neg queued]

theorem State.requestRuns_becomes {n r : Nat} {x : Piece} {q : Request} (hx : s.piece? n = some x)
    (hq : s.request? r = some q) : s.WorkBecomes (s.requestRuns r) n x r (Request.runs q) := by
  rw [s.requestRuns_eq hq]
  split
  · exact s.setRequest_becomes r _ hx
  · rename_i other
    have same : Request.runs q = q := by simp only [Request.runs, if_neg other]
    exact ⟨hx, hq.trans (congrArg some same.symm), fun _ _ => rfl, fun _ _ => rfl, rfl, rfl, rfl, rfl⟩

theorem State.requestRuns_delivery (r : Nat) : (s.requestRuns r).ru.delivery = s.ru.delivery := by
  unfold State.requestRuns
  split
  · split <;> rfl
  · rfl

/-! ### The reports -/

/-- A report on piece `n` of request `r` has been taken from bay `b`, leaving `rest` in its channel, and what
the request unit holds of that piece and request has become `x` and `q`. -/
structure State.Reported (s t : State) (b : Bay) (rest : List UnitToRu) (n : Nat) (x : Piece) (r : Nat)
    (q : Request) : Prop where
  only : OnlyBay [.ru, .bayMail] b s t
  mail : t.bmail b = { s.bmail b with unitToRu := rest }
  work : s.WorkBecomes t n x r q

theorem State.reported_of_ru {s t : State} {b : Bay} {rest : List UnitToRu} {n r : Nat} {x : Piece}
    {q : Request} (parts : UnchangedBut [.ru] (s.popUnitReport b rest) t)
    (work : (s.popUnitReport b rest).WorkBecomes t n x r q) : s.Reported t b rest n x r q where
  only := ⟨((s.popUnitReport_unchanged b rest).mono (by simp)).trans (parts.mono (by simp)),
    (s.popUnitReport_onlyBay b rest).2.trans (.of_parts parts (by simp) (by simp) (by simp) (by simp))⟩
  mail := by
    have same : t.bayMail = (s.popUnitReport b rest).bayMail := parts .bayMail (by simp)
    rw [State.bmail, same]
    exact s.popUnitReport_bmail b rest
  work := work.of_same rfl rfl

section Reports
variable {s} {b : Bay} {rest : List UnitToRu} {r : PieceRef}

/-! #### Reports that change no piece (R69, R92) -/

theorem State.exec_withdrawalAnswer {x : Bool} (hm : (s.bmail b).unitToRu = .answer r x :: rest) :
    exec (.withdrawalAnswer b) s = .next (s.popUnitReport b rest) := by
  simp only [exec, execWithdrawalAnswer, hm]

/-- A report of a piece that is final or gone is taken and no more. -/
theorem State.report_ignored (hp : s.pieceOf r = none ∨ ∃ pc, s.pieceOf r = some pc ∧ pc.state.final = true) :
    s.pieceStarted r = s ∧ s.pieceDone r = s ∧ (∀ k md, s.pieceStaged r k md = s) ∧
      (∀ f d, s.pieceFailed r f d = s) ∧ ∀ f, s.pieceWithdrawn r f = s := by
  rcases hp with none | ⟨pc, hp, final⟩
  · simp only [State.pieceStarted, State.pieceDone, State.pieceStaged, State.pieceFailed, State.pieceWithdrawn,
      none, implies_true, and_self]
  · have left : pc.state ≠ .queued := fun e => by simp [e, PieceState.final] at final
    have failed (f : FailReason) (d : Nat) : s.pieceFailed r f d = s := by
      cases hst : pc.state <;> simp [hst, PieceState.final] at final <;> simp only [State.pieceFailed, hp, hst]
    simp only [State.pieceStarted, State.pieceDone, State.pieceStaged, failed, State.pieceWithdrawn, hp, left,
      final, if_true, if_false, implies_true, and_self]

theorem State.exec_pieceStarted (hm : (s.bmail b).unitToRu = .started r :: rest) :
    exec (.pieceStartedReport b) s = .next ((s.popUnitReport b rest).pieceStarted r) := by
  simp only [exec, execPieceStartedReport, hm]

theorem State.exec_pieceDone (hm : (s.bmail b).unitToRu = .done r :: rest) :
    exec (.pieceDoneReport b) s = .next ((s.popUnitReport b rest).pieceDone r) := by
  simp only [exec, execPieceDoneReport, hm]

theorem State.exec_pieceStaged {k : Nat} {md : Bool} (hm : (s.bmail b).unitToRu = .staged r k md :: rest) :
    exec (.pieceStagedReport b) s = .next ((s.popUnitReport b rest).pieceStaged r k md) := by
  simp only [exec, execPieceStagedReport, hm]

theorem State.exec_pieceFailed {f : FailReason} {d : Nat} (hm : (s.bmail b).unitToRu = .failed r f d :: rest) :
    exec (.pieceFailedReport b) s = .next ((s.popUnitReport b rest).pieceFailed r f d) := by
  simp only [exec, execPieceFailedReport, hm]

theorem State.exec_pieceWithdrawn {f : FailReason} (hm : (s.bmail b).unitToRu = .withdrawn r f :: rest) :
    exec (.pieceWithdrawnReport b) s = .next ((s.popUnitReport b rest).pieceWithdrawn r f) := by
  simp only [exec, execPieceWithdrawnReport, hm]

/-! #### Reports that a piece starts or ends -/

/-- The piece record of a report becomes `x`, and its request is looked at for its end. -/
theorem State.setPiece_reported {q : Request} (rest : List UnitToRu) (x : Piece) {k : Nat}
    (hq : s.request? k = some q) :
    s.Reported ((s.popUnitReport b rest).setPiece r.num x) b rest r.num x k q :=
  State.reported_of_ru (State.setPiece_unchanged _ _ _) (State.setPiece_becomes _ _ _ hq)

variable {pc : Piece} {q : Request} (hp : s.pieceOf r = some pc) (hq : s.request? pc.request = some q)
include hp hq

theorem State.pieceStarted_reported (hm : (s.bmail b).unitToRu = .started r :: rest)
    (queued : pc.state = .queued) : ∃ t, exec (.pieceStartedReport b) s = .next t ∧
      s.Reported t b rest r.num { pc with state := .active } pc.request (Request.runs q) ∧
      t.ru.delivery = s.ru.delivery := by
  have hp' : (s.popUnitReport b rest).pieceOf r = some pc := hp
  have active : (s.popUnitReport b rest).WorkBecomes _ r.num { pc with state := .active } pc.request q :=
    State.setPiece_becomes _ _ _ hq
  refine ⟨_, ?_, State.reported_of_ru ((State.setPiece_unchanged _ r.num { pc with state := .active }).trans
    (State.requestRuns_unchanged _ pc.request)) (active.trans
    (State.requestRuns_becomes _ active.piece active.request)), State.requestRuns_delivery _ _⟩
  rw [State.exec_pieceStarted hm]
  simp only [State.pieceStarted, hp', queued, if_true]

theorem State.pieceDone_reported (hm : (s.bmail b).unitToRu = .done r :: rest) (live : pc.state.final = false) :
    ∃ u, exec (.pieceDoneReport b) s = .next (u.finishIfFinal pc.request) ∧
      s.Reported u b rest r.num { pc with state := .done, done := pc.length } pc.request q ∧
      u.ru.delivery = s.ru.delivery := by
  have hp' : (s.popUnitReport b rest).pieceOf r = some pc := hp
  refine ⟨_, ?_, State.setPiece_reported rest _ hq, rfl⟩
  rw [State.exec_pieceDone hm]
  simp only [State.pieceDone, hp', live, Bool.false_eq_true, if_false, State.endPiece]

theorem State.pieceWithdrawn_reported {f : FailReason} (hm : (s.bmail b).unitToRu = .withdrawn r f :: rest)
    (live : pc.state.final = false) :
    ∃ u, exec (.pieceWithdrawnReport b) s = .next (u.finishIfFinal pc.request) ∧
      s.Reported u b rest r.num { pc with state := .withdrawn f, done := 0 } pc.request q ∧
      u.ru.delivery = s.ru.delivery := by
  have hp' : (s.popUnitReport b rest).pieceOf r = some pc := hp
  refine ⟨_, ?_, State.setPiece_reported rest _ hq, rfl⟩
  rw [State.exec_pieceWithdrawn hm]
  simp only [State.pieceWithdrawn, hp', live, Bool.false_eq_true, if_false, State.endPiece]

theorem State.pieceFailed_queued {f : FailReason} {d : Nat} (hm : (s.bmail b).unitToRu = .failed r f d :: rest)
    (queued : pc.state = .queued) :
    ∃ u, exec (.pieceFailedReport b) s = .next (u.finishIfFinal pc.request) ∧
      s.Reported u b rest r.num { pc with state := .failed f, done := d } pc.request (Request.runs q) ∧
      u.ru.delivery = s.ru.delivery := by
  have hp' : (s.popUnitReport b rest).pieceOf r = some pc := hp
  have runs : (s.popUnitReport b rest).WorkBecomes _ r.num pc pc.request (Request.runs q) :=
    State.requestRuns_becomes _ (s.piece_of_pieceOf hp) hq
  refine ⟨_, ?_, State.reported_of_ru ((State.requestRuns_unchanged _ pc.request).trans
    (State.setPiece_unchanged _ _ _)) (runs.trans (State.setPiece_becomes _ _ _ runs.request)),
    State.requestRuns_delivery _ _⟩
  rw [State.exec_pieceFailed hm]
  simp only [State.pieceFailed, hp', queued, State.endPiece]

/-- How a report of failure leaves a piece that was ACTIVE: with OVERRUN where an overrun request's piece has
met a media error (R73). -/
def Piece.failedActive (pc : Piece) (q : Request) (f : FailReason) (d : Nat) : Piece :=
  if q.overrun = true ∧ f = .mediaError then { pc with state := .failed .overrun, done := 0 }
  else { pc with state := .failed f, done := d }

theorem State.pieceFailed_active {f : FailReason} {d : Nat} (hm : (s.bmail b).unitToRu = .failed r f d :: rest)
    (active : pc.state = .active) :
    ∃ u, exec (.pieceFailedReport b) s = .next (u.finishIfFinal pc.request) ∧
      s.Reported u b rest r.num (Piece.failedActive pc q f d) pc.request q ∧
      u.ru.delivery = s.ru.delivery := by
  have hp' : (s.popUnitReport b rest).pieceOf r = some pc := hp
  have hq' : (s.popUnitReport b rest).request? pc.request = some q := hq
  refine ⟨_, ?_, State.setPiece_reported rest _ hq, rfl⟩
  rw [State.exec_pieceFailed hm]
  simp only [State.pieceFailed, hp', hq', active, Piece.failedActive]
  split <;> rfl

/-- A STAGED piece that fails leaves its delivery list with the count it had reached (R68). -/
theorem State.pieceFailed_staged {k d d' : Nat} {md : Bool} {f : FailReason}
    (hm : (s.bmail b).unitToRu = .failed r f d :: rest) (staged : pc.state = .staged k md d') :
    ∃ u, exec (.pieceFailedReport b) s = .next ((u.finishIfFinal pc.request).deliver q.port) ∧
      s.Reported u b rest r.num { pc with state := .failed f } pc.request q ∧
      u.delivery q.port = (s.delivery q.port).filter (· ≠ r.num) ∧
      ∀ p, p ≠ q.port → u.delivery p = s.delivery p := by
  have hp' : (s.popUnitReport b rest).pieceOf r = some pc := hp
  have hq' : (s.popUnitReport b rest).request? pc.request = some q := hq
  let left := (s.popUnitReport b rest).leaveDelivery q.port r.num
  have work : left.WorkBecomes (left.setPiece r.num { pc with state := .failed f }) r.num _ pc.request q :=
    State.setPiece_becomes _ _ _ hq
  refine ⟨left.setPiece r.num { pc with state := .failed f }, ?_,
    State.reported_of_ru ((State.leaveDelivery_unchanged _ _ _).trans (State.setPiece_unchanged _ _ _))
      (work.of_same rfl rfl), State.setDelivery_delivery_self _ _ _,
    fun p hp => State.setDelivery_delivery_ne _ _ _ _ hp⟩
  rw [State.exec_pieceFailed hm]
  simp only [State.pieceFailed, hp', hq', staged, State.endPiece]
  rfl

end Reports

/-- A request of which another piece is open does not end with the piece of a report. -/
theorem State.Reported.finishIfFinal_goesOn {s t : State} {b : Bay} {rest : List UnitToRu} {n r : Nat}
    {x : Piece} {q p : Request} (h : s.Reported t b rest n x r p) (pieces : p.pieces = q.pieces) (more : s.GoesOn q n) :
    t.finishIfFinal r = t := by
  obtain ⟨m, hm, hne, y, hy, live⟩ := more
  exact State.finishIfFinal_of_open h.work.request ⟨m, pieces ▸ hm, y, (h.work.others.1 m hne).trans hy, live⟩

/-! ### O28 and O29 -/

/-- Settles O28: a report writes its piece, and where another piece of the request is open it ends there. -/
theorem pieceReports : Obligations.PieceReports := by
  intro s b m rest hm
  refine ⟨?_, fun r hp => ?_, fun r pc q hp hq => ⟨?_, ?_, fun more live => ⟨?_, ?_, ?_⟩⟩⟩
  · rintro r x rfl
    exact State.exec_withdrawalAnswer hm
  · obtain ⟨started, done, staged, failed, withdrawn⟩ :=
      State.report_ignored (s := s.popUnitReport b rest) (r := r) hp
    refine ⟨?_, ?_, ?_, ?_, ?_⟩
    · rintro rfl
      rw [State.exec_pieceStarted hm, started]
      rfl
    · rintro rfl
      rw [State.exec_pieceDone hm, done]
      rfl
    · rintro k md rfl
      rw [State.exec_pieceStaged hm, staged]
      rfl
    · rintro f d rfl
      rw [State.exec_pieceFailed hm, failed]
      rfl
    · rintro f rfl
      rw [State.exec_pieceWithdrawn hm, withdrawn]
      rfl
  · rintro rfl queued
    obtain ⟨t, next, h, list⟩ := State.pieceStarted_reported hp hq hm queued
    exact ⟨t, next, h.only, h.mail, h.work.piece, h.work.request, h.work.others, list⟩
  · rintro k md x f d rfl staged
    obtain ⟨u, next, h, list, lists⟩ := State.pieceFailed_staged hp hq hm staged
    exact ⟨u, next, h.only, h.mail, h.work.piece, h.work.request, h.work.others, list, lists⟩
  · rintro rfl
    obtain ⟨t, next, h, list⟩ := State.pieceDone_reported hp hq hm live
    rw [h.finishIfFinal_goesOn rfl more] at next
    exact ⟨t, next, h.only, h.mail, h.work.piece, h.work.request, h.work.others, list⟩
  · rintro f rfl
    obtain ⟨t, next, h, list⟩ := State.pieceWithdrawn_reported hp hq hm live
    rw [h.finishIfFinal_goesOn rfl more] at next
    exact ⟨t, next, h.only, h.mail, h.work.piece, h.work.request, h.work.others, list⟩
  · rintro f d rfl (active | queued)
    · obtain ⟨t, next, h, list⟩ := State.pieceFailed_active hp hq hm active
      rw [h.finishIfFinal_goesOn rfl more] at next
      refine ⟨t, next, h.only, h.mail, ?_, ?_, h.work.others, list⟩
      · simp only [h.work.piece, Piece.failedActive, active, true_and]
      · simp only [h.work.request, active, reduceCtorEq, false_and, if_false]
    · obtain ⟨t, next, h, list⟩ := State.pieceFailed_queued hp hq hm queued
      rw [h.finishIfFinal_goesOn rfl more] at next
      refine ⟨t, next, h.only, h.mail, ?_, ?_, h.work.others, list⟩
      · simp only [h.work.piece, queued, reduceCtorEq, false_and, if_false]
      · simp only [h.work.request, Request.runs, queued, true_and]

/-- Settles O29: the end of a request is one write of the state, which a piece that is open keeps back and a
report that makes the last piece final sets off. -/
theorem requestCompletes : Obligations.RequestCompletes := by
  refine ⟨?_, fun s k q hq left => State.finishIfFinal_of_open hq left, ?_⟩
  · rintro s k q l e ps hq final rfl hl he settled
    have ended := (State.finishIfFinal_of_final hq final).trans (s.finish_eq hl he settled)
    rw [ended]
    refine ⟨s.requestEnded_unchanged k q l e, rfl, rfl, Tbl.get_erase_self _ _,
      fun i hi => Tbl.get_erase_ne _ _ _ hi, fun n hn => ?_, fun n hn => ?_, Tbl.get_set_self _ _ _,
      fun m hm => Tbl.get_set_ne _ _ _ _ hm, Tbl.get_set_self _ _ _,
      ⟨fun j hj => Tbl.get_set_ne _ _ _ _ hj, rfl, rfl, rfl, rfl, rfl⟩, rfl, rfl⟩
    · exact (Tbl.get_foldl_erase _ _ _).trans (if_pos hn)
    · exact (Tbl.get_foldl_erase _ _ _).trans (if_neg hn)
  · intro s b m rest r pc q c st rst d d' f hm hp hq how
    rcases how with ⟨rfl, rfl, live, rfl, rfl, rfl⟩ | ⟨rfl, rfl, live, rfl, rfl, rfl⟩ |
      ⟨rfl, rfl, queued, rfl, rfl, rfl⟩ | ⟨rfl, rfl, active, rfl, hst⟩
    · obtain ⟨u, next, h, list⟩ := State.pieceDone_reported hp hq hm live
      exact ⟨u, next, h.only, h.mail, h.work.piece, h.work.request, h.work.others, list⟩
    · obtain ⟨u, next, h, list⟩ := State.pieceWithdrawn_reported hp hq hm live
      exact ⟨u, next, h.only, h.mail, h.work.piece, h.work.request, h.work.others, list⟩
    · obtain ⟨u, next, h, list⟩ := State.pieceFailed_queued hp hq hm queued
      exact ⟨u, next, h.only, h.mail, h.work.piece, h.work.request, h.work.others, list⟩
    · obtain ⟨u, next, h, list⟩ := State.pieceFailed_active hp hq hm active
      refine ⟨u, next, h.only, h.mail, ?_, h.work.request, h.work.others, list⟩
      rw [h.work.piece, Piece.failedActive]
      split at hst <;> cases hst <;> simp only [*, and_self, if_true, if_false]

end Sys2Proof.Machine
end

section
/-! SUPPORT. Delivery of read data (R64, R70 to R74): the staged report, the loop that places DATA frames, and
O30. -/

namespace Sys2Proof.Machine

variable (s : State)

/-! ### What the end of a request leaves of delivery -/

theorem State.lowerLoan_ru (h : BitVec 16) : (s.lowerLoan h).ru = s.ru := s.lowerLoan_unchanged h .ru (by simp)
theorem State.lowerNode_ru (n : Nat) (tag : BitVec 8) : (s.lowerNode n tag).ru = s.ru :=
  s.lowerNode_unchanged n tag .ru (by simp)

theorem State.ruShareEnds_ru (r : Nat) :
    (s.ruShareEnds r).ru = { s.ru with resetShare := (s.ruShareEnds r).ru.resetShare } := by
  unfold State.ruShareEnds
  split
  · rfl
  · split
    · have told : (State.ruTellAgent { s with ru := { s.ru with resetShare := none } } .resetFinished).ru =
          { s.ru with resetShare := none } := State.ruTellAgent_unchanged _ _ .ru (by simp)
      rw [told]
    · rfl

/-- The end of a request frees its records, and leaves the delivery lists (R75). -/
theorem State.finish_ru (r : Nat) (q : Request) : (s.finish r q).ru = { s.ru with
    pieces := q.pieces.foldl (fun tb n => tb.erase n) s.ru.pieces, requests := s.ru.requests.erase r,
    resetShare := (s.finish r q).ru.resetShare } := by
  have share := State.ruShareEnds_ru (((({ s.place q.port (OutFrame.build (s.nodeAddr q.node)
    (q.endHeader (resultCode q.state (goodWalk (s.piecesOf q)).2) (goodWalk (s.piecesOf q)).1) (.bytes [])) with
    ru := { s.ru with
      pieces := q.pieces.foldl (fun tb n => tb.erase n) s.ru.pieces,
      requests := s.ru.requests.erase r } } : State).lowerLoan q.handle).lowerNode q.node q.tag)) r
  rw [State.lowerNode_ru, State.lowerLoan_ru] at share
  exact share

theorem State.finishIfFinal_delivery (r : Nat) (p : Port) : (s.finishIfFinal r).delivery p = s.delivery p := by
  unfold State.finishIfFinal
  split
  · rfl
  · split
    · rw [State.delivery, State.finish_ru, State.delivery]
    · rfl

/-! ### One pass of the loop (R71) -/

/-- The state after one pass at the head of a port's delivery list, and none where the list is empty or there is no
room for the next frame. -/
def State.deliverOne (s : State) (p : Port) : Option State :=
  match s.delivery p with
  | [] => none
  | n :: _ =>
    match s.piece? n with
    | none => some (s.leaveDelivery p n)
    | some pc =>
      match pc.state, s.request? pc.request with
      | .staged blocks media _, some q =>
        if s.dataRoom p (min 2 (blocks - pc.done)) then
          some (s.placeData p n pc q (min 2 (blocks - pc.done)) blocks media)
        else none
      | _, _ => some (s.leaveDelivery p n)

theorem State.deliverLoop_succ (p : Port) (fuel : Nat) :
    State.deliverLoop p (fuel + 1) s = ((s.deliverOne p).map (State.deliverLoop p fuel)).getD s := by
  simp only [State.deliverLoop, State.deliverOne]
  cases s.delivery p with
  | nil => rfl
  | cons n l =>
    cases hn : s.piece? n with
    | none => simp only [hn, Option.map_some, Option.getD_some]
    | some pc =>
      cases hs : pc.state <;> cases hq : s.request? pc.request <;>
        simp only [hn, hs, hq, Option.map_some, Option.getD_some]
      split <;> rfl

theorem State.deliverLoop_stop {p : Port} (h : s.deliverOne p = none) (fuel : Nat) :
    State.deliverLoop p fuel s = s := by
  cases fuel with
  | zero => rfl
  | succ fuel =>
    rw [State.deliverLoop_succ, h]
    rfl

theorem State.deliverLoop_step {t : State} {p : Port} (h : s.deliverOne p = some t) (fuel : Nat) :
    State.deliverLoop p (fuel + 1) s = State.deliverLoop p fuel t := by
  rw [State.deliverLoop_succ, h]
  rfl

/-- What keeps a pass from being made: an empty list, or a STAGED head without room for its next frame. -/
theorem State.deliverOne_none {p : Port} {n : Nat} {l : List Nat} (h : s.deliverOne p = none)
    (hd : s.delivery p = n :: l) : ∃ pc q k md d, s.piece? n = some pc ∧ pc.state = .staged k md d ∧
      s.request? pc.request = some q ∧ s.dataRoom p (min 2 (k - pc.done)) = false := by
  simp only [State.deliverOne, hd] at h
  cases hn : s.piece? n with
  | none => simp only [hn, reduceCtorEq] at h
  | some pc =>
    cases hs : pc.state <;> cases hq : s.request? pc.request <;> simp only [hn, hs, hq, reduceCtorEq] at h
    rename_i k md d q
    split at h
    · cases h
    · rename_i room
      exact ⟨pc, q, k, md, d, rfl, hs, hq, by simpa using room⟩

/-! ### The frames -/

/-- A DATA frame of `k` blocks of a piece is placed (R70). -/
def State.dataPlaced (s : State) (p : Port) (n : Nat) (pc : Piece) (q : Request) (k : Nat) : State :=
  s.place p (OutFrame.build (s.nodeAddr q.node) (q.dataHeader (pc.window + pc.done) k)
    (.blocks (s.stagedBlocks pc.bay { num := n, serial := pc.serial } pc.done k)))

/-- The piece after a frame of `k` blocks that is not its last, its timer set at moment `now` (R72). -/
def Piece.afterFrame (pc : Piece) (k blocks : Nat) (md : Bool) (deadline : Nat) : Piece :=
  { pc with state := .staged blocks md deadline, done := pc.done + k }

/-- The piece after its last frame, of `k` blocks (R64, R67). -/
def Piece.afterLast (pc : Piece) (k : Nat) (md : Bool) : Piece :=
  { pc with state := if md then .failed .mediaError else .done, done := pc.done + k }

/-- The state in which a piece that has been delivered whole has left its list, before its request is looked at for
its end. -/
def State.lastPlaced (s : State) (p : Port) (n : Nat) (pc : Piece) (q : Request) (k : Nat) (md : Bool) : State :=
  (((s.dataPlaced p n pc q k).setPiece n (Piece.afterLast pc k md)).leaveDelivery p n).ruSend pc.bay
    (.emptied { num := n, serial := pc.serial })

section Frames
variable {s} {p : Port} {n : Nat} {pc : Piece} {q : Request} {k blocks : Nat} {md : Bool}

theorem State.placeData_more (more : pc.done + k < blocks) : s.placeData p n pc q k blocks md =
    (s.dataPlaced p n pc q k).setPiece n
      (Piece.afterFrame pc k blocks md (s.now + tens s.ru.deliveryLimit)) := by
  simp only [State.placeData, if_neg (Nat.not_le.2 more)]
  rfl

theorem State.placeData_last (last : blocks ≤ pc.done + k) : s.placeData p n pc q k blocks md =
    (s.lastPlaced p n pc q k md).finishIfFinal pc.request := by
  simp only [State.placeData, if_pos last]
  rfl

theorem State.dataPlaced_becomes (x : Piece) {r : Nat} (hq : s.request? r = some q) :
    s.WorkBecomes ((s.dataPlaced p n pc q k).setPiece n x) n x r q :=
  (s.setPiece_becomes n x hq).of_same rfl rfl

theorem State.lastPlaced_unchanged :
    UnchangedBut [.ports, .ru, .bayMail] s (s.lastPlaced p n pc q k md) :=
  ((s.place_unchanged p _).mono (by simp)).trans (((State.setPiece_unchanged _ n _).mono (by simp)).trans
    (((State.leaveDelivery_unchanged _ p n).mono (by simp)).trans ((State.ruSend_unchanged _ _ _).mono (by simp))))

theorem State.lastPlaced_delivery_self : (s.lastPlaced p n pc q k md).delivery p = (s.delivery p).filter (· ≠ n) :=
  State.setDelivery_delivery_self _ _ _

theorem State.lastPlaced_delivery_ne {j : Port} (hj : j ≠ p) :
    (s.lastPlaced p n pc q k md).delivery j = s.delivery j := State.setDelivery_delivery_ne _ _ _ _ hj

theorem State.lastPlaced_bmail_self : (s.lastPlaced p n pc q k md).bmail pc.bay =
    s.toldUnit pc.bay [.emptied { num := n, serial := pc.serial }] := State.setBmail_bmail_self _ _ _

theorem State.lastPlaced_bmail_ne {c : Bay} (hc : c ≠ pc.bay) :
    (s.lastPlaced p n pc q k md).bmail c = s.bmail c := State.setBmail_bmail_ne _ _ _ _ hc

end Frames

/-! ### The loop ends (R71) -/

/-- Passes that a piece in a delivery list still needs at most. -/
def State.passes (s : State) (n : Nat) : Nat :=
  match s.piece? n with
  | some pc => pc.undelivered + 1
  | none => 1

/-- Passes that a port's delivery list still needs at most. -/
def State.listPasses (s : State) (p : Port) : Nat := ((s.delivery p).map s.passes).sum

theorem State.deliver_eq (p : Port) : s.deliver p = State.deliverLoop p (s.listPasses p + 1) s := rfl

theorem State.passes_pos (n : Nat) : 0 < s.passes n := by
  unfold State.passes
  split <;> omega

theorem State.passes_of_some {n : Nat} {pc : Piece} (hn : s.piece? n = some pc) :
    s.passes n = pc.undelivered + 1 := by
  simp only [State.passes, hn]

theorem Piece.undelivered_of_staged {pc : Piece} {k d : Nat} {md : Bool} (h : pc.state = .staged k md d) :
    pc.undelivered = k - pc.done := by
  simp only [Piece.undelivered, h]

theorem Piece.undelivered_of_final {pc : Piece} (h : pc.state.final = true) : pc.undelivered = 0 := by
  cases hs : pc.state <;> simp [hs, PieceState.final] at h <;> simp only [Piece.undelivered, hs]

/-- The pieces that go with their request were final, and needed no frame. -/
theorem State.finishIfFinal_passes (r n : Nat) : (s.finishIfFinal r).passes n = s.passes n := by
  unfold State.finishIfFinal
  split
  · rfl
  · rename_i q _
    split
    · rename_i all
      have freed : (s.finish r q).piece? n = if n ∈ q.pieces then none else s.piece? n := by
        rw [State.piece?, State.finish_ru]
        exact Tbl.get_foldl_erase _ _ _
      by_cases hn : n ∈ q.pieces
      · rw [if_pos hn] at freed
        simp only [State.passes, freed]
        split
        · rename_i pc hpc
          have final := List.all_eq_true.1 all pc (List.mem_filterMap.2 ⟨n, hn, hpc⟩)
          rw [Piece.undelivered_of_final final]
        · rfl
      · simp only [State.passes, freed, if_neg hn]
    · rfl

/-- A pass that takes the head out of the list leaves fewer. -/
theorem State.listPasses_lt_of_left {s t : State} {p : Port} {n : Nat} {l : List Nat} (hd : s.delivery p = n :: l)
    (ht : t.delivery p = (s.delivery p).filter (· ≠ n)) (le : ∀ m, t.passes m ≤ s.passes m) :
    t.listPasses p < s.listPasses p := by
  have shorter : (t.delivery p).Sublist l := by
    rw [ht, hd, List.filter_cons_of_neg (by simp)]
    exact List.filter_sublist
  calc t.listPasses p ≤ (l.map t.passes).sum := (shorter.map _).sum_le_sum fun _ _ => Nat.zero_le _
    _ ≤ (l.map s.passes).sum := List.sum_le_sum fun m _ => le m
    _ < s.listPasses p := by
      have := s.passes_pos n
      simp only [State.listPasses, hd, List.map_cons, List.sum_cons]
      omega

theorem State.passes_setPiece_le {n : Nat} {pc x : Piece} (hn : s.piece? n = some pc)
    (less : x.undelivered ≤ pc.undelivered) (m : Nat) : (s.setPiece n x).passes m ≤ s.passes m := by
  by_cases hm : m = n
  · subst hm
    rw [s.passes_of_some hn, State.passes_of_some _ (s.setPiece_piece_self m x)]
    omega
  · simp only [State.passes, s.setPiece_piece_ne n x m hm, le_refl]

/-- A pass after which the head stays in the list, with fewer blocks to place, leaves fewer. -/
theorem State.listPasses_setPiece_lt {p : Port} {n : Nat} {l : List Nat} {pc x : Piece}
    (hd : s.delivery p = n :: l) (hn : s.piece? n = some pc) (less : x.undelivered < pc.undelivered) :
    (s.setPiece n x).listPasses p < s.listPasses p := by
  have rest := List.sum_le_sum (l := l) fun m _ => s.passes_setPiece_le hn less.le m
  simp only [State.listPasses, State.setPiece_delivery, hd, List.map_cons, List.sum_cons, s.passes_of_some hn,
    State.passes_of_some _ (s.setPiece_piece_self n x)]
  omega

/-- Every pass leaves fewer. -/
theorem State.deliverOne_lt {t : State} {p : Port} (h : s.deliverOne p = some t) :
    t.listPasses p < s.listPasses p := by
  unfold State.deliverOne at h
  split at h
  · cases h
  · rename_i n l hd
    have left : (s.leaveDelivery p n).listPasses p < s.listPasses p :=
      State.listPasses_lt_of_left hd (State.setDelivery_delivery_self _ _ _) fun _ => le_rfl
    split at h
    · cases h
      exact left
    · rename_i pc hn
      split at h
      · rename_i blocks md d q hs hq
        split at h
        · cases h
          by_cases last : blocks ≤ pc.done + min 2 (blocks - pc.done)
          · rw [State.placeData_last last]
            refine State.listPasses_lt_of_left hd ?_ fun m => ?_
            · rw [State.finishIfFinal_delivery, State.lastPlaced_delivery_self]
            · rw [State.finishIfFinal_passes]
              refine State.passes_setPiece_le s hn ?_ m
              rw [Piece.undelivered_of_final (by cases md <;> rfl)]
              exact Nat.zero_le _
          · rw [State.placeData_more (Nat.not_le.1 last)]
            refine s.listPasses_setPiece_lt hd hn (x := Piece.afterFrame pc (min 2 (blocks - pc.done)) blocks md
              (s.now + tens s.ru.deliveryLimit)) ?_
            rw [Piece.undelivered_of_staged hs, Piece.undelivered_of_staged rfl]
            simp only [Piece.afterFrame]
            omega
        · cases h
      · cases h
        exact left

/-- The loop does not depend on its fuel where that is enough. -/
theorem State.deliverLoop_enough (p : Port) (i j : Nat) (hi : s.listPasses p < i) (hj : s.listPasses p < j) :
    State.deliverLoop p i s = State.deliverLoop p j s := by
  induction i generalizing s j with
  | zero => omega
  | succ i ih =>
    obtain ⟨j, rfl⟩ : ∃ m, j = m + 1 := ⟨j - 1, by omega⟩
    cases h : s.deliverOne p with
    | none => rw [s.deliverLoop_stop h, s.deliverLoop_stop h]
    | some t =>
      have := s.deliverOne_lt h
      rw [s.deliverLoop_step h, s.deliverLoop_step h]
      exact ih t j (by omega) (by omega)

theorem State.deliver_of_stop {p : Port} (h : s.deliverOne p = none) : s.deliver p = s := s.deliverLoop_stop h _

/-- Delivery goes on from the state after a pass. -/
theorem State.deliver_of_step {t : State} {p : Port} (h : s.deliverOne p = some t) : s.deliver p = t.deliver p := by
  have := s.deliverOne_lt h
  rw [s.deliver_eq, s.deliverLoop_step h, t.deliver_eq]
  exact t.deliverLoop_enough p _ _ (by omega) (by omega)

/-- Delivery goes on as far as it can. -/
theorem State.deliverOne_deliver (p : Port) : (s.deliver p).deliverOne p = none := by
  induction hk : s.listPasses p using Nat.strong_induction_on generalizing s with
  | _ k ih =>
    cases h : s.deliverOne p with
    | none => rwa [s.deliver_of_stop h]
    | some t =>
      rw [s.deliver_of_step h]
      exact ih _ (hk ▸ s.deliverOne_lt h) t rfl

/-! ### The head of the list -/

section Head
variable {s} {p : Port} {n : Nat} {l : List Nat} {pc : Piece} {q : Request} {k d : Nat} {md : Bool}
  (hd : s.delivery p = n :: l) (hn : s.piece? n = some pc) (hs : pc.state = .staged k md d)
  (hq : s.request? pc.request = some q)
include hd hn hs hq

theorem State.deliver_noRoom (room : s.dataRoom p (min 2 (k - pc.done)) = false) : s.deliver p = s := by
  refine s.deliver_of_stop ?_
  simp only [State.deliverOne, hd, hn, hs, hq, room, Bool.false_eq_true, if_false]

theorem State.deliver_room (room : s.dataRoom p (min 2 (k - pc.done)) = true) :
    s.deliver p = (s.placeData p n pc q (min 2 (k - pc.done)) k md).deliver p := by
  refine s.deliver_of_step ?_
  simp only [State.deliverOne, hd, hn, hs, hq, room, if_true]

end Head

/-! ### The staged report (R64, R73) -/

section Staged
variable {s} {b : Bay} {r : PieceRef} {k : Nat} {md : Bool} {rest : List UnitToRu} {pc : Piece} {q : Request}
  (hm : (s.bmail b).unitToRu = .staged r k md :: rest) (hp : s.pieceOf r = some pc)
  (live : pc.state.final = false) (hq : s.request? pc.request = some q)
include hm hp live hq

theorem State.pieceStaged_overrun (overran : q.overrun = true) : exec (.pieceStagedReport b) s =
    .next ((((s.popUnitReport b rest).ruSend pc.bay (.emptied r)).setPiece r.num
      { pc with state := .failed .overrun, done := 0 }).finishIfFinal pc.request) := by
  have hp : (s.popUnitReport b rest).pieceOf r = some pc := hp
  have hq : (s.popUnitReport b rest).request? pc.request = some q := hq
  rw [State.exec_pieceStaged hm]
  simp only [State.pieceStaged, hp, live, hq, overran, Bool.false_eq_true, if_false, if_true, State.endPiece]

theorem State.pieceStaged_listed (within : q.overrun = false) : exec (.pieceStagedReport b) s =
    .next ((((s.popUnitReport b rest).setPiece r.num
      { pc with state := .staged k md (s.now + tens s.ru.deliveryLimit) }).setDelivery q.port
        (s.delivery q.port ++ [r.num])).deliver q.port) := by
  have hp : (s.popUnitReport b rest).pieceOf r = some pc := hp
  have hq : (s.popUnitReport b rest).request? pc.request = some q := hq
  rw [State.exec_pieceStaged hm]
  simp only [State.pieceStaged, hp, live, hq, within, Bool.false_eq_true, if_false]
  rfl

end Staged

/-- Room reported on a port, and its link going DOWN or UP, deliver from its list (R71, R74). -/
theorem State.exec_portReport {p : Port} {c : Instr} {m : PortToRu} {rest : List PortToRu}
    (hc : (c = .egressRoom p ∧ m = .room) ∨ (c = .portLinkChange p ∧ m = .linkDown) ∨
      (c = .portLinkChange p ∧ m = .linkUp)) (hm : (s.pmail p).toRu = m :: rest) :
    exec c s = .next ((s.popPortReport p rest).deliver p) := by
  rcases hc with ⟨rfl, rfl⟩ | ⟨rfl, rfl⟩ | ⟨rfl, rfl⟩
  · simp only [exec, execEgressRoom, hm]
  · simp only [exec, execPortLinkChange, hm]
  · simp only [exec, execPortLinkChange, hm]

/-! ### O30 -/

/-- Settles O30: delivery is one pass after another, each of which leaves fewer blocks to place, so that it goes on
from the state after a pass and ends where none can be made. -/
theorem delivery : Obligations.Delivery := by
  intro s p
  refine ⟨fun b r k md rest pc q hm hp live hq => ⟨fun overran => ?_, fun within => ?_⟩,
    fun c m rest hc hm => s.exec_portReport hc hm, fun empty => ?_, ?_, fun n rest hd => ?_⟩
  · have work := (s.setPiece_becomes r.num { pc with state := .failed .overrun, done := 0 } hq).of_same
      (s' := s) (t' := ((s.popUnitReport b rest).ruSend pc.bay (.emptied r)).setPiece r.num
        { pc with state := .failed .overrun, done := 0 }) rfl rfl
    refine ⟨_, State.pieceStaged_overrun hm hp live hq overran, ?_, work.piece, work.request, work.others, rfl,
      fun c => ?_⟩
    · exact ((s.popUnitReport_unchanged b rest).mono (by simp)).trans
        (((State.ruSend_unchanged _ _ _).mono (by simp)).trans ((State.setPiece_unchanged _ _ _).mono (by simp)))
    · refine ((s.popUnitReport b rest).ruSend_told pc.bay (.emptied r) c).trans ?_
      by_cases hc : c = b
      · subst hc
        simp [State.toldUnit, eq_comm]
      · simp [State.toldUnit, State.popUnitReport, State.setBmail_bmail_ne _ _ _ _ hc, hc, eq_comm]
  · have reported := State.reported_of_ru (s := s) (b := b) (rest := rest)
      (((s.popUnitReport b rest).setPiece_unchanged r.num
        { pc with state := .staged k md (s.now + tens s.ru.deliveryLimit) }).trans
        (State.setDelivery_unchanged _ q.port (s.delivery q.port ++ [r.num])))
      ((State.setPiece_becomes _ _ _ hq).of_same rfl rfl)
    exact ⟨_, State.pieceStaged_listed hm hp live hq within, reported.only, reported.mail, reported.work.piece,
      reported.work.request, reported.work.others, State.setDelivery_delivery_self _ _ _,
      fun j hj => State.setDelivery_delivery_ne _ _ _ _ hj⟩
  · refine s.deliver_of_stop ?_
    simp only [State.deliverOne, empty]
  · rintro n l pc q k md d blocks hd hn hs hq rfl
    refine ⟨State.deliver_noRoom hd hn hs hq, fun more room => ?_, fun _ last room => ?_⟩
    · have two : min 2 (k - pc.done) = 2 := by omega
      have pass := State.deliver_room hd hn hs hq (by rwa [two])
      have work : s.WorkBecomes _ n (Piece.afterFrame pc 2 k md (s.now + tens s.ru.deliveryLimit)) pc.request q :=
        State.dataPlaced_becomes (p := p) (pc := pc) (k := 2) _ hq
      rw [two, State.placeData_more more] at pass
      rw [two]
      exact ⟨_, pass,
        ((s.place_unchanged p _).mono (by simp)).trans ((State.setPiece_unchanged _ _ _).mono (by simp)),
        rfl, work.piece, work.request, work.others, rfl⟩
    · have all : min 2 (k - pc.done) = k - pc.done := by omega
      have whole : pc.done + (k - pc.done) = k := by omega
      have pass := State.deliver_room hd hn hs hq (by rwa [all])
      have work : s.WorkBecomes (s.lastPlaced p n pc q (k - pc.done) md) n (Piece.afterLast pc (k - pc.done) md)
          pc.request q := (State.dataPlaced_becomes (p := p) (pc := pc) _ hq).of_same rfl rfl
      rw [all, State.placeData_last whole.ge] at pass
      rw [all]
      refine ⟨_, pass, State.lastPlaced_unchanged, rfl, work.piece.trans ?_, work.request, work.others, ?_,
        fun j hj => State.lastPlaced_delivery_ne hj, fun c hc => State.lastPlaced_bmail_ne hc,
        State.lastPlaced_bmail_self⟩
      · rw [Piece.afterLast, whole]
      · rw [State.lastPlaced_delivery_self, hd, List.filter_cons_of_neg (by simp)]
  · obtain ⟨pc, q, k, md, d, hn, hs, hq, room⟩ := (s.deliver p).deliverOne_none (s.deliverOne_deliver p) hd
    exact ⟨pc, q, k, md, d, hn, hs, hq, room⟩

end Sys2Proof.Machine
end

section
/-! SUPPORT. The ends of FETCH, STORE and PROBE at a drive unit (R66, R67, R91, R93 to R95, R138), and O38. -/

namespace Sys2Proof.Machine

variable (s : State) (b : Bay)

/-! ### A unit that has reached READY (R89, R138) -/

theorem DriveUnit.idleCheck_of_not_ready {u : DriveUnit} (h : u.state ≠ .ready) (now : Nat) :
    u.idleCheck now = { u with idleTimer := none } := by
  simp [DriveUnit.idleCheck, DriveUnit.idleConditions, h]

@[simp] theorem State.releaseHand_unit : (s.releaseHand b).unit b = { s.unit b with hand := none } := by
  cases hh : (s.unit b).hand with
  | none =>
    simp only [State.releaseHand, hh]
    rw [← hh]
  | some j => simp [State.releaseHand, hh]

@[simp] theorem State.releaseHand_controls : (s.releaseHand b).controls b = s.controls b := by
  cases hh : (s.unit b).hand <;> simp [State.releaseHand, hh]

@[simp] theorem State.releaseHand_now : (s.releaseHand b).now = s.now := by
  cases hh : (s.unit b).hand <;> simp [State.releaseHand, hh]

@[simp] theorem State.releaseHand_bmail : (s.releaseHand b).bmail b =
    { s.bmail b with unitToRu := (s.bmail b).unitToRu ++ DriveUnit.handReleased (s.unit b) } := by
  cases hh : (s.unit b).hand <;> simp [State.releaseHand, DriveUnit.handReleased, hh]

theorem Service.outputs_outputs (c : Service) (x y : DriveState) : (c.outputs x).outputs y = c.outputs y := rfl

/-- A command that leaves the unit of a bay with nothing in flight, and then READY. -/
theorem State.readyAs_of_ready {t : State} {i : Instr} {v : DriveUnit} {m : BayMail}
    (next : exec i s = .next (t.ready b)) (only : OnlyBay bayParts b s t) (unit : t.unit b = DriveUnit.quiet v)
    (controls : t.controls b = s.controls b) (mail : t.bmail b = m) : s.ReadyAs i b v m := by
  have now : t.now = s.now := only.1 .now (by simp)
  have ready := only.trans (t.enter_onlyBay b .ready)
  have under : ((t.enter b .ready).unit b).releaseUnderWay = v.releaseUnderWay := by
    simp only [State.enter_unit, unit]
    rfl
  refine ⟨fun free => ⟨t.enter b .ready, ?_, ready, ?_, ?_, ?_⟩, fun released =>
    ⟨(((t.enter b .ready).releaseHand b).releaseSpinDown b).idle b, ?_, ?_, ?_, ?_, ?_⟩⟩
  · simp only [next, State.ready, under, free, Bool.false_eq_true, if_false]
  · rw [t.enter_unit, unit]
  · rw [t.enter_controls, controls]
  · rw [t.enter_bmail, mail]
  · simp only [next, State.ready, under, released, if_true]
  · exact ((ready.trans (State.releaseHand_onlyBay _ b)).trans (State.releaseSpinDown_onlyBay _ b)).trans
      (State.idle_onlyBay _ b)
  · simp only [State.releaseSpinDown, State.idle_unit, State.enter_unit, State.issue_unit, State.releaseHand_unit,
      State.enter_now, State.issue_now, State.releaseHand_now, unit, now]
    rw [DriveUnit.idleCheck_of_not_ready (by simp)]
    rfl
  · simp only [State.releaseSpinDown, State.idle_controls, State.enter_controls, State.issue_controls,
      State.releaseHand_controls, controls, Service.outputs_outputs]
  · simp only [State.releaseSpinDown, State.idle_bmail, State.enter_bmail, State.issue_bmail,
      State.releaseHand_bmail, State.enter_unit, unit, mail]
    rfl

/-! ### A unit written -/

/-- The unit of a bay becomes `x`; its controls and its channels, every other bay and every other part are
unchanged. -/
structure State.UnitBecomes (s t : State) (b : Bay) (x : DriveUnit) : Prop where
  only : OnlyBay bayParts b s t
  unit : t.unit b = x
  controls : t.controls b = s.controls b
  mail : t.bmail b = s.bmail b

theorem State.modUnit_becomes (f : DriveUnit → DriveUnit) : s.UnitBecomes (s.modUnit b f) b (f (s.unit b)) :=
  ⟨s.modUnit_onlyBay b f, s.modUnit_unit b f, s.modUnit_controls b f, s.modUnit_bmail b f⟩

theorem State.UnitBecomes.modUnit {s t : State} {b : Bay} {x : DriveUnit} (h : s.UnitBecomes t b x)
    (f : DriveUnit → DriveUnit) : s.UnitBecomes (t.modUnit b f) b (f x) :=
  ⟨h.only.trans (t.modUnit_onlyBay b f), by rw [t.modUnit_unit, h.unit], by rw [t.modUnit_controls, h.controls],
    by rw [t.modUnit_bmail, h.mail]⟩

/-- A command that reports the outcome `r` of a piece and leaves its unit READY. -/
theorem State.UnitBecomes.readyAs {s t : State} {b : Bay} {i : Instr} {v : DriveUnit} {r : UnitToRu}
    (h : s.UnitBecomes t b (DriveUnit.quiet v)) (next : exec i s = .next ((t.tellRu b r).ready b)) :
    s.ReadyAs i b v { s.bmail b with unitToRu := (s.bmail b).unitToRu ++ [r] } :=
  s.readyAs_of_ready b next (h.only.trans (t.tellRu_onlyBay b r)) (by rw [t.tellRu_unit, h.unit])
    (by rw [t.tellRu_controls, h.controls]) (by rw [t.tellRu_bmail, h.mail])

/-! ### Completions -/

theorem bump_eq (n : Nat) : bump n = min 4294967295 (n + 1) := by
  unfold bump
  split <;> omega

theorem State.flying_of_inFlight {n : Nat} {c : DriveCmd} (h : (s.unit b).inFlight = some (n, c)) :
    s.flying b n = some c := by
  simp only [State.flying, h, if_true]

theorem State.flying_none {n : Nat} (h : ∀ c, (s.unit b).inFlight ≠ some (n, c)) : s.flying b n = none := by
  unfold State.flying
  split
  · rename_i m c hc
    by_cases hm : m = n
    · exact absurd (hm ▸ hc) (h c)
    · rw [if_neg hm]
  · rfl

section Outcomes
variable {s} {b} {n : Nat} {j : Job} {c : DriveCmd} (hh : (s.unit b).hand = some j)

/-- The unit with its command over and its piece given its outcome. -/
theorem State.handOver_becomes : s.UnitBecomes ((s.endCommand b).clearHand b) b
    (DriveUnit.quiet { s.unit b with hand := none }) := (s.modUnit_becomes b _).modUnit _

/-- The same with the media error counted. -/
theorem State.handOver_counted : s.UnitBecomes (((s.countMedia b).endCommand b).clearHand b) b
    (DriveUnit.quiet { s.unit b with
      hand := none, mediaErrors := min 4294967295 ((s.unit b).mediaErrors + 1) }) := by
  rw [← bump_eq]
  exact ((s.modUnit_becomes b _).modUnit _).modUnit _

/-- A STORE or PROBE that meets a media error with `done` blocks of its piece handled (R95). -/
theorem State.pieceMedia_readyAs {i : Instr} {done : Nat} (next : exec i s = .next (s.pieceMedia b j done)) :
    s.ReadyAs i b { s.unit b with hand := none, mediaErrors := min 4294967295 ((s.unit b).mediaErrors + 1) }
      { s.bmail b with unitToRu := (s.bmail b).unitToRu ++ [.failed j.piece .mediaError done] } :=
  (State.handOver_counted (s := s)).readyAs next

include hh

/-! #### FETCH (R91) -/

section Fetch
variable {start len : Nat} (hc : (s.unit b).inFlight = some (n, .fetch start len))
include hc

theorem State.exec_fetch_good {bs : List Block} (hl : bs.length = len) :
    exec (.fetchCompletion b n (.good bs)) s = .next (s.fetched b j bs false) := by
  simp only [exec, execFetchCompletion, s.flying_of_inFlight b hc, hh, hl, if_true]

theorem State.exec_fetch_media {bs : List Block} (hl : bs.length < len) :
    exec (.fetchCompletion b n (.media bs)) s = .next (s.fetched b j bs true) := by
  simp only [exec, execFetchCompletion, s.flying_of_inFlight b hc, hh, hl, if_true]

theorem State.fetch_good_readyAs {bs : List Block} (hl : bs.length = len) :
    s.ReadyAs (.fetchCompletion b n (.good bs)) b
      { s.unit b with hand := none, staging := some { piece := j.piece, blocks := bs } }
      { s.bmail b with unitToRu := (s.bmail b).unitToRu ++ [.staged j.piece len false] } := by
  refine ((State.handOver_becomes (s := s)).modUnit fun u =>
    { u with staging := some { piece := j.piece, blocks := bs } }).readyAs ?_
  simp only [State.exec_fetch_good hh hc hl, State.fetched, Bool.false_eq_true, and_false, if_false, hl]

theorem State.fetch_media_readyAs {bs : List Block} (any : bs ≠ []) (hl : bs.length < len) :
    s.ReadyAs (.fetchCompletion b n (.media bs)) b
      { s.unit b with
        hand := none, mediaErrors := min 4294967295 ((s.unit b).mediaErrors + 1),
        staging := some { piece := j.piece, blocks := bs } }
      { s.bmail b with unitToRu := (s.bmail b).unitToRu ++ [.staged j.piece bs.length true] } := by
  refine ((State.handOver_counted (s := s)).modUnit fun u =>
    { u with staging := some { piece := j.piece, blocks := bs } }).readyAs ?_
  simp only [State.exec_fetch_media hh hc hl, State.fetched, List.isEmpty_iff, any, false_and, if_false, if_true]

theorem State.fetch_none_readyAs (hl : 0 < len) : s.ReadyAs (.fetchCompletion b n (.media [])) b
    { s.unit b with hand := none, mediaErrors := min 4294967295 ((s.unit b).mediaErrors + 1) }
    { s.bmail b with unitToRu := (s.bmail b).unitToRu ++ [.failed j.piece .mediaError 0] } := by
  refine (State.handOver_counted (s := s)).readyAs ?_
  simp only [State.exec_fetch_media (bs := []) hh hc hl, State.fetched, List.isEmpty_nil, and_self, if_true]

end Fetch

/-! #### STORE (R93) -/

section Store
variable {start : Nat} {data : List Block} (hc : (s.unit b).inFlight = some (n, .store start data))
include hc

theorem State.store_good_readyAs : s.ReadyAs (.storeCompletion b n .good) b { s.unit b with hand := none }
    { s.bmail b with unitToRu := (s.bmail b).unitToRu ++ [.done j.piece] } := by
  refine (State.handOver_becomes (s := s)).readyAs ?_
  simp only [exec, execStoreCompletion, s.flying_of_inFlight b hc, hh, State.stored]

theorem State.exec_store_media {k : Nat} (hk : k < data.length) :
    exec (.storeCompletion b n (.media k)) s = .next (s.pieceMedia b j k) := by
  simp only [exec, execStoreCompletion, s.flying_of_inFlight b hc, hh, hk, if_true]

end Store

/-! #### PROBE (R66, R94) -/

section Probe
variable {start len : Nat} (hc : (s.unit b).inFlight = some (n, .probe start len))
include hc

theorem State.exec_probe_good : exec (.probeCompletion b n .good) s = .next (s.probed b j len) := by
  simp only [exec, execProbeCompletion, s.flying_of_inFlight b hc, hh]

theorem State.exec_probe_media {k : Nat} (hk : k < len) :
    exec (.probeCompletion b n (.media k)) s = .next (s.pieceMedia b j (j.done + k)) := by
  simp only [exec, execProbeCompletion, s.flying_of_inFlight b hc, hh, hk, if_true]

/-- A CHECK piece whose last run is good is done (R66). -/
theorem State.probe_last_readyAs (last : j.length ≤ j.done + len) :
    s.ReadyAs (.probeCompletion b n .good) b { s.unit b with hand := none }
      { s.bmail b with unitToRu := (s.bmail b).unitToRu ++ [.done j.piece] } := by
  refine (State.handOver_becomes (s := s)).readyAs ?_
  simp only [State.exec_probe_good hh hc, State.probed, last, if_true]

variable (more : j.done + len < j.length)
include more

/-- Between two runs a release ends the piece (R138, R139). -/
theorem State.probe_released_readyAs (released : (s.unit b).releaseUnderWay = true) :
    s.ReadyAs (.probeCompletion b n .good) b { s.unit b with hand := none }
      { s.bmail b with
        unitToRu := (s.bmail b).unitToRu ++ [.failed j.piece .bayReleased (j.done + len)] } := by
  refine (State.handOver_becomes (s := s)).readyAs ?_
  simp only [State.exec_probe_good hh hc, State.probed, if_neg (Nat.not_le.2 more), released, if_true]

variable (free : (s.unit b).releaseUnderWay = false)
include free

/-- Between two runs the end cause of the request ends the piece (R66). -/
theorem State.probe_aborted_readyAs {e : EndCause} (cause : s.abortCause j.piece = some e) :
    s.ReadyAs (.probeCompletion b n .good) b { s.unit b with hand := none }
      { s.bmail b with
        unitToRu := (s.bmail b).unitToRu ++ [.failed j.piece e.reason (j.done + len)] } := by
  refine (State.handOver_becomes (s := s)).readyAs ?_
  simp only [State.exec_probe_good hh hc, State.probed, if_neg (Nat.not_le.2 more), free, Bool.false_eq_true,
    if_false, cause]

/-- With neither the piece goes on in hand (R94). -/
theorem State.probe_goesOn_readyAs (none : s.abortCause j.piece = none) :
    s.ReadyAs (.probeCompletion b n .good) b { s.unit b with hand := some { j with done := j.done + len } }
      (s.bmail b) := by
  obtain ⟨only, unit, controls, mail⟩ := (s.modUnit_becomes b DriveUnit.endCommand).modUnit fun u =>
    { u with hand := some { j with done := j.done + len } }
  refine s.readyAs_of_ready b ?_ only unit controls mail
  simp only [State.exec_probe_good hh hc, State.probed, if_neg (Nat.not_le.2 more), free, Bool.false_eq_true,
    if_false, none]
  rfl

end Probe

end Outcomes

/-- A completion that names another command than the one in flight arrives late (R86, R96, R141). -/
theorem State.exec_late {n : Nat} (late : ∀ c, (s.unit b).inFlight ≠ some (n, c)) {i : Instr} {x : IdentifyOutcome}
    {y : FetchOutcome} {o : CmdOutcome}
    (hi : i = .identifyCompletion b n x ∨ i = .fetchCompletion b n y ∨ i = .storeCompletion b n o ∨
      i = .probeCompletion b n o ∨ i = .zeroCompletion b n o ∨ i = .spinUpCompletion b n o ∨
      i = .spinDownCompletion b n o) : exec i s = .next s := by
  have none := s.flying_none b late
  rcases hi with rfl | rfl | rfl | rfl | rfl | rfl | rfl
  · simp only [exec, execIdentifyCompletion, none]
  · simp only [exec, execFetchCompletion, none]
  · simp only [exec, execStoreCompletion, none]
  · simp only [exec, execProbeCompletion, none]
  · simp only [exec, execZeroCompletion, none]
  · simp only [exec, execSpinUpCompletion, none]
  · simp only [exec, execSpinDownCompletion, none]

/-- Settles O38: each end gives the piece its outcome, tells the request unit, and leaves the unit READY. -/
theorem transferCompletions : Obligations.TransferCompletions := by
  rintro s b _ n rfl
  refine ⟨fun c j hc hh => ⟨?_, ?_, ?_⟩, fun late i x y o hi => s.exec_late b late hi⟩
  · rintro start len bs rfl
    exact ⟨State.fetch_good_readyAs hh hc, State.fetch_media_readyAs hh hc, State.fetch_none_readyAs hh hc⟩
  · rintro start data k rfl
    exact ⟨State.store_good_readyAs hh hc,
      fun hk => State.pieceMedia_readyAs (State.exec_store_media hh hc hk)⟩
  · rintro start len k rfl
    exact ⟨fun hk => State.pieceMedia_readyAs (State.exec_probe_media hh hc hk),
      State.probe_last_readyAs hh hc, fun more =>
        ⟨State.probe_released_readyAs hh hc more, fun free =>
          ⟨fun e => State.probe_aborted_readyAs hh hc more free, State.probe_goesOn_readyAs hh hc more free⟩⟩⟩

end Sys2Proof.Machine
end

section
/-! SUPPORT. One bay followed through the operations of its drive unit: the unit, the service controls and the
channels after each of them, and the parts written on the way. -/

namespace Sys2Proof.Machine

/-- From `s` to `t` only parts `l` and only bay `b` are written; then the unit of the bay is `u`, its service
controls are `c`, its channels `m`, and the clock stands where it stood. -/
structure State.BayIs (s t : State) (l : List Part) (b : Bay) (u : DriveUnit) (c : Service) (m : BayMail) :
    Prop where
  only : OnlyBay l b s t
  unit : t.unit b = u
  controls : t.controls b = c
  mail : t.bmail b = m
  now : t.now = s.now

theorem State.bayIs (s : State) (l : List Part) (b : Bay) :
    s.BayIs s l b (s.unit b) (s.controls b) (s.bmail b) :=
  ⟨.refl l b s, rfl, rfl, rfl, rfl⟩

namespace State.BayIs

variable {s t : State} {l : List Part} {b : Bay} {u : DriveUnit} {c : Service} {m : BayMail}

/-! The writers, for any parts that hold the one written. -/

theorem setUnit_of_mem (h : s.BayIs t l b u c m) (hl : Part.units ∈ l) (v : DriveUnit) :
    s.BayIs (t.setUnit b v) l b v c m :=
  ⟨h.only.trans ⟨(t.setUnit_unchanged b v).mono (by simpa using hl), t.setUnit_otherBays b v⟩,
    t.setUnit_unit_self b v, h.controls, h.mail, h.now⟩

theorem modUnit_of_mem (h : s.BayIs t l b u c m) (hl : Part.units ∈ l) (f : DriveUnit → DriveUnit) :
    s.BayIs (t.modUnit b f) l b (f u) c m := by
  rw [← h.unit]
  exact h.setUnit_of_mem hl (f (t.unit b))

theorem idle_of_mem (h : s.BayIs t l b u c m) (hl : Part.units ∈ l) :
    s.BayIs (t.idle b) l b (u.idleCheck s.now) c m := by
  rw [← h.now]
  exact h.modUnit_of_mem hl _

theorem setControls_of_mem (h : s.BayIs t l b u c m) (hl : Part.svc ∈ l) (x : Service) :
    s.BayIs (t.setControls b x) l b u x m :=
  ⟨h.only.trans ⟨(t.setControls_unchanged b x).mono (by simpa using hl), t.setControls_otherBays b x⟩,
    h.unit, t.setControls_controls_self b x, h.mail, h.now⟩

theorem issue_of_mem (h : s.BayIs t l b u c m) (hl : Part.units ∈ l) (x : DriveCmd) :
    s.BayIs (t.issue b x) l b (u.issue x s.now) c m := by
  rw [← h.now]
  exact h.modUnit_of_mem hl _

theorem enter_of_mem (h : s.BayIs t l b u c m) (hu : Part.units ∈ l) (hc : Part.svc ∈ l) (st : DriveState) :
    s.BayIs (t.enter b st) l b { u with state := st } (c.outputs st) m := by
  rw [← h.controls]
  exact (h.modUnit_of_mem hu fun u => { u with state := st }).setControls_of_mem hc _

theorem setBmail_of_mem (h : s.BayIs t l b u c m) (hl : Part.bayMail ∈ l) (x : BayMail) :
    s.BayIs (t.setBmail b x) l b u c x :=
  ⟨h.only.trans ⟨(t.setBmail_unchanged b x).mono (by simpa using hl), t.setBmail_otherBays b x⟩,
    h.unit, h.controls, t.setBmail_bmail_self b x, h.now⟩

theorem tellRu_of_mem (h : s.BayIs t l b u c m) (hl : Part.bayMail ∈ l) (r : UnitToRu) :
    s.BayIs (t.tellRu b r) l b u c { m with unitToRu := m.unitToRu ++ [r] } := by
  rw [← h.mail]
  exact h.setBmail_of_mem hl _

theorem tellLm_of_mem (h : s.BayIs t l b u c m) (hl : Part.bayMail ∈ l) (r : UnitToLm) :
    s.BayIs (t.tellLm b r) l b u c { m with unitToLm := m.unitToLm ++ [r] } := by
  rw [← h.mail]
  exact h.setBmail_of_mem hl _

/-! The operations, where all parts of a bay may be written. -/

section All
variable (h : s.BayIs t bayParts b u c m)
include h

theorem modUnit (f : DriveUnit → DriveUnit) : s.BayIs (t.modUnit b f) bayParts b (f u) c m :=
  h.modUnit_of_mem (by simp) f

theorem setControls (x : Service) : s.BayIs (t.setControls b x) bayParts b u x m :=
  h.setControls_of_mem (by simp) x

theorem setBmail (x : BayMail) : s.BayIs (t.setBmail b x) bayParts b u c x := h.setBmail_of_mem (by simp) x

theorem enter (st : DriveState) : s.BayIs (t.enter b st) bayParts b { u with state := st } (c.outputs st) m :=
  h.enter_of_mem (by simp) (by simp) st

theorem idle : s.BayIs (t.idle b) bayParts b (u.idleCheck s.now) c m := h.idle_of_mem (by simp)

theorem issue (x : DriveCmd) : s.BayIs (t.issue b x) bayParts b (u.issue x s.now) c m :=
  h.issue_of_mem (by simp) x

theorem tellRu (r : UnitToRu) : s.BayIs (t.tellRu b r) bayParts b u c { m with unitToRu := m.unitToRu ++ [r] } :=
  h.tellRu_of_mem (by simp) r

theorem tellLm (r : UnitToLm) : s.BayIs (t.tellLm b r) bayParts b u c { m with unitToLm := m.unitToLm ++ [r] } :=
  h.tellLm_of_mem (by simp) r

theorem tellArb (r : UnitToArb) :
    s.BayIs (t.tellArb b r) bayParts b u c { m with unitToArb := m.unitToArb ++ [r] } := by
  rw [← h.mail]
  exact h.setBmail _

theorem unitNotice (n : Notice) (settled : settledChannel m.unitToAgent = true) :
    s.BayIs (t.unitNotice b n) bayParts b u c { m with unitToAgent := m.unitToAgent ++ [.notice n] } := by
  rw [← h.mail] at settled ⊢
  rw [t.unitNotice_eq b n settled]
  exact h.setBmail _

/-- The state of the unit and its outputs, where the unit has entered a drive state. -/
theorem becomes {st : DriveState} {v : DriveUnit} (hu : u = { v with state := st })
    (hc : c = (s.controls b).outputs st) : s.BayBecomes t b v st m :=
  ⟨h.only, h.unit.trans hu, h.controls.trans hc, h.mail⟩

end All

end State.BayIs

/-! ### Commands issued and the idle timer (R96, R101) -/

/-- Every command but SPIN-UP runs under the piece limit. -/
theorem DriveUnit.issue_eq_issuing (u : DriveUnit) {x : DriveCmd} (h : x ≠ .spinUp) (now : Nat) :
    u.issue x now = DriveUnit.issuing u x now := by
  simp only [DriveUnit.issue, DriveUnit.issuing, if_neg h]

theorem Job.command_ne_spinUp (j : Job) : j.command ≠ .spinUp := by
  unfold Job.command
  split <;> simp

theorem DriveUnit.idleConditions_iff (u : DriveUnit) : u.idleConditions = true ↔
    u.state = .ready ∧ u.queue = [] ∧ u.hand = none ∧ u.staging = none ∧ u.engine.list = [] ∧
      u.engine.state = .empty ∧ u.clearWaiting = false ∧ u.params.keepSpinning = false ∧
      u.releaseUnderWay = false := by
  simp only [DriveUnit.idleConditions, Bool.and_eq_true, beq_iff_eq, List.isEmpty_iff, Option.isNone_iff_eq_none,
    Bool.not_eq_true', and_assoc]

/-- The idle timer goes on or is set while the conditions hold. -/
theorem DriveUnit.idleCheck_runs {u : DriveUnit} (h : u.idleConditions = true) (now : Nat) : u.idleCheck now =
    { u with idleTimer := some (u.idleTimer.getD (now + idleTime u.params.idleFactor u.params.idleLong)) } := by
  cases e : u.idleTimer with
  | none => simp only [DriveUnit.idleCheck, h, e, if_true, Option.isSome_none, Bool.false_eq_true, if_false,
      Option.getD_none]
  | some d =>
    simp only [DriveUnit.idleCheck, h, e, if_true, Option.isSome_some, Option.getD_some]
    rw [← e]

theorem DriveUnit.idleCheck_stops {u : DriveUnit} (h : ¬ u.idleConditions = true) (now : Nat) :
    u.idleCheck now = { u with idleTimer := none } := by
  simp only [DriveUnit.idleCheck, if_neg h]

/-! ### The choice (R89) -/

section Choice
variable (s : State) (b : Bay)

theorem State.choose_of_not_ready (h : (s.unit b).state ≠ .ready) : s.choose b = s.idle b := by
  simp only [State.choose, if_pos (Or.inl h : _ ∨ (s.unit b).staging.isSome = true)]

theorem State.choose_of_staged (h : (s.unit b).staging ≠ none) : s.choose b = s.idle b := by
  have staged : (s.unit b).staging.isSome = true := Option.isSome_iff_ne_none.2 h
  simp only [State.choose, if_pos (Or.inr staged : (s.unit b).state ≠ .ready ∨ _)]

variable {s} {b} (ready : (s.unit b).state = .ready) (free : (s.unit b).staging = none)
include ready free

theorem State.choose_of_free : ¬ ((s.unit b).state ≠ .ready ∨ (s.unit b).staging.isSome = true) := by
  simp only [ready, free, ne_eq, not_true_eq_false, Option.isSome_none, Bool.false_eq_true, or_self, not_false_iff]

/-- A sweep that is due issues its next chunk (R89 case 2). -/
theorem State.choose_sweep {x : Extent} (due : (s.unit b).sweepDue = true)
    (worked : (s.unit b).engine.worked = some x) :
    s.BayBecomes (s.choose b) b
      { DriveUnit.issuing { s.unit b with pauseCounter := 0 } x.chunk s.now with idleTimer := none } .active
      (s.bmail b) := by
  simp only [State.choose, if_neg (State.choose_of_free ready free), due, worked]
  have h := ((((s.bayIs bayParts b).modUnit fun u => { u with pauseCounter := 0 }).issue x.chunk).enter
    .active).idle
  rw [DriveUnit.issue_eq_issuing _ (by simp [Extent.chunk]), DriveUnit.idleCheck_of_not_ready (by simp)] at h
  exact h.becomes rfl rfl

variable (notDue : (s.unit b).sweepDue = false)
include notDue

/-- Else a CHECK piece in hand goes on (R89 case 3). -/
theorem State.choose_hand {j : Job} (hand : (s.unit b).hand = some j) :
    s.BayBecomes (s.choose b) b
      { DriveUnit.issuing (DriveUnit.countPiece (s.unit b)) j.command s.now with idleTimer := none } .active
      (s.bmail b) := by
  simp only [State.choose, if_neg (State.choose_of_free ready free), notDue, hand]
  have h := ((((s.bayIs bayParts b).modUnit DriveUnit.countPiece).issue j.command).enter .active).idle
  rw [DriveUnit.issue_eq_issuing _ (Job.command_ne_spinUp j), DriveUnit.idleCheck_of_not_ready (by simp)] at h
  exact h.becomes rfl rfl

/-- Else the head of the queue is started (R89 case 4). -/
theorem State.choose_head {j : Job} {rest : List Job} (hand : (s.unit b).hand = none)
    (queue : (s.unit b).queue = j :: rest) :
    s.BayBecomes (s.choose b) b
      { DriveUnit.issuing { DriveUnit.countPiece (s.unit b) with hand := some j, queue := rest } j.command s.now
        with idleTimer := none } .active
      { s.bmail b with unitToRu := (s.bmail b).unitToRu ++ [.started j.piece] } := by
  simp only [State.choose, if_neg (State.choose_of_free ready free), notDue, hand, queue]
  have h := (((((s.bayIs bayParts b).modUnit fun u =>
    { DriveUnit.countPiece u with hand := some j, queue := rest }).issue j.command).enter .active).tellRu
      (.started j.piece)).idle
  rw [DriveUnit.issue_eq_issuing _ (Job.command_ne_spinUp j), DriveUnit.idleCheck_of_not_ready (by simp)] at h
  exact h.becomes rfl rfl

/-- Else nothing is started (R89 case 5). -/
theorem State.choose_nothing (hand : (s.unit b).hand = none) (queue : (s.unit b).queue = []) :
    s.choose b = s.idle b := by
  simp only [State.choose, if_neg (State.choose_of_free ready free), notDue, hand, queue]

end Choice

end Sys2Proof.Machine
end

section
/-! SUPPORT. The choice of a drive unit (R89), and O34. -/

namespace Sys2Proof.Machine

/-- The pause allowance counter stops at 64 (R90). -/
theorem DriveUnit.countPiece_eq (u : DriveUnit) :
    DriveUnit.countPiece u = { u with pauseCounter := min 64 (u.pauseCounter + 1) } := by
  have h : (if u.pauseCounter < 64 then u.pauseCounter + 1 else 64) = min 64 (u.pauseCounter + 1) := by
    split <;> omega
  simp only [DriveUnit.countPiece, h]

/-- A sweep with a CURRENT extent is due where no piece waits or the allowance is used up (R89, R90). -/
theorem DriveUnit.sweepDue_of_worked {u : DriveUnit} {x : Extent} (sweeping : u.engine.state = .sweeping)
    (worked : u.engine.worked = some x)
    (h : (u.hand = none ∧ u.queue = []) ∨ u.params.allowance ≤ u.pauseCounter) : u.sweepDue = true := by
  simpa [DriveUnit.sweepDue, sweeping, worked] using h

theorem DriveUnit.sweepDue_eq_false {u : DriveUnit}
    (h : u.engine.state ≠ .sweeping ∨ (∀ x ∈ u.engine.list, x.current = false) ∨
      ((u.hand ≠ none ∨ u.queue ≠ []) ∧ u.pauseCounter < u.params.allowance)) : u.sweepDue = false := by
  rcases h with h | h | ⟨waits, h⟩
  · simp [DriveUnit.sweepDue, h]
  · have none : u.engine.worked = none := List.find?_eq_none.2 fun x hx => by simp [h x hx]
    simp [DriveUnit.sweepDue, none]
  · have queue : u.hand = none → u.queue ≠ [] := fun hand => waits.resolve_left fun k => k hand
    simp [DriveUnit.sweepDue, Nat.not_le.2 h]
    exact fun _ _ => queue

/-- Settles O34: the choice follows its cases in their order, of which a due sweep comes first. -/
theorem choiceLaw : Obligations.ChoiceLaw := by
  refine ⟨fun s b => s.choose_of_not_ready b, ?_, fun j => ⟨?_, ?_, ?_⟩⟩
  · rintro s b _ rfl ready
    refine ⟨fun staged => s.choose_of_staged b staged, ?_, fun free h => ?_⟩
    · intro free sweeping waits x worked
      simp only [List.append_nil]
      exact State.choose_sweep ready free (DriveUnit.sweepDue_of_worked sweeping worked waits) worked
    · have notDue := DriveUnit.sweepDue_eq_false h
      refine ⟨fun j hand => ?_, fun j rest hand queue => ?_, State.choose_nothing ready free notDue⟩
      · simp only [List.append_nil]
        have h := State.choose_hand ready free notDue hand
        rwa [DriveUnit.countPiece_eq] at h
      · have h := State.choose_head ready free notDue hand queue
        rwa [DriveUnit.countPiece_eq] at h
  · intro kind
    simp only [Job.command, kind]
  · intro kind
    simp only [Job.command, kind]
  · intro kind
    simp only [Job.command, kind]

end Sys2Proof.Machine
end

section
/-! SUPPORT. Pieces, withdrawals and emptied staging buffers at a drive unit (R87, R88, R92), the idle timer and
the values a drive unit takes (R101 to R103, R174): O33 and O35. -/

namespace Sys2Proof.Machine

/-! ### A unit that has come to have work (R87, R99, R120) -/

section Work
variable {s t : State} {l : List Part} {b : Bay} {u : DriveUnit} {c : Service} {m : BayMail}

/-- A STANDBY unit with work asks for a spin-up. -/
theorem State.BayIs.workWakes (h : s.BayIs t bayParts b u c m) (standby : u.state = .standby)
    (work : u.hasWork = true) :
    s.BayIs (t.workArrived b) bayParts b { u with state := .wakeWait, idleTimer := none } (c.outputs .wakeWait)
      { m with unitToArb := m.unitToArb ++ [.wanted] } := by
  have wakes : (t.unit b).state = .standby ∧ (t.unit b).hasWork = true := h.unit.symm ▸ ⟨standby, work⟩
  simp only [State.workArrived, if_pos wakes]
  have k := ((h.enter .wakeWait).tellArb .wanted).idle
  rwa [DriveUnit.idleCheck_of_not_ready (by simp)] at k

/-- Any other unit chooses. -/
theorem State.workArrived_of_not_standby {t : State} {b : Bay} (h : (t.unit b).state ≠ .standby) :
    t.workArrived b = t.choose b := by
  simp only [State.workArrived, h, false_and, if_false]

/-- A unit that is not READY starts nothing, and its idle timer stands still. -/
theorem State.BayIs.choose_of_not_ready (h : s.BayIs t l b u c m) (hl : Part.units ∈ l)
    (notReady : u.state ≠ .ready) :
    s.BayIs (t.choose b) l b { u with idleTimer := none } c m := by
  rw [t.choose_of_not_ready b (h.unit.symm ▸ notReady)]
  have k := h.idle_of_mem hl
  rwa [DriveUnit.idleCheck_of_not_ready notReady] at k

end Work

/-! ### Messages of the request unit -/

section Pieces
variable {s : State} {b : Bay} {rest : List RuToUnit}

/-- The unit has taken a message of the request unit. -/
theorem State.popRu_is (s : State) (b : Bay) (rest : List RuToUnit) (l : List Part) (hl : Part.bayMail ∈ l) :
    s.BayIs (s.popRu b rest) l b (s.unit b) (s.controls b) { s.bmail b with ruToUnit := rest } :=
  (s.bayIs l b).setBmail_of_mem hl _

/-! #### PIECE_APPEND (R87) -/

section Append
variable {j : Job} {id : Serial} (hm : (s.bmail b).ruToUnit = .append j id :: rest)
include hm

theorem State.exec_pieceAppend : exec (.pieceAppend b) s = .next ((s.popRu b rest).appendPiece b j id) := by
  simp only [exec, execPieceAppend, hm]

theorem State.append_unhealthy (unhealthy : (s.unit b).state.healthy = false) :
    exec (.pieceAppend b) s = .next ((s.popRu b rest).tellRu b (.failed j.piece .diskUnavailable 0)) := by
  simp only [State.exec_pieceAppend hm, State.appendPiece, State.popRu_unit, unhealthy, Bool.not_false, if_true]

variable (healthy : (s.unit b).state.healthy = true)
include healthy

theorem State.append_released (released : (s.unit b).releaseUnderWay = true) :
    exec (.pieceAppend b) s = .next ((s.popRu b rest).tellRu b (.withdrawn j.piece .bayReleased)) := by
  simp only [State.exec_pieceAppend hm, State.appendPiece, State.popRu_unit, healthy, Bool.not_true,
    Bool.false_eq_true, if_false, released, if_true]

variable (free : (s.unit b).releaseUnderWay = false)
include free

theorem State.append_otherDisk (other : ∀ d, (s.unit b).disk = some d → d.serial ≠ id) :
    exec (.pieceAppend b) s = .next ((s.popRu b rest).tellRu b (.failed j.piece .diskUnavailable 0)) := by
  have differs : (s.unit b).disk.map Disk.serial ≠ some id := fun h => by
    obtain ⟨d, hd, he⟩ := Option.map_eq_some_iff.1 h
    exact other d hd he
  simp only [State.exec_pieceAppend hm, State.appendPiece, State.popRu_unit, healthy, Bool.not_true,
    Bool.false_eq_true, if_false, free, if_pos differs]

theorem State.append_queued {d : Disk} (disk : (s.unit b).disk = some d) (same : d.serial = id) :
    exec (.pieceAppend b) s =
      .next (((s.popRu b rest).modUnit b fun u => { u with queue := u.queue ++ [j] }).workArrived b) := by
  have serial : (s.unit b).disk.map Disk.serial = some id := by rw [disk, ← same]; rfl
  simp only [State.exec_pieceAppend hm, State.appendPiece, State.popRu_unit, healthy, Bool.not_true,
    Bool.false_eq_true, if_false, free, serial, ne_eq, not_true_eq_false]

end Append

/-! #### PIECE_WITHDRAWAL (R88) -/

section Withdrawal
variable {r : PieceRef} {f : FailReason} (hm : (s.bmail b).ruToUnit = .withdraw r f :: rest)
include hm

theorem State.exec_pieceWithdrawal :
    exec (.pieceWithdrawal b) s = .next ((s.popRu b rest).withdrawPiece b r f) := by
  simp only [exec, execPieceWithdrawal, hm]

theorem State.withdraw_queued (queued : ∃ j ∈ (s.unit b).queue, j.piece = r) :
    exec (.pieceWithdrawal b) s = .next ((((s.popRu b rest).modUnit b fun u =>
      { u with queue := u.queue.filter fun j => j.piece != r }).tellRu b (.withdrawn r f)).idle b) := by
  have any : (s.unit b).queue.any (fun j => j.piece == r) = true := by simpa using queued
  simp only [State.exec_pieceWithdrawal hm, State.withdrawPiece, State.popRu_unit, any, if_true]

variable (elsewhere : ∀ j ∈ (s.unit b).queue, j.piece ≠ r)
include elsewhere

/-- A piece that is not queued is looked for in hand and in staging. -/
theorem State.withdrawPiece_elsewhere : exec (.pieceWithdrawal b) s = .next
    (if (s.unit b).hand.map Job.piece = some r ∨ (s.unit b).staging.map Staging.piece = some r
      then (s.popRu b rest).tellRu b (.answer r true) else (s.popRu b rest).tellRu b (.answer r false)) := by
  have none : (s.unit b).queue.any (fun j => j.piece == r) = false := by simpa using elsewhere
  simp only [State.exec_pieceWithdrawal hm, State.withdrawPiece, State.popRu_unit, none, Bool.false_eq_true,
    if_false]

theorem State.withdraw_running
    (runs : (∃ j, (s.unit b).hand = some j ∧ j.piece = r) ∨ ∃ x, (s.unit b).staging = some x ∧ x.piece = r) :
    exec (.pieceWithdrawal b) s = .next ((s.popRu b rest).tellRu b (.answer r true)) := by
  rw [State.withdrawPiece_elsewhere hm elsewhere, if_pos]
  simpa only [Option.map_eq_some_iff] using runs

theorem State.withdraw_unknown (hand : ∀ j, (s.unit b).hand = some j → j.piece ≠ r)
    (staging : ∀ x, (s.unit b).staging = some x → x.piece ≠ r) :
    exec (.pieceWithdrawal b) s = .next ((s.popRu b rest).tellRu b (.answer r false)) := by
  rw [State.withdrawPiece_elsewhere hm elsewhere, if_neg]
  simp only [Option.map_eq_some_iff, not_or, not_exists, not_and]
  exact ⟨hand, staging⟩

end Withdrawal

/-! #### STAGING_EMPTIED (R92) -/

section Emptied
variable {r : PieceRef} (hm : (s.bmail b).ruToUnit = .emptied r :: rest)
include hm

theorem State.exec_stagingEmptied :
    exec (.stagingEmptied b) s = .next ((s.popRu b rest).emptyStaging b r) := by
  simp only [exec, execStagingEmptied, hm]

theorem State.emptied_staged (staged : ∃ x, (s.unit b).staging = some x ∧ x.piece = r) :
    exec (.stagingEmptied b) s =
      .next (((s.popRu b rest).modUnit b fun u => { u with staging := none }).choose b) := by
  have here := Option.map_eq_some_iff.2 staged
  simp only [State.exec_stagingEmptied hm, State.emptyStaging, State.popRu_unit, here, if_true]

theorem State.emptied_late (other : ∀ x, (s.unit b).staging = some x → x.piece ≠ r) :
    exec (.stagingEmptied b) s = .next (s.popRu b rest) := by
  have absent : (s.unit b).staging.map Staging.piece ≠ some r := fun h => by
    obtain ⟨x, hx, he⟩ := Option.map_eq_some_iff.1 h
    exact other x hx he
  simp only [State.exec_stagingEmptied hm, State.emptyStaging, State.popRu_unit, if_neg absent]

end Emptied

end Pieces

/-- Settles O33: each message is taken from the channel, and then the state of the unit and the place of the piece
decide. -/
theorem pieceCommands : Obligations.PieceCommands := by
  rintro s b _ m rest hm rfl
  refine ⟨?_, ?_, ?_⟩
  · rintro j id rfl
    have told (r : UnitToRu) := (s.popRu_is b rest [.bayMail] (by simp)).tellRu_of_mem (by simp) r
    refine ⟨fun unhealthy => ?_, fun healthy released => ?_, fun healthy free other => ?_,
      fun d healthy free disk same => ⟨fun standby => ?_, fun notStandby notReady => ?_, fun ready => ?_⟩⟩
    · exact ⟨_, State.append_unhealthy hm unhealthy, (told _).only, (told _).mail⟩
    · exact ⟨_, State.append_released hm healthy released, (told _).only, (told _).mail⟩
    · exact ⟨_, State.append_otherDisk hm healthy free other, (told _).only, (told _).mail⟩
    · have h := ((s.popRu_is b rest bayParts (by simp)).modUnit fun u =>
        { u with queue := u.queue ++ [j] }).workWakes standby (by simp [DriveUnit.hasWork])
      exact ⟨_, State.append_queued hm healthy free disk same, h.becomes rfl rfl⟩
    all_goals
      have k := (s.popRu_is b rest [.units, .bayMail] (by simp)).modUnit_of_mem (by simp) fun u =>
        { u with queue := u.queue ++ [j] }
    · have h := k.choose_of_not_ready (by simp) notReady
      rw [← State.workArrived_of_not_standby (by rwa [k.unit])] at h
      exact ⟨_, State.append_queued hm healthy free disk same, h.only, h.mail, h.unit⟩
    · refine ⟨_, ?_, k.only, k.mail, k.unit⟩
      rw [State.append_queued hm healthy free disk same, State.workArrived_of_not_standby (by simp [k.unit, ready])]
  · rintro r f rfl
    have told (r : UnitToRu) := (s.popRu_is b rest [.bayMail] (by simp)).tellRu_of_mem (by simp) r
    refine ⟨fun queued => ?_, fun elsewhere => ⟨fun runs => ?_, fun hand staging => ?_⟩⟩
    · have h := (((s.popRu_is b rest [.units, .bayMail] (by simp)).modUnit_of_mem (by simp) fun u =>
        { u with queue := u.queue.filter fun j => j.piece != r }).tellRu_of_mem (by simp)
        (.withdrawn r f)).idle_of_mem (by simp)
      refine ⟨_, State.withdraw_queued hm queued, h.only, h.mail, h.unit.trans ?_⟩
      simp only [bne, ← decide_not, beq_eq_decide, ne_eq]
    · exact ⟨_, State.withdraw_running hm elsewhere runs, (told _).only, (told _).mail⟩
    · exact ⟨_, State.withdraw_unknown hm elsewhere hand staging, (told _).only, (told _).mail⟩
  · rintro r rfl
    have h := (s.popRu_is b rest [.units, .bayMail] (by simp)).modUnit_of_mem (by simp) fun u =>
      { u with staging := none }
    exact ⟨fun staged => ⟨_, State.emptied_staged hm staged, h.only, h.mail, h.unit⟩, State.emptied_late hm⟩

end Sys2Proof.Machine
end

section
/-! SUPPORT. The idle timer of a drive unit and the values it takes (R90, R100 to R103, R174), and O35. -/

namespace Sys2Proof.Machine

theorem due_some (d now : Nat) : due (some d) now = decide (d ≤ now) := rfl

/-- The unit spins down, and its idle timer stops (R100). -/
theorem State.spinDown_becomes (s : State) (b : Bay) : s.BayBecomes (s.spinDown b) b
    { DriveUnit.issuing (s.unit b) .spinDown s.now with idleTimer := none } .spinningDown (s.bmail b) := by
  have h := (((s.bayIs bayParts b).modUnit fun u => { u with idleTimer := none }).issue .spinDown).enter
    .spinningDown
  rw [DriveUnit.issue_eq_issuing _ (by simp)] at h
  exact h.becomes rfl rfl

section Values
variable {s : State} {b : Bay}

theorem State.idleTimer_early {d : Nat} (timer : (s.unit b).idleTimer = some d) (early : s.now < d) :
    exec (.idleTimerExpiry b) s = .next s := by
  simp only [exec, execIdleTimerExpiry, timer, due_some, Nat.not_le.2 early, decide_false, Bool.false_eq_true,
    if_false]

theorem State.idleTimer_due {d : Nat} (timer : (s.unit b).idleTimer = some d) (late : d ≤ s.now) :
    exec (.idleTimerExpiry b) s = .next (s.spinDown b) := by
  simp only [exec, execIdleTimerExpiry, timer, due_some, late, decide_true, if_true]

theorem State.exec_keepSpinningChange {k : Bool} {rest : List Bool} (h : (s.bmail b).keeps = k :: rest) :
    exec (.keepSpinningChange b) s = .next (((s.setBmail b { s.bmail b with keeps := rest }).modUnit b fun u =>
      { u with params := { u.params with keepSpinning := k } }).idle b) := by
  simp only [exec, execKeepSpinningChange, h]

theorem State.exec_pauseAllowanceChange {a : Nat} {rest : List Nat} (h : (s.bmail b).allowances = a :: rest) :
    exec (.pauseAllowanceChange b) s =
      .next (((s.setBmail b { s.bmail b with allowances := rest }).modUnit b fun u =>
        { u with params := { u.params with allowance := a } }).choose b) := by
  simp only [exec, execPauseAllowanceChange, h]

theorem State.exec_timerLimitChange {x : UnitLimit} {rest : List UnitLimit}
    (h : (s.bmail b).limits = x :: rest) : exec (.timerLimitChange (.driveUnit b)) s =
      .next ((s.setBmail b { s.bmail b with limits := rest }).modUnit b fun u =>
        { u with params := UnitParams.take u.params x }) := by
  simp only [exec, execTimerLimitChange, h]

end Values

/-- Settles O35: a value is taken from its channel and written, and the idle timer is examined by its
conditions. -/
theorem idleTimerAndValues : Obligations.IdleTimerAndValues := by
  refine ⟨fun f long => rfl, rfl, rfl, rfl, ?_⟩
  rintro s b _ rfl
  have taken (m : BayMail) := (s.bayIs [.units, .bayMail] b).setBmail_of_mem (by simp) m
  refine ⟨⟨?_, fun runs => ?_, fun stops => ?_⟩, fun d timer => ⟨State.idleTimer_early timer, fun late => ?_⟩,
    fun k rest h => ?_, fun a rest h => ?_, fun x rest h => ?_, fun n rest h => ?_⟩
  · exact ((s.bayIs [.units] b).idle_of_mem (by simp)).only
  · rw [s.idle_unit, DriveUnit.idleCheck_runs ((DriveUnit.idleConditions_iff _).2 runs)]
  · rw [s.idle_unit, DriveUnit.idleCheck_stops (mt (DriveUnit.idleConditions_iff _).1 stops)]
  · exact ⟨_, State.idleTimer_due timer late, s.spinDown_becomes b⟩
  · have k := (taken { s.bmail b with keeps := rest }).modUnit_of_mem (by simp) fun u =>
      { u with params := { u.params with keepSpinning := k } }
    exact ⟨_, State.exec_keepSpinningChange h, k.only, k.mail, k.unit⟩
  · have k := (taken { s.bmail b with allowances := rest }).modUnit_of_mem (by simp) fun u =>
      { u with params := { u.params with allowance := a } }
    exact ⟨_, State.exec_pauseAllowanceChange h, k.only, k.mail, k.unit⟩
  · have k := (taken { s.bmail b with limits := rest }).modUnit_of_mem (by simp) fun u =>
      { u with params := UnitParams.take u.params x }
    refine ⟨_, State.exec_timerLimitChange h, k.only, k.mail, ?_, ?_, ?_, ?_⟩
    all_goals
      intros
      subst x
      exact k.unit
  · simp only [exec, execTimerLimitChange, h]

end Sys2Proof.Machine
end

section
/-! SUPPORT. The entries of a drive unit into SERVICE, FAULT and ABSENT (R98, R140, R141), the ends of IDENTIFY,
SPIN-UP and SPIN-DOWN (R86, R99, R100), and presence (R141, R142): O36, O37, O40 and O47. -/

namespace Sys2Proof.Machine

/-! ### Reports of what a unit gives up (R98, R126, R141) -/

/-- The unit with no piece and no extent. -/
def DriveUnit.emptied (u : DriveUnit) : DriveUnit :=
  { u with hand := none, queue := [], staging := none, engine := { u.engine with state := .empty, list := [] } }

/-- The channels `m` after the unit has reported what it gives up: its pieces with a reason, its extents, and a
wait or a place at the arbiter. -/
def DriveUnit.givingUp (u : DriveUnit) (r : FailReason) (m : BayMail) : BayMail :=
  { m with
    unitToRu := m.unitToRu ++ u.hand.toList.map (fun j => UnitToRu.failed j.piece r j.done) ++
      u.queue.map (fun j => UnitToRu.failed j.piece r 0) ++
      u.staging.toList.map (fun x => UnitToRu.failed x.piece r 0),
    unitToLm := m.unitToLm ++ u.engine.list.map fun x => UnitToLm.extentFailed x.vol x.seg,
    unitToArb := m.unitToArb ++
      if u.state = .wakeWait then [.withdrawn] else if u.state = .spinningUp then [.ended] else [] }

namespace State.BayIs
variable {s t : State} {l : List Part} {b : Bay} {u : DriveUnit} {c : Service} {m : BayMail}

/-- Every piece of the unit is reported FAILED. -/
theorem failPieces (h : s.BayIs t bayParts b u c m) (r : FailReason) :
    s.BayIs (t.failPieces b r) bayParts b { u with hand := none, queue := [], staging := none } c
      { m with unitToRu := m.unitToRu ++ u.hand.toList.map (fun j => UnitToRu.failed j.piece r j.done) ++
        u.queue.map (fun j => UnitToRu.failed j.piece r 0) ++
        u.staging.toList.map (fun x => UnitToRu.failed x.piece r 0) } := by
  obtain ⟨unit, controls, now, mail⟩ := t.failPieces_reads b r
  rw [h.unit] at unit mail
  rw [h.mail] at mail
  exact ⟨h.only.trans (t.failPieces_onlyBay b r), unit, controls.trans h.controls, mail, now.trans h.now⟩

/-- Every extent of the clear list is reported failed. -/
theorem failEngine (h : s.BayIs t bayParts b u c m) :
    s.BayIs (t.failEngine b) bayParts b { u with engine := { u.engine with state := .empty, list := [] } } c
      { m with unitToLm := m.unitToLm ++ u.engine.list.map fun x => UnitToLm.extentFailed x.vol x.seg } := by
  obtain ⟨unit, controls, now, mail⟩ := t.failEngine_reads b
  rw [h.unit] at unit mail
  rw [h.mail] at mail
  exact ⟨h.only.trans (t.failEngine_onlyBay b), unit, controls.trans h.controls, mail, now.trans h.now⟩

/-- The arbiter is told of a wait or a place given up. -/
theorem leaveSpinUp (h : s.BayIs t bayParts b u c m) : s.BayIs (t.leaveSpinUp b) bayParts b u c
    { m with unitToArb := m.unitToArb ++
      if u.state = .wakeWait then [.withdrawn] else if u.state = .spinningUp then [.ended] else [] } := by
  have told : s.BayIs t bayParts b u c { m with unitToArb := m.unitToArb ++ [] } := by
    simpa only [List.append_nil] using h
  unfold State.leaveSpinUp
  rw [h.unit]
  cases hs : u.state with
  | wakeWait => exact h.tellArb .withdrawn
  | spinningUp => exact h.tellArb .ended
  | absent => exact told
  | identifying => exact told
  | standby => exact told
  | ready => exact told
  | active => exact told
  | spinningDown => exact told
  | fault => exact told
  | service => exact told

/-- The unit enters SERVICE, from a healthy state with a health report (R140). -/
theorem enterService (h : s.BayIs t bayParts b u c m) : s.BayIs (t.enterService b) bayParts b
    { DriveUnit.quiet u with
      state := .service, releaseUnderWay := false, hand := none, queue := [], idleTimer := none,
      engine := { u.engine with closed := false } } (c.outputs .service)
    { m with unitToLm := m.unitToLm ++ (if u.state.healthy then [.health .service u.disk false] else []) ++
      [.releaseEnd] } := by
  have k := (h.modUnit fun u =>
    { u.endCommand with releaseUnderWay := false, hand := none, queue := [], idleTimer := none,
                        engine := { u.engine with closed := false } }).enter .service
  unfold State.enterService
  rw [h.unit]
  cases u.state.healthy with
  | true => exact (k.tellLm (.health .service u.disk false)).tellLm .releaseEnd
  | false =>
    simp only [Bool.false_eq_true, if_false, List.append_nil]
    exact k.tellLm .releaseEnd

/-- The unit gives up every piece, every extent, and its wait or place at the arbiter (R98, R141). -/
theorem giveUp (h : s.BayIs t bayParts b u c m) (r : FailReason) :
    s.BayIs (((t.failPieces b r).failEngine b).leaveSpinUp b) bayParts b (DriveUnit.emptied u) c
      (DriveUnit.givingUp u r m) := ((h.failPieces r).failEngine).leaveSpinUp

end State.BayIs

/-! ### FAULT (R98, R139) -/

/-- The unit has entered FAULT and reported the change to the loan manager, and not yet to the agent. -/
def State.faulted (s : State) (b : Bay) : State :=
  (((((s.failPieces b .diskFault).failEngine b).leaveSpinUp b).modUnit b fun u =>
    { u.endCommand with idleTimer := none }).enter b .fault).tellLm b (.health .fault (s.unit b).disk false)

/-- The notice of an entry into FAULT. -/
def State.faultNotice (s : State) (b : Bay) (cause : FaultCause) : Notice :=
  .diskFault b (s.unit b).state cause ((s.unit b).disk.map Disk.serial)

theorem State.enterFault_eq (s : State) (b : Bay) (cause : FaultCause) : s.enterFault b cause =
    if (s.unit b).releaseUnderWay then ((s.faulted b).unitNotice b (s.faultNotice b cause)).enterService b
    else (s.faulted b).unitNotice b (s.faultNotice b cause) := rfl

section Fault
variable {s t : State} {b : Bay} {u : DriveUnit} {c : Service} {m : BayMail}

theorem State.BayIs.faulted (h : s.BayIs t bayParts b u c m) : s.BayIs (t.faulted b) bayParts b
    { DriveUnit.quiet (DriveUnit.emptied u) with state := .fault, idleTimer := none } (c.outputs .fault)
    { DriveUnit.givingUp u .diskFault m with
      unitToLm := (DriveUnit.givingUp u .diskFault m).unitToLm ++ [.health .fault u.disk false] } := by
  unfold State.faulted
  rw [h.unit]
  exact (((h.giveUp .diskFault).modUnit fun u => { u.endCommand with idleTimer := none }).enter .fault).tellLm _

variable (h : s.BayIs t bayParts b u c m) (settled : settledChannel m.unitToAgent = true) (cause : FaultCause)
include h settled

theorem State.BayIs.faultTold : s.BayIs ((t.faulted b).unitNotice b (t.faultNotice b cause)) bayParts b
    { DriveUnit.quiet (DriveUnit.emptied u) with state := .fault, idleTimer := none } (c.outputs .fault)
    { DriveUnit.givingUp u .diskFault m with
      unitToLm := (DriveUnit.givingUp u .diskFault m).unitToLm ++ [.health .fault u.disk false],
      unitToAgent := m.unitToAgent ++ [.notice (.diskFault b u.state cause (u.disk.map Disk.serial))] } := by
  rw [← h.unit]
  exact (h.unit.symm ▸ h.faulted).unitNotice _ settled

theorem State.BayIs.enterFault_free (free : u.releaseUnderWay = false) : s.BayIs (t.enterFault b cause) bayParts b
    { DriveUnit.quiet (DriveUnit.emptied u) with state := .fault, idleTimer := none } (c.outputs .fault)
    { DriveUnit.givingUp u .diskFault m with
      unitToLm := (DriveUnit.givingUp u .diskFault m).unitToLm ++ [.health .fault u.disk false],
      unitToAgent := m.unitToAgent ++ [.notice (.diskFault b u.state cause (u.disk.map Disk.serial))] } := by
  rw [t.enterFault_eq, h.unit, free]
  exact h.faultTold settled cause

/-- Under a release the unit goes on to SERVICE, which is then no change of a healthy state (R139, R140). -/
theorem State.BayIs.enterFault_released (released : u.releaseUnderWay = true) :
    s.BayIs (t.enterFault b cause) bayParts b
    { DriveUnit.quiet (DriveUnit.emptied u) with
      state := .service, idleTimer := none, releaseUnderWay := false,
      engine := { (DriveUnit.emptied u).engine with closed := false } } (c.outputs .service)
    { DriveUnit.givingUp u .diskFault m with
      unitToLm := (DriveUnit.givingUp u .diskFault m).unitToLm ++ [.health .fault u.disk false] ++ [.releaseEnd],
      unitToAgent := m.unitToAgent ++ [.notice (.diskFault b u.state cause (u.disk.map Disk.serial))] } := by
  rw [t.enterFault_eq, h.unit, released]
  have k := (h.faultTold settled cause).enterService
  simp only [DriveState.healthy, Bool.false_eq_true, if_false, List.append_nil] at k
  exact k

end Fault

/-- A time limit that has run out is counted before the entry into FAULT (R96, R106, R112). -/
def State.timed (s : State) (b : Bay) : FaultCause → State
  | .timeLimit => s.countTimeout b
  | .linkLost | .failedCompletion | .failedIdentify => s

theorem State.timed_is (s : State) (b : Bay) (cause : FaultCause) : s.BayIs (s.timed b cause) bayParts b
    { s.unit b with timeouts := if cause = .timeLimit then min 4294967295 ((s.unit b).timeouts + 1)
      else (s.unit b).timeouts } (s.controls b) (s.bmail b) := by
  cases cause with
  | timeLimit =>
    rw [if_pos rfl, ← bump_eq]
    exact (s.bayIs bayParts b).modUnit fun u => { u with timeouts := bump u.timeouts }
  | linkLost => exact s.bayIs bayParts b
  | failedCompletion => exact s.bayIs bayParts b
  | failedIdentify => exact s.bayIs bayParts b

/-- Every cause of R97 is one entry into FAULT. -/
theorem State.Fails.exec_eq {s : State} {b : Bay} {c : Instr} {cause : FaultCause} (h : s.Fails b c cause) :
    exec c s = .next ((s.timed b cause).enterFault b cause) := by
  cases c with
  | identifyCompletion a n o =>
    obtain ⟨rfl, flying, ⟨rfl, rfl⟩ | ⟨rfl | rfl | ⟨x, rfl⟩, rfl⟩⟩ := h <;>
      simp only [exec, execIdentifyCompletion, s.flying_of_inFlight a flying, State.identifyEnds, State.timed, if_true]
  | fetchCompletion a n o =>
    obtain ⟨rfl, hand, ⟨start, len, flying⟩, out⟩ := h
    obtain ⟨j, hj⟩ := Option.isSome_iff_exists.1 hand
    rcases out with ⟨rfl, rfl⟩ | ⟨rfl, rfl⟩ <;>
      simp only [exec, execFetchCompletion, s.flying_of_inFlight a flying, hj, State.timed]
  | storeCompletion a n o =>
    obtain ⟨rfl, hand, ⟨start, data, flying⟩, out⟩ := h
    obtain ⟨j, hj⟩ := Option.isSome_iff_exists.1 hand
    rcases out with ⟨rfl, rfl⟩ | ⟨rfl, rfl⟩ <;>
      simp only [exec, execStoreCompletion, s.flying_of_inFlight a flying, hj, State.timed]
  | probeCompletion a n o =>
    obtain ⟨rfl, hand, ⟨start, len, flying⟩, out⟩ := h
    obtain ⟨j, hj⟩ := Option.isSome_iff_exists.1 hand
    rcases out with ⟨rfl, rfl⟩ | ⟨rfl, rfl⟩ <;>
      simp only [exec, execProbeCompletion, s.flying_of_inFlight a flying, hj, State.timed]
  | zeroCompletion a n o =>
    obtain ⟨rfl, worked, ⟨start, len, flying⟩, out⟩ := h
    obtain ⟨x, hx⟩ := Option.isSome_iff_exists.1 worked
    rcases out with ⟨rfl, rfl⟩ | ⟨rfl, rfl⟩ <;>
      simp only [exec, execZeroCompletion, s.flying_of_inFlight a flying, hx, State.timed]
  | spinUpCompletion a n o =>
    obtain ⟨rfl, flying, ⟨rfl, rfl⟩ | ⟨rfl | ⟨k, rfl⟩, rfl⟩⟩ := h <;>
      simp only [exec, execSpinUpCompletion, s.flying_of_inFlight a flying, State.timed]
  | spinDownCompletion a n o =>
    obtain ⟨rfl, flying, ⟨rfl, rfl⟩ | ⟨rfl | ⟨k, rfl⟩, rfl⟩⟩ := h <;>
      simp only [exec, execSpinDownCompletion, s.flying_of_inFlight a flying, State.timed]
  | commandTimerExpiry a =>
    obtain ⟨rfl, ⟨d, timer, late⟩, rfl⟩ := h
    simp only [exec, execCommandTimerExpiry, timer, due_some, late, decide_true, if_true, State.timed]
  | spinUpLimitExpiry a =>
    obtain ⟨rfl, ⟨d, timer, late⟩, rfl⟩ := h
    simp only [exec, execSpinUpLimitExpiry, timer, due_some, late, decide_true, if_true, State.timed]
  | linkLost a =>
    obtain ⟨rfl, absent, fault, service, rfl⟩ := h
    cases hs : (s.unit a).state <;> simp_all [exec, execLinkLost, State.timed]
  | _ => exact False.elim h

theorem due_eq_false {timer : Option Nat} {now : Nat} (h : ∀ d, timer = some d → now < d) :
    due timer now = false := by
  cases timer with
  | none => rfl
  | some d => exact decide_eq_false (Nat.not_le.2 (h d rfl))

/-- Settles O37: every cause is one entry into FAULT, which gives up what the unit holds, reports the change, and
under a release goes on to SERVICE. -/
theorem faultEntered : Obligations.FaultEntered := by
  rintro s b _ rfl
  refine ⟨?_, fun early => ?_, fun early => ?_, fun still => ?_⟩
  · rintro c cause v m fails settled rfl rfl
    have timed := s.timed_is b cause
    refine ⟨fun free => ⟨_, fails.exec_eq, (timed.enterFault_free settled cause free).becomes rfl rfl⟩,
      fun released =>
      ⟨_, fails.exec_eq, (timed.enterFault_released settled cause released).becomes rfl rfl⟩⟩
  · simp only [exec, execCommandTimerExpiry, due_eq_false early, Bool.false_eq_true, if_false]
  · simp only [exec, execSpinUpLimitExpiry, due_eq_false early, Bool.false_eq_true, if_false]
  · rcases still with still | still | still <;> simp only [exec, execLinkLost, still]

/-! ### The ends of IDENTIFY, SPIN-UP and SPIN-DOWN (R86, R99, R100) -/

/-- The disk is recorded, STANDBY entered, and both reported (R86, R177). -/
def State.diskTold (s : State) (b : Bay) (d : Disk) : State :=
  (((s.modUnit b fun u => { u.endCommand with disk := some d }).enter b .standby).tellLm b
    (.health .standby (some d) false)).unitNotice b (.diskArrived b d)

theorem State.identified_eq (s : State) (b : Bay) (d : Disk) : s.identified b d =
    if ((s.diskTold b d).unit b).releaseUnderWay then (s.diskTold b d).enterService b else s.diskTold b d := rfl

theorem State.diskTold_is {s : State} {b : Bay} (settled : settledChannel (s.bmail b).unitToAgent = true)
    (d : Disk) : s.BayIs (s.diskTold b d) bayParts b
    { DriveUnit.quiet (s.unit b) with disk := some d, state := .standby } ((s.controls b).outputs .standby)
    { s.bmail b with
      unitToLm := (s.bmail b).unitToLm ++ [.health .standby (some d) false],
      unitToAgent := (s.bmail b).unitToAgent ++ [.notice (.diskArrived b d)] } :=
  ((((s.bayIs bayParts b).modUnit fun u => { u.endCommand with disk := some d }).enter .standby).tellLm
    (.health .standby (some d) false)).unitNotice (.diskArrived b d) settled

theorem State.exec_identify_good {s : State} {b : Bay} {n cap : Nat}
    (flying : (s.unit b).inFlight = some (n, .identify)) (nonempty : 0 < cap) (serial : Serial) :
    exec (.identifyCompletion b n (.good serial cap)) s =
      .next (s.identified b { serial := serial, capacity := min cap 4294967295 }) := by
  simp only [exec, execIdentifyCompletion, s.flying_of_inFlight b flying, State.identifyEnds,
    if_neg (Nat.ne_of_gt nonempty)]

/-- Settles O36: the disk is recorded and reported, and a release goes on from STANDBY, which is healthy. -/
theorem identifyCompletion : Obligations.IdentifyCompletion := by
  rintro s b _ n serial cap d m rfl flying settled nonempty hd rfl
  have next := State.exec_identify_good flying nonempty serial
  rw [← hd] at next
  have told := State.diskTold_is settled d
  have released : ((s.diskTold b d).unit b).releaseUnderWay = (s.unit b).releaseUnderWay := by
    rw [told.unit]
    rfl
  rw [State.identified_eq, released] at next
  refine ⟨fun free => ⟨_, by rwa [free] at next, told.becomes rfl rfl⟩,
    fun release => ⟨_, by rwa [release] at next, ?_⟩⟩
  have h := told.enterService
  rw [DriveState.healthy, if_pos rfl, List.append_assoc] at h
  exact h.becomes rfl rfl

/-- After a SPIN-DOWN the release decides, and then whether the unit has work (R100, R140). -/
theorem State.spunDown_eq (s : State) (b : Bay) : s.spunDown b =
    if (s.unit b).releaseUnderWay then (s.endCommand b).enterService b
    else if (s.unit b).hasWork then ((s.endCommand b).enter b .standby).wake b
    else (s.endCommand b).enter b .standby := by
  have released : ((s.endCommand b).unit b).releaseUnderWay = (s.unit b).releaseUnderWay := by
    rw [s.endCommand_unit]
    rfl
  have work : (((s.endCommand b).enter b .standby).unit b).hasWork = (s.unit b).hasWork := by
    rw [State.enter_unit, s.endCommand_unit]
    rfl
  simp only [State.spunDown, released, work]

/-- Settles O40: a SPIN-UP ends READY, and a SPIN-DOWN where the release and the work of the unit say. -/
theorem spinCompletions : Obligations.SpinCompletions := by
  rintro s b _ n rfl
  have ended := (s.bayIs bayParts b).modUnit DriveUnit.endCommand
  refine ⟨fun flying => ?_, fun flying => ?_⟩
  · have k := ended.tellArb .ended
    refine s.readyAs_of_ready b ?_ k.only k.unit k.controls k.mail
    simp only [exec, execSpinUpCompletion, s.flying_of_inFlight b flying]
    rfl
  · have next : exec (.spinDownCompletion b n .good) s = .next (s.spunDown b) := by
      simp only [exec, execSpinDownCompletion, s.flying_of_inFlight b flying]
    rw [State.spunDown_eq] at next
    have standby := ended.enter .standby
    refine ⟨fun free queue hand engine => ?_, fun free work => ?_, fun released spinning => ?_⟩
    · have idle : (s.unit b).hasWork = false := by simp [DriveUnit.hasWork, queue, hand, engine]
      rw [free, idle] at next
      exact ⟨_, next, standby.becomes rfl rfl⟩
    · have busy : (s.unit b).hasWork = true := by
        rcases work with work | work | work <;> simp [DriveUnit.hasWork, work, Option.isSome_iff_ne_none]
      rw [free, busy] at next
      exact ⟨_, next, ((standby.enter .wakeWait).tellArb .wanted).becomes rfl rfl⟩
    · have h := ended.enterService
      have healthy : (DriveUnit.endCommand (s.unit b)).state.healthy = true := by
        rw [show (DriveUnit.endCommand (s.unit b)).state = .spinningDown from spinning]
        rfl
      rw [healthy, if_pos rfl, List.append_assoc] at h
      rw [released] at next
      exact ⟨_, next, h.becomes rfl rfl⟩

/-! ### Presence (R141, R142) -/

/-- The unit has entered ABSENT and reported the change to the loan manager, and not yet to the agent. -/
def State.absentTold (s : State) (b : Bay) : State :=
  ((((((s.endCommand b).failPieces b .diskUnavailable).failEngine b).leaveSpinUp b).modUnit b fun u =>
    { u with idleTimer := none, releaseUnderWay := false, disk := none,
             engine := { u.engine with closed := false } }).enter b .absent).tellLm b
    (.health .absent none (s.unit b).releaseUnderWay)

theorem State.enterAbsent_eq (s : State) (b : Bay) : s.enterAbsent b =
    if (s.unit b).state = .service then s.absentTold b
    else (s.absentTold b).unitNotice b (.diskGone b (s.unit b).state ((s.unit b).disk.map Disk.serial)) := rfl

/-- The unit of a bay without a disk, but for what it keeps of the disk that was there. -/
def DriveUnit.removed (u : DriveUnit) : DriveUnit :=
  { DriveUnit.quiet u with
    state := .absent, disk := none, hand := none, queue := [], staging := none, idleTimer := none,
    releaseUnderWay := false, engine := { state := .empty, list := [], closed := false } }

section Presence
variable {s t : State} {b : Bay} {u : DriveUnit} {c : Service} {m : BayMail}

theorem State.BayIs.absentTold (h : s.BayIs t bayParts b u c m) : s.BayIs (t.absentTold b) bayParts b
    (DriveUnit.removed u) (c.outputs .absent)
    { DriveUnit.givingUp u .diskUnavailable m with
      unitToLm := (DriveUnit.givingUp u .diskUnavailable m).unitToLm ++
        [.health .absent none u.releaseUnderWay] } := by
  unfold State.absentTold
  rw [h.unit]
  exact ((((h.modUnit DriveUnit.endCommand).giveUp .diskUnavailable).modUnit fun u =>
    { u with idleTimer := none, releaseUnderWay := false, disk := none,
             engine := { u.engine with closed := false } }).enter .absent).tellLm _

/-- The disk's going is notified, but not from SERVICE (R141 step 11). -/
theorem State.BayIs.enterAbsent (h : s.BayIs t bayParts b u c m)
    (settled : settledChannel m.unitToAgent = true) : s.BayIs (t.enterAbsent b) bayParts b
    (DriveUnit.removed u) (c.outputs .absent)
    { DriveUnit.givingUp u .diskUnavailable m with
      unitToLm := (DriveUnit.givingUp u .diskUnavailable m).unitToLm ++
        [.health .absent none u.releaseUnderWay],
      unitToAgent := m.unitToAgent ++ if u.state = .service then []
        else [.notice (.diskGone b u.state (u.disk.map Disk.serial))] } := by
  rw [t.enterAbsent_eq, h.unit]
  split
  · rw [List.append_nil]
    exact h.absentTold
  · exact h.absentTold.unitNotice _ settled

end Presence

/-- Settles O47: removal is one entry into ABSENT, and insertion one into IDENTIFYING; where they change nothing of
the unit, the sense alone is written. -/
theorem presence : Obligations.Presence := by
  rintro s b _ rfl
  have sensed (x : Bool) (l : List Part) (hl : Part.svc ∈ l) := (s.bayIs l b).setControls_of_mem hl
    { s.controls b with present := x }
  refine ⟨fun absent => ⟨?_, ?_⟩, fun holds => ⟨?_, fun settled => ?_⟩⟩
  · have k := sensed false [.svc] (by simp)
    exact ⟨_, by simp only [exec, execPresenceLost, absent, if_true]; rfl, k.only, k.controls⟩
  · have reset := ((sensed true [.units, .svc] (by simp)).modUnit_of_mem (by simp) fun u =>
      { u with mediaErrors := 0, timeouts := 0, spinUps := 0 }).modUnit_of_mem (by simp) fun u =>
      { u with disk := none, pauseCounter := 0 }
    have k := (reset.issue_of_mem (by simp) .identify).enter_of_mem (by simp) (by simp) .identifying
    rw [DriveUnit.issue_eq_issuing _ (by simp)] at k
    exact ⟨_, by simp only [exec, execPresenceGained, absent, if_true]; rfl, k.only, k.unit, k.controls⟩
  · have k := sensed true [.svc] (by simp)
    exact ⟨_, by simp only [exec, execPresenceGained, holds, if_false]; rfl, k.only, k.controls⟩
  · have k := (sensed false bayParts (by simp)).enterAbsent settled
    exact ⟨_, by simp only [exec, execPresenceLost, holds, if_false]; rfl, k.only, k.unit, k.controls, k.mail⟩

end Sys2Proof.Machine
end

section
/-! SUPPORT. Extents at a clear engine (R101, R119 to R122), and O42. -/

namespace Sys2Proof.Machine

/-! ### The order of a clear list (R121, R122) -/

/-- An extent is placed behind the CURRENT extents that start below it. -/
theorem insertExtent_append (x : Extent) (bf af : List Extent)
    (below : ∀ z ∈ bf, z.current = true ∧ z.start < x.start)
    (above : ∀ z, af.head? = some z → z.current = false ∨ x.start ≤ z.start) :
    insertExtent x (bf ++ af) = bf ++ x :: af := by
  induction bf with
  | nil =>
    cases af with
    | nil => rfl
    | cons z af =>
      have stop : (z.current && decide (z.start < x.start)) = false := by
        rcases above z rfl with h | h
        · rw [h, Bool.false_and]
        · rw [decide_eq_false (Nat.not_lt.2 h), Bool.and_false]
      simp only [List.nil_append, insertExtent, stop, Bool.false_eq_true, if_false]
  | cons y bf ih =>
    obtain ⟨current, start⟩ := below y List.mem_cons_self
    simp only [List.cons_append, insertExtent, current, start, decide_true, Bool.and_self, if_true,
      ih fun z hz => below z (List.mem_cons_of_mem _ hz)]

theorem insertExtent_perm (x : Extent) (l : List Extent) : (insertExtent x l).Perm (x :: l) := by
  induction l with
  | nil => exact .refl _
  | cons y l ih =>
    unfold insertExtent
    split
    · exact (ih.cons y).trans (.swap x y l)
    · exact .refl _

/-- Among CURRENT extents in ascending order an extent is placed in that order. -/
theorem insertExtent_sorted (x : Extent) (l : List Extent) (current : ∀ y ∈ l, y.current = true)
    (sorted : l.Pairwise fun y z => y.start ≤ z.start) :
    (insertExtent x l).Pairwise fun y z => y.start ≤ z.start := by
  induction l with
  | nil => exact List.pairwise_singleton _ _
  | cons y l ih =>
    obtain ⟨first, rest⟩ := List.pairwise_cons.1 sorted
    have hy := current y List.mem_cons_self
    simp only [insertExtent, hy, Bool.true_and, decide_eq_true_eq]
    split
    · rename_i hlt
      refine List.pairwise_cons.2 ⟨fun z hz => ?_, ih (fun z hz => current z (List.mem_cons_of_mem _ hz)) rest⟩
      rcases List.mem_cons.1 ((insertExtent_perm x l).mem_iff.1 hz) with rfl | hz
      · exact Nat.le_of_lt hlt
      · exact first z hz
    · rename_i hle
      refine List.pairwise_cons.2 ⟨fun z hz => ?_, sorted⟩
      rcases List.mem_cons.1 hz with rfl | hz
      · exact Nat.not_lt.1 hle
      · exact (Nat.not_lt.1 hle).trans (first z hz)

/-- Extents placed one after another among CURRENT extents in order. -/
theorem insertExtents_spec (l acc : List Extent) (current : ∀ y ∈ acc, y.current = true)
    (sorted : acc.Pairwise fun y z => y.start ≤ z.start) :
    (l.foldl (fun acc x => insertExtent { x with current := true } acc) acc).Pairwise
        (fun y z => y.start ≤ z.start) ∧
      (l.foldl (fun acc x => insertExtent { x with current := true } acc) acc).Perm
        ((l.map fun y => { y with current := true }) ++ acc) := by
  induction l generalizing acc with
  | nil => exact ⟨sorted, .refl _⟩
  | cons x l ih =>
    have perm := insertExtent_perm { x with current := true } acc
    obtain ⟨h, k⟩ := ih (insertExtent { x with current := true } acc)
      (fun y hy => (List.mem_cons.1 (perm.mem_iff.1 hy)).elim (fun e => e ▸ rfl) (current y))
      (insertExtent_sorted _ acc current sorted)
    exact ⟨h, k.trans ((perm.append_left _).trans List.perm_middle)⟩

theorem sortExtents_spec (l : List Extent) :
    (sortExtents l).Pairwise (fun y z => y.start ≤ z.start) ∧
      (sortExtents l).Perm (l.map fun y => { y with current := true }) := by
  have h := insertExtents_spec l [] (fun y hy => absurd hy List.not_mem_nil) .nil
  rwa [List.append_nil] at h

/-! ### An extent joins (R120, R122) -/

theorem currentCount_append (e : Engine) (x : Extent) (hx : x.current = false) :
    currentCount { e with list := e.list ++ [x] } = currentCount e := by
  simp [currentCount, List.filter_append, hx]

theorem currentCount_insert (e : Engine) (bf af : List Extent) (x : Extent) (hx : x.current = true)
    (he : e.list = bf ++ af) : currentCount e < currentCount { e with list := bf ++ x :: af } := by
  simp [currentCount, he, List.filter_append, hx]

section Join
variable {e : Engine} {x : Extent} {w now : Nat}

theorem Engine.join_empty_gathers (empty : e.state = .empty) (list : e.list = []) (hw : w ≠ 0) :
    Engine.join e x w now = { e with state := .gathering (now + tens w), list := [{ x with current := true }] } := by
  simp only [Engine.join, empty, list, if_neg hw, List.nil_append]

theorem Engine.join_empty_sweeps (empty : e.state = .empty) (list : e.list = []) :
    Engine.join e x 0 now = { e with state := .sweeping, list := [{ x with current := true }] } := by
  simp only [Engine.join, empty, list, if_true, List.nil_append]

theorem Engine.join_gathering {d : Nat} (gathering : e.state = .gathering d) :
    Engine.join e x w now = { e with list := e.list ++ [{ x with current := true }] } := by
  simp only [Engine.join, gathering]

section Sweeping
variable {y : Extent} (sweeping : e.state = .sweeping) (worked : e.list.find? (·.current) = some y)
include sweeping worked

theorem Engine.join_next (behind : x.start ≤ y.start + y.progress) :
    Engine.join e x w now = { e with list := e.list ++ [{ x with current := false }] } := by
  have position : e.position = some (y.start + y.progress) := by
    rw [Engine.position, Engine.worked, worked]
    rfl
  simp only [Engine.join, sweeping, position, if_neg (Nat.not_lt.2 behind)]

theorem Engine.join_current (ahead : y.start + y.progress < x.start) :
    Engine.join e x w now = { e with list := insertExtent { x with current := true } e.list } := by
  have position : e.position = some (y.start + y.progress) := by
    rw [Engine.position, Engine.worked, worked]
    rfl
  simp only [Engine.join, sweeping, position, if_pos ahead]

end Sweeping
end Join

/-! ### The commands -/

theorem State.BayIs.mono {s t : State} {l k : List Part} {b : Bay} {u : DriveUnit} {c : Service} {m : BayMail}
    (h : s.BayIs t l b u c m) (hl : l ⊆ k) : s.BayIs t k b u c m :=
  ⟨h.only.mono hl, h.unit, h.controls, h.mail, h.now⟩

section Commands
variable {s t : State} {b : Bay}

/-- A command that gives a unit work. -/
theorem State.BayIs.workArrives {i : Instr} {v : DriveUnit} {m : BayMail}
    (h : s.BayIs t [.units, .bayMail] b v (s.controls b) m) (next : exec i s = .next (t.workArrived b))
    (work : v.hasWork = true) : s.WorkArrives i b v m :=
  ⟨fun standby => ⟨_, next, ((h.mono (by simp)).workWakes standby work).becomes rfl rfl⟩, fun awake =>
    ⟨t, by rwa [State.workArrived_of_not_standby (h.unit.symm ▸ awake)] at next, h.only, h.mail, h.unit⟩⟩

section Extent
variable {v i start len : Nat} {id : Serial} {rest : List LmToUnit}
  (hm : (s.bmail b).lmToUnit = .extent v i id start len :: rest)
include hm

theorem State.exec_clearExtent :
    exec (.clearExtent b) s = .next ((s.popLmToUnit b rest).takeExtent b v i id start len) := by
  simp only [exec, execClearExtent, hm]

theorem State.extent_refused (refused : (s.unit b).state.healthy = false ∨ (s.unit b).engine.closed = true ∨
      ∀ d, (s.unit b).disk = some d → d.serial ≠ id) :
    exec (.clearExtent b) s = .next ((s.popLmToUnit b rest).tellLm b (.extentFailed v i)) := by
  have refuses : DriveUnit.refusesExtent (s.unit b) id = true := by
    rcases refused with h | h | h
    · simp [DriveUnit.refusesExtent, h]
    · simp [DriveUnit.refusesExtent, h]
    · have other : (s.unit b).disk.map Disk.serial ≠ some id := fun k => by
        obtain ⟨d, hd, he⟩ := Option.map_eq_some_iff.1 k
        exact h d hd he
      simp [DriveUnit.refusesExtent, bne_iff_ne.2 other]
  simp only [State.exec_clearExtent hm, State.takeExtent, State.popLmToUnit_unit, refuses, if_true]

variable (healthy : (s.unit b).state.healthy = true) (opened : (s.unit b).engine.closed = false)
  (disk : ∃ d, (s.unit b).disk = some d ∧ d.serial = id)
include healthy opened disk

/-- The extent joins; where that gives the unit work, the unit is told. -/
theorem State.extent_joins {e : Engine}
    (joined : Engine.join (s.unit b).engine
      { vol := v, seg := i, start := start, length := len, progress := 0, current := true }
      (s.unit b).params.gatherWindow s.now = e) :
    exec (.clearExtent b) s = .next
      (if gainsWork (s.unit b).engine e
        then ((s.popLmToUnit b rest).modUnit b fun u => { u with engine := e }).workArrived b
        else ((s.popLmToUnit b rest).modUnit b fun u => { u with engine := e }).idle b) := by
  have serial : (s.unit b).disk.map Disk.serial = some id := Option.map_eq_some_iff.2 disk
  have takes : DriveUnit.refusesExtent (s.unit b) id = false := by
    simp [DriveUnit.refusesExtent, healthy, opened, serial]
  simp only [State.exec_clearExtent hm, State.takeExtent, State.popLmToUnit_unit, takes, Bool.false_eq_true, if_false,
    State.joinExtent, State.popLmToUnit_now, joined]

end Extent

theorem State.exec_gatherTimerExpiry {d : Nat} (gathering : (s.unit b).engine.state = .gathering d) :
    exec (.gatherTimerExpiry b) s = .next (if d ≤ s.now then s.beginSweep b else s) := by
  simp only [exec, execGatherTimerExpiry, gathering]

theorem State.exec_pendingClearReport {k : Bool} {rest : List LmToUnit}
    (hm : (s.bmail b).lmToUnit = .pendingClear k :: rest) : exec (.pendingClearReport b) s =
      .next (((s.popLmToUnit b rest).modUnit b fun u => { u with clearWaiting := k }).idle b) := by
  simp only [exec, execPendingClearReport, hm]

end Commands

theorem gainsWork_eq_false {e f : Engine} (h : f.state ≠ .sweeping ∨ currentCount f = currentCount e) :
    gainsWork e f = false := by
  rcases h with h | h
  · simp [gainsWork, h]
  · simp [gainsWork, h]

theorem gainsWork_of {e f : Engine} (sweeping : f.state = .sweeping) (h : currentCount e < currentCount f) :
    gainsWork e f = true := by
  simp [gainsWork, sweeping, h]

/-- Settles O42: an extent that is not refused joins the list where its engine stands; only a new CURRENT extent of
a sweep gives the unit work. -/
theorem clearEngine : Obligations.ClearEngine := by
  rintro s b _ rfl
  refine ⟨fun v i id start len rest hm => ?_, fun d gathering => ⟨fun early => ?_, fun late => ?_⟩,
    fun k rest hm => ?_⟩
  · have joined (e : Engine) := ((s.bayIs [.units, .bayMail] b).setBmail_of_mem (by simp)
      { s.bmail b with lmToUnit := rest }).modUnit_of_mem (by simp) fun u => { u with engine := e }
    refine ⟨fun refused => ?_, fun healthy opened disk => ⟨fun empty list window => ?_,
      fun empty list window => ?_,
      fun d gathering => ?_, fun y sweeping worked => ⟨fun behind => ?_,
        fun ahead bf af list below above => ?_⟩⟩⟩
    · have k := ((s.bayIs [.bayMail] b).setBmail_of_mem (by simp)
        { s.bmail b with lmToUnit := rest }).tellLm_of_mem (by simp) (.extentFailed v i)
      exact ⟨_, State.extent_refused hm refused, k.only, k.mail⟩
    · have next := State.extent_joins hm healthy opened disk (Engine.join_empty_gathers empty list window)
      rw [gainsWork_eq_false (.inl (by simp))] at next
      exact ⟨_, next, (joined _).only, (joined _).mail, (joined _).unit⟩
    · have next := State.extent_joins hm healthy opened disk (window ▸ Engine.join_empty_sweeps empty list)
      rw [gainsWork_of rfl (by simp [currentCount, list])] at next
      exact (joined _).workArrives next (by simp [DriveUnit.hasWork])
    · have next := State.extent_joins hm healthy opened disk (Engine.join_gathering gathering)
      rw [gainsWork_eq_false (.inl (by simp [gathering]))] at next
      exact ⟨_, next, (joined _).only, (joined _).mail, (joined _).unit⟩
    · have next := State.extent_joins hm healthy opened disk (Engine.join_next sweeping worked behind)
      rw [gainsWork_eq_false (.inr (currentCount_append _ _ rfl))] at next
      exact ⟨_, next, (joined _).only, (joined _).mail, (joined _).unit⟩
    · have next := State.extent_joins hm healthy opened disk (Engine.join_current sweeping worked ahead)
      rw [list, insertExtent_append _ bf af below above,
        gainsWork_of (by exact sweeping) (currentCount_insert _ bf af _ rfl list)] at next
      exact (joined _).workArrives next (by simp [DriveUnit.hasWork, sweeping])
  · rw [State.exec_gatherTimerExpiry gathering, if_neg (Nat.not_le.2 early)]
  · obtain ⟨sorted, perm⟩ := sortExtents_spec (s.unit b).engine.list
    refine ⟨_, sorted, perm, State.BayIs.workArrives ((s.bayIs _ b).modUnit_of_mem (by simp) fun u =>
      { u with engine := { u.engine with state := .sweeping, list := sortExtents u.engine.list } }) ?_
      (by simp [DriveUnit.hasWork])⟩
    rw [State.exec_gatherTimerExpiry gathering, if_pos late]
    rfl
  · have h := ((s.bayIs [.units, .bayMail] b).setBmail_of_mem (by simp)
      { s.bmail b with lmToUnit := rest }).modUnit_of_mem (by simp) fun u => { u with clearWaiting := k }
    exact ⟨_, State.exec_pendingClearReport hm, h.only, h.mail, h.unit⟩

end Sys2Proof.Machine
end

section
/-! SUPPORT. Every command answers a next state and leaves the queue of waiting commands alone, but for a completion
that R95 excludes: O3. -/

namespace Sys2Proof.Machine

variable {s t : State}

theorem UnchangedBut.pending_eq {l : List Part} (h : UnchangedBut l s t) (hl : Part.pending ∉ l) :
    t.pending = s.pending := h .pending hl

/-- No command writes the queue of waiting commands. -/
theorem exec_pending (i : Instr) (h : exec i s = .next t) : t.pending = s.pending := by
  cases i with
  | powerOn present buttons links =>
    cases h
    rfl
  | linkDown p => exact (execLinkDown_frame s t p h).pending_eq (by simp)
  | linkUp p => exact (execLinkUp_frame s t p h).pending_eq (by simp)
  | ingressFrame p f => exact (execIngressFrame_frame s t p f h).pending_eq (by simp)
  | pauseRepeatExpiry p => exact (execPauseRepeatExpiry_frame s t p h).pending_eq (by simp)
  | receivedPause p time good => exact (execReceivedPause_frame s t p time good h).pending_eq (by simp)
  | receivedPauseEnd p => exact (execReceivedPauseEnd_frame s t p h).pending_eq (by simp)
  | transmissionEnd p => exact (execTransmissionEnd_frame s t p h).pending_eq (by simp)
  | thresholdsTaken p => exact (execThresholdsTaken_frame s t p h).pending_eq (by simp)
  | classifyFrame => exact (execClassifyFrame_frame s t h).pending_eq (by simp)
  | borrow => exact (execBorrow_frame s t h).pending_eq (by simp)
  | renew => exact (execRenew_frame s t h).pending_eq (by simp)
  | returnLoan => exact (execReturnLoan_frame s t h).pending_eq (by simp)
  | read => exact (execRead_frame s t h).pending_eq (by simp)
  | write => exact (execWrite_frame s t h).pending_eq (by simp)
  | check => exact (execCheck_frame s t h).pending_eq (by simp)
  | abort => exact (execAbort_frame s t h).pending_eq (by simp)
  | loanClaim => exact (execLoanClaim_frame s t h).pending_eq (by simp)
  | claimAnswer => exact (execClaimAnswer_frame s t h).pending_eq (by simp)
  | pieceAppend b => exact (execPieceAppend_frame s t b h).1.pending_eq (by simp)
  | pieceWithdrawal b => exact (execPieceWithdrawal_frame s t b h).1.pending_eq (by simp)
  | pieceStartedReport b => exact (execPieceStartedReport_frame s t b h).pending_eq (by simp)
  | pieceStagedReport b => exact (execPieceStagedReport_frame s t b h).pending_eq (by simp)
  | pieceDoneReport b => exact (execPieceDoneReport_frame s t b h).pending_eq (by simp)
  | pieceFailedReport b => exact (execPieceFailedReport_frame s t b h).pending_eq (by simp)
  | pieceWithdrawnReport b => exact (execPieceWithdrawnReport_frame s t b h).pending_eq (by simp)
  | withdrawalAnswer b => exact (execWithdrawalAnswer_frame s t b h).pending_eq (by simp)
  | egressRoom p => exact (execEgressRoom_frame s t p h).pending_eq (by simp)
  | deliveryTimerExpiry piece => exact (execDeliveryTimerExpiry_frame s t piece h).pending_eq (by simp)
  | loanQuiet => exact (execLoanQuiet_frame s t h).pending_eq (by simp)
  | waitTimerExpiry record => exact (execWaitTimerExpiry_frame s t record h).pending_eq (by simp)
  | termExpiry entry => exact (execTermExpiry_frame s t entry h).pending_eq (by simp)
  | graceExpiry entry => exact (execGraceExpiry_frame s t entry h).pending_eq (by simp)
  | healthReport b => exact (execHealthReport_frame s t b h).pending_eq (by simp)
  | extentDone b => exact (execExtentDone_frame s t b h).pending_eq (by simp)
  | extentFailed b => exact (execExtentFailed_frame s t b h).pending_eq (by simp)
  | pendingClearReport b => exact (execPendingClearReport_frame s t b h).1.pending_eq (by simp)
  | clearExtent b => exact (execClearExtent_frame s t b h).1.pending_eq (by simp)
  | gatherTimerExpiry b => exact (execGatherTimerExpiry_frame s t b h).1.pending_eq (by simp)
  | stagingEmptied b => exact (execStagingEmptied_frame s t b h).1.pending_eq (by simp)
  | identifyCompletion b number o =>
    exact (execIdentifyCompletion_frame s t b number o h).1.pending_eq (by simp)
  | fetchCompletion b number o => exact (execFetchCompletion_frame s t b number o h).1.pending_eq (by simp)
  | storeCompletion b number o => exact (execStoreCompletion_frame s t b number o h).1.pending_eq (by simp)
  | probeCompletion b number o => exact (execProbeCompletion_frame s t b number o h).1.pending_eq (by simp)
  | zeroCompletion b number o => exact (execZeroCompletion_frame s t b number o h).1.pending_eq (by simp)
  | spinUpCompletion b number o => exact (execSpinUpCompletion_frame s t b number o h).1.pending_eq (by simp)
  | spinDownCompletion b number o =>
    exact (execSpinDownCompletion_frame s t b number o h).1.pending_eq (by simp)
  | commandTimerExpiry b => exact (execCommandTimerExpiry_frame s t b h).1.pending_eq (by simp)
  | spinUpLimitExpiry b => exact (execSpinUpLimitExpiry_frame s t b h).1.pending_eq (by simp)
  | linkLost b => exact (execLinkLost_frame s t b h).1.pending_eq (by simp)
  | idleTimerExpiry b => exact (execIdleTimerExpiry_frame s t b h).1.pending_eq (by simp)
  | spinUpGrant b => exact (execSpinUpGrant_frame s t b h).1.pending_eq (by simp)
  | spinUpWanted b => exact (execSpinUpWanted_frame s t b h).pending_eq (by simp)
  | waitWithdrawn b => exact (execWaitWithdrawn_frame s t b h).pending_eq (by simp)
  | grantDeclined b => exact (execGrantDeclined_frame s t b h).pending_eq (by simp)
  | spinUpEnded b => exact (execSpinUpEnded_frame s t b h).pending_eq (by simp)
  | budgetChange => exact (execBudgetChange_frame s t h).pending_eq (by simp)
  | pauseAllowanceChange b => exact (execPauseAllowanceChange_frame s t b h).1.pending_eq (by simp)
  | keepSpinningChange b => exact (execKeepSpinningChange_frame s t b h).1.pending_eq (by simp)
  | buttonPress b => exact (execButtonPress_frame s t b h).1.pending_eq (by simp)
  | buttonRelease b => exact (execButtonRelease_frame s t b h).1.pending_eq (by simp)
  | holdTimerExpiry b => exact (execHoldTimerExpiry_frame s t b h).1.pending_eq (by simp)
  | serviceOverride b => exact (execServiceOverride_frame s t b h).pending_eq (by simp)
  | releaseTaken b => exact (execReleaseTaken_frame s t b h).1.pending_eq (by simp)
  | releaseEndReport b => exact (execReleaseEndReport_frame s t b h).pending_eq (by simp)
  | presenceLost b => exact (execPresenceLost_frame s t b h).1.pending_eq (by simp)
  | presenceGained b => exact (execPresenceGained_frame s t b h).1.pending_eq (by simp)
  | nodeQuiet => exact (execNodeQuiet_frame s t h).pending_eq (by simp)
  | outstandingCountAnswer => exact (execOutstandingCountAnswer_frame s t h).pending_eq (by simp)
  | managerNotice from_ => exact (execManagerNotice_frame s t from_ h).pending_eq (by simp)
  | resetShareFinished share => exact (execResetShareFinished_frame s t share h).pending_eq (by simp)
  | badRequest => exact (execBadRequest_frame s t h).pending_eq (by simp)
  | attach => exact (execAttach_frame s t h).pending_eq (by simp)
  | detach => exact (execDetach_frame s t h).pending_eq (by simp)
  | identify => exact (execIdentify_frame s t h).pending_eq (by simp)
  | setParams => exact (execSetParams_frame s t h).pending_eq (by simp)
  | readParams => exact (execReadParams_frame s t h).pending_eq (by simp)
  | readCounters => exact (execReadCounters_frame s t h).pending_eq (by simp)
  | counterQuery u => exact (execCounterQuery_frame s t u h).pending_eq (by simp)
  | resetPart => exact (execResetPart_frame s t h).pending_eq (by simp)
  | loanManagerReset => exact (execLoanManagerReset_frame s t h).pending_eq (by simp)
  | requestUnitReset => exact (execRequestUnitReset_frame s t h).pending_eq (by simp)
  | defineVolume => exact (execDefineVolume_frame s t h).pending_eq (by simp)
  | deleteVolume => exact (execDeleteVolume_frame s t h).pending_eq (by simp)
  | clearVolume => exact (execClearVolume_frame s t h).pending_eq (by simp)
  | readVolume => exact (execReadVolume_frame s t h).pending_eq (by simp)
  | recallLoan => exact (execRecallLoan_frame s t h).pending_eq (by simp)
  | readLoan => exact (execReadLoan_frame s t h).pending_eq (by simp)
  | releaseBay => exact (execReleaseBay_frame s t h).pending_eq (by simp)
  | admitNode => exact (execAdmitNode_frame s t h).pending_eq (by simp)
  | readmitNode => exact (execReadmitNode_frame s t h).pending_eq (by simp)
  | drainNode => exact (execDrainNode_frame s t h).pending_eq (by simp)
  | forgetNode => exact (execForgetNode_frame s t h).pending_eq (by simp)
  | readNode => exact (execReadNode_frame s t h).pending_eq (by simp)
  | wakeDisk => exact (execWakeDisk_frame s t h).pending_eq (by simp)
  | sleepDisk => exact (execSleepDisk_frame s t h).pending_eq (by simp)
  | acceptDisk => exact (execAcceptDisk_frame s t h).pending_eq (by simp)
  | readDisk => exact (execReadDisk_frame s t h).pending_eq (by simp)
  | ackService => exact (execAckService_frame s t h).pending_eq (by simp)
  | portLinkChange p => exact (execPortLinkChange_frame s t p h).pending_eq (by simp)
  | timerLimitChange x =>
    have frame := execTimerLimitChange_frame s t x h
    cases x with
    | requestUnit => exact frame.pending_eq (by simp)
    | driveUnit b => exact frame.1.pending_eq (by simp)

/-- A command answers a next state, or the machine stops on a completion that R95 excludes. -/
def Answers (i : Instr) (s : State) : Prop :=
  (¬ ImpossibleCompletion i s ∧ ∃ t, exec i s = .next t) ∨
    (ImpossibleCompletion i s ∧ exec i s = .fault .impossibleCompletion)

section Completions
variable (s : State) (b : Bay) (n : Nat)

theorem fetchCompletion_answers (o : FetchOutcome) : Answers (.fetchCompletion b n o) s := by
  simp only [Answers, ImpossibleCompletion, exec, execFetchCompletion]
  split
  · rename_i start len j hc hh
    simp only [hc, hh, Option.some.injEq, DriveCmd.fetch.injEq]
    cases o with
    | good bs => by_cases h : bs.length = len <;> simp [h]
    | media bs =>
      rcases Nat.lt_or_ge bs.length len with h | h
      · simp [h]
      · simp [h, Nat.not_lt.2 h]
    | failed => simp
    | linkLost => simp
  · rename_i none
    exact .inl ⟨fun ⟨start, len, j, hc, hh, _⟩ => none start len j hc hh, s, rfl⟩

theorem storeCompletion_answers (o : CmdOutcome) : Answers (.storeCompletion b n o) s := by
  simp only [Answers, ImpossibleCompletion, exec, execStoreCompletion]
  split
  · rename_i start data j hc hh
    simp only [hc, hh, Option.some.injEq, DriveCmd.store.injEq]
    cases o with
    | media k =>
      rcases Nat.lt_or_ge k data.length with h | h
      · simp [h]
      · simp [h, Nat.not_lt.2 h]
    | good => simp
    | failed => simp
    | linkLost => simp
  · rename_i none
    exact .inl ⟨fun ⟨start, data, j, _, hc, hh, _⟩ => none start data j hc hh, s, rfl⟩

theorem probeCompletion_answers (o : CmdOutcome) : Answers (.probeCompletion b n o) s := by
  simp only [Answers, ImpossibleCompletion, exec, execProbeCompletion]
  split
  · rename_i start len j hc hh
    simp only [hc, hh, Option.some.injEq, DriveCmd.probe.injEq]
    cases o with
    | media k =>
      rcases Nat.lt_or_ge k len with h | h
      · simp [h]
      · simp [h, Nat.not_lt.2 h]
    | good => simp
    | failed => simp
    | linkLost => simp
  · rename_i none
    exact .inl ⟨fun ⟨start, len, j, _, hc, hh, _⟩ => none start len j hc hh, s, rfl⟩

theorem zeroCompletion_answers (o : CmdOutcome) : Answers (.zeroCompletion b n o) s := by
  simp only [Answers, ImpossibleCompletion, exec, execZeroCompletion]
  split
  · rename_i start len x hc hx
    simp only [hc, hx, Option.some.injEq, DriveCmd.zero.injEq]
    cases o with
    | media k =>
      rcases Nat.lt_or_ge k len with h | h
      · simp [h]
      · simp [h, Nat.not_lt.2 h]
    | good => simp
    | failed => simp
    | linkLost => simp
  · rename_i none
    exact .inl ⟨fun ⟨start, len, x, _, hc, hx, _⟩ => none start len x hc hx, s, rfl⟩

end Completions

/-- The four completions that bring a media error can be impossible; every other command answers. -/
theorem exec_answers (i : Instr) (s : State) : Answers i s := by
  cases i with
  | fetchCompletion b n o => exact fetchCompletion_answers s b n o
  | storeCompletion b n o => exact storeCompletion_answers s b n o
  | probeCompletion b n o => exact probeCompletion_answers s b n o
  | zeroCompletion b n o => exact zeroCompletion_answers s b n o
  | _ => exact .inl ⟨id, _, rfl⟩

/-- Settles O3: a command answers or stops by R95, and an answer is framed. -/
theorem execAnswers : Obligations.ExecAnswers := by
  intro c s
  rcases exec_answers c s with ⟨possible, t, next⟩ | ⟨impossible, fault⟩
  · exact ⟨fun _ => ⟨t, next, exec_pending c next⟩, ⟨fun ⟨f, fault⟩ => by simp [next] at fault,
      fun impossible => absurd impossible possible⟩, fun r refused => by simp [next] at refused⟩
  · exact ⟨fun possible => absurd impossible possible, ⟨fun _ => impossible, fun _ => ⟨_, fault⟩⟩,
      fun r refused => by simp [fault] at refused⟩

end Sys2Proof.Machine
end

section
/-! SUPPORT. The laws of a drive unit and of the channels to the agent (R83, R96, R101, R112, R134; log entry 8):
what the writers of one part, and the operations of one bay, keep of them. -/

namespace Sys2Proof.Machine

/-! ### What the laws read of a bay -/

/-- Lock and lamp of a bay stand as the table of R134 gives them. -/
def State.Shown (s : State) (b : Bay) : Prop :=
  (s.controls b).lock = lockFor (s.unit b).state ∧
    (s.controls b).lamp = lampFor (s.controls b).pressedFlag (s.unit b).state

/-- From channels `m` of a bay to channels `n`, those to the agent stay such that their heads wait for commands of
their own (log entry 8). -/
def BayMail.StaysSettled (m n : BayMail) : Prop :=
  (settledChannel m.unitToAgent = true → settledChannel n.unitToAgent = true) ∧
    (settledChannel m.svcToAgent = true → settledChannel n.svcToAgent = true)

/-- The same of the channels of the other blocks to the agent. -/
def Mail.StaysSettled (m n : Mail) : Prop :=
  (settledChannel m.lmToAgent = true → settledChannel n.lmToAgent = true) ∧
    (settledChannel m.ruToAgent = true → settledChannel n.ruToAgent = true) ∧
    (settledChannel m.nodeToAgent = true → settledChannel n.nodeToAgent = true)

/-- Between two states the law of drive commands, the table of lock and lamp, and the law of the channels to the
agent are kept. -/
structure LawsKept (s t : State) : Prop where
  command : CommandLaw s → CommandLaw t
  output : OutputLaw s → OutputLaw t
  channel : ChannelLaw s → ChannelLaw t

theorem LawsKept.refl (s : State) : LawsKept s s := ⟨id, id, id⟩

theorem LawsKept.trans {s t u : State} (h : LawsKept s t) (k : LawsKept t u) : LawsKept s u :=
  ⟨k.command ∘ h.command, k.output ∘ h.output, k.channel ∘ h.channel⟩

theorem LawsKept.foldl {α : Type} (f : State → α → State) (h : ∀ s x, LawsKept s (f s x)) (xs : List α)
    (s : State) : LawsKept s (xs.foldl f s) := by
  induction xs generalizing s with
  | nil => exact .refl s
  | cons x xs ih => exact (h s x).trans (ih _)

/-- The laws of the drive units are kept by what writes neither a drive unit nor the service controls. -/
theorem UnchangedBut.lawsKept_of_channel {l : List Part} {s t : State} (h : UnchangedBut l s t)
    (channel : ChannelLaw s → ChannelLaw t) (hl : Part.units ∉ l ∧ Part.svc ∉ l) : LawsKept s t := by
  have units : t.units = s.units := h .units hl.1
  have svc : t.svc = s.svc := h .svc hl.2
  refine ⟨?_, ?_, channel⟩
  · simp only [CommandLaw, State.unit, units, imp_self]
  · simp only [OutputLaw, State.unit, State.controls, units, svc, imp_self]

/-- What writes none of the parts that the laws read keeps them. -/
theorem UnchangedBut.lawsKept {l : List Part} {s t : State} (h : UnchangedBut l s t)
    (hl : Part.units ∉ l ∧ Part.svc ∉ l ∧ Part.bayMail ∉ l ∧ Part.mail ∉ l) : LawsKept s t := by
  obtain ⟨hu, hc, hb, hm⟩ := hl
  have bayMail : t.bayMail = s.bayMail := h .bayMail hb
  have mail : t.mail = s.mail := h .mail hm
  refine h.lawsKept_of_channel ?_ ⟨hu, hc⟩
  simp only [ChannelLaw, State.bmail, bayMail, mail, imp_self]

/-- An operation of one bay keeps the laws where it keeps them on that bay. -/
theorem OnlyBay.lawsKept {b : Bay} {s t : State} (h : OnlyBay bayParts b s t)
    (lawful : DriveUnit.lawful (s.unit b) → DriveUnit.lawful (t.unit b)) (shown : s.Shown b → t.Shown b)
    (agent : BayMail.StaysSettled (s.bmail b) (t.bmail b)) : LawsKept s t := by
  obtain ⟨only, others⟩ := h
  have mail : t.mail = s.mail := only .mail (by simp)
  refine ⟨fun law c => ?_, fun law c => ?_, fun ⟨lm, ru, node, bays⟩ => ⟨mail ▸ lm, mail ▸ ru, mail ▸ node,
    fun c => ?_⟩⟩
  · by_cases hc : c = b
    · exact hc ▸ lawful (law b)
    · exact (others c hc).1 ▸ law c
  · by_cases hc : c = b
    · exact hc ▸ shown (law b)
    · obtain ⟨unit, controls, -⟩ := others c hc
      exact unit ▸ controls ▸ law c
  · by_cases hc : c = b
    · exact hc ▸ ⟨agent.1 (bays b).1, agent.2 (bays b).2⟩
    · obtain ⟨-, -, channels, -⟩ := others c hc
      exact channels ▸ bays c

/-! ### Lawful units -/

section Lawful
variable {u : DriveUnit}

theorem DriveUnit.lawful.idle_none (h : DriveUnit.lawful u) (st : u.state ≠ .ready) : u.idleTimer = none := by
  obtain ⟨-, -, -, idle⟩ := h
  exact Option.not_isSome_iff_eq_none.1 fun k => st (idle k)

/-- A unit with nothing in flight and no timer but perhaps, in READY, the idle timer. -/
theorem DriveUnit.lawful_resting (flying : u.inFlight = none) (fits : commandFits u.state none = true)
    (command : u.commandTimer = none) (spinUp : u.spinUpTimer = none)
    (idle : u.idleTimer = none ∨ u.state = .ready) : DriveUnit.lawful u := by
  refine ⟨by rw [flying]; exact fits, by simp [command], by simp [spinUp], fun h => ?_⟩
  rcases idle with idle | idle
  · simp [idle] at h
  · exact idle

/-- A unit that runs a command of its state under the piece limit. -/
theorem DriveUnit.lawful_running {n : Nat} {c : DriveCmd} (flying : u.inFlight = some (n, c))
    (fits : commandFits u.state (some c) = true) (st : u.state ≠ .spinningUp) (spinUp : u.spinUpTimer = none)
    (idle : u.idleTimer = none) : DriveUnit.lawful u :=
  ⟨by rw [flying]; exact fits, fun _ => ⟨st, by rw [flying]; rfl⟩, by simp [spinUp], by simp [idle]⟩

theorem DriveUnit.lawful.idleCheck (h : DriveUnit.lawful u) (now : Nat) : DriveUnit.lawful (u.idleCheck now) := by
  obtain ⟨fits, command, spinUp, -⟩ := h
  by_cases runs : u.idleConditions = true
  · rw [DriveUnit.idleCheck_runs runs]
    exact ⟨fits, command, spinUp, fun _ => ((DriveUnit.idleConditions_iff u).1 runs).1⟩
  · rw [DriveUnit.idleCheck_stops runs]
    exact ⟨fits, command, spinUp, fun h => by simp at h⟩

/-- The commands of ACTIVE are those that start or continue a piece, and the chunks of a sweep. -/
theorem commandFits_active_command (j : Job) : commandFits .active (some j.command) = true := by
  unfold Job.command
  split <;> rfl

end Lawful

/-! ### The writers of one part -/

section Writers
variable (s : State) (b : Bay)

theorem State.BayIs.lawsKept {s t : State} {b : Bay} {u : DriveUnit} {c : Service} {m : BayMail}
    (h : s.BayIs t bayParts b u c m) (agent : BayMail.StaysSettled (s.bmail b) m)
    (lawful : DriveUnit.lawful (s.unit b) → DriveUnit.lawful u)
    (shown : s.Shown b → c.lock = lockFor u.state ∧ c.lamp = lampFor c.pressedFlag u.state) : LawsKept s t := by
  refine h.only.lawsKept (h.unit ▸ lawful) (fun k => ?_) (h.mail ▸ agent)
  rw [State.Shown, h.unit, h.controls]
  exact shown k

/-- A drive state entered shows by its outputs. -/
theorem State.BayBecomes.lawsKept {s t : State} {b : Bay} {v : DriveUnit} {st : DriveState} {m : BayMail}
    (h : s.BayBecomes t b v st m) (agent : BayMail.StaysSettled (s.bmail b) m)
    (lawful : DriveUnit.lawful (s.unit b) → DriveUnit.lawful { v with state := st }) : LawsKept s t := by
  obtain ⟨only, unit, controls, mail⟩ := h
  refine only.lawsKept (unit ▸ lawful) (fun _ => ?_) (mail ▸ agent)
  rw [State.Shown, unit, controls]
  exact ⟨rfl, rfl⟩

theorem State.setBmail_lawsKept (x : BayMail) (agent : BayMail.StaysSettled (s.bmail b) x) :
    LawsKept s (s.setBmail b x) :=
  ((s.bayIs bayParts b).setBmail x).lawsKept agent id id

theorem State.setMail_lawsKept (x : Mail) (agent : Mail.StaysSettled s.mail x) :
    LawsKept s { s with mail := x } := by
  obtain ⟨keepLm, keepRu, keepNode⟩ := agent
  exact (s.setMail_unchanged x).lawsKept_of_channel
    (fun ⟨lm, ru, node, bays⟩ => ⟨keepLm lm, keepRu ru, keepNode node, bays⟩) (by simp)

theorem State.modUnit_lawsKept (f : DriveUnit → DriveUnit) (st : (f (s.unit b)).state = (s.unit b).state)
    (lawful : DriveUnit.lawful (s.unit b) → DriveUnit.lawful (f (s.unit b))) : LawsKept s (s.modUnit b f) :=
  ((s.bayIs bayParts b).modUnit f).lawsKept ⟨id, id⟩ lawful (by rw [st]; exact id)

end Writers

/-! ### Messages to the agent (log entry 8) -/

/-- What is left of a channel waits for a command of its own. -/
theorem settle_settles (l : List AgentMsg) (s : State) : settledChannel (settle l s).1 = true := by
  induction l generalizing s with
  | nil => rfl
  | cons a l ih =>
    cases a with
    | notice n => rfl
    | resetFinished => rfl
    | status a => exact ih _
    | drainAnswer a c => exact ih _

theorem settle_lawsKept (l : List AgentMsg) (s : State) : LawsKept s (settle l s).2 :=
  (settle_unchanged l s).lawsKept (by simp)

/-! A channel that the agent has settled is written back: of the loan manager, the request unit, the node block, and
of the drive unit and the service controls of a bay. -/

section Settle
variable (s : State) (l : List AgentMsg) (b : Bay) (m : AgentMsg)

theorem State.settleLm_lawsKept : LawsKept s
    { (settle l s).2 with mail := { (settle l s).2.mail with lmToAgent := (settle l s).1 } } :=
  (settle_lawsKept l s).trans (State.setMail_lawsKept _ _ ⟨fun _ => settle_settles l s, id, id⟩)

theorem State.settleRu_lawsKept : LawsKept s
    { (settle l s).2 with mail := { (settle l s).2.mail with ruToAgent := (settle l s).1 } } :=
  (settle_lawsKept l s).trans (State.setMail_lawsKept _ _ ⟨id, fun _ => settle_settles l s, id⟩)

theorem State.settleNode_lawsKept : LawsKept s
    { (settle l s).2 with mail := { (settle l s).2.mail with nodeToAgent := (settle l s).1 } } :=
  (settle_lawsKept l s).trans (State.setMail_lawsKept _ _ ⟨id, id, fun _ => settle_settles l s⟩)

theorem State.settleUnit_lawsKept : LawsKept s
    ((settle l s).2.setBmail b { (settle l s).2.bmail b with unitToAgent := (settle l s).1 }) :=
  (settle_lawsKept l s).trans (State.setBmail_lawsKept _ b _ ⟨fun _ => settle_settles l s, id⟩)

theorem State.settleSvc_lawsKept : LawsKept s
    ((settle l s).2.setBmail b { (settle l s).2.bmail b with svcToAgent := (settle l s).1 }) :=
  (settle_lawsKept l s).trans (State.setBmail_lawsKept _ b _ ⟨id, fun _ => settle_settles l s⟩)

theorem State.lmTellAgent_lawsKept : LawsKept s (s.lmTellAgent m) := s.settleLm_lawsKept _
theorem State.ruTellAgent_lawsKept : LawsKept s (s.ruTellAgent m) := s.settleRu_lawsKept _
theorem State.nodeTellAgent_lawsKept : LawsKept s (s.nodeTellAgent m) := s.settleNode_lawsKept _
theorem State.unitTellAgent_lawsKept : LawsKept s (s.unitTellAgent b m) := s.settleUnit_lawsKept _ b
theorem State.svcTellAgent_lawsKept : LawsKept s (s.svcTellAgent b m) := s.settleSvc_lawsKept _ b

end Settle

/-! ### Operations of a drive unit -/

section Unit
variable (s : State) (b : Bay)

theorem State.tellRu_lawsKept (m : UnitToRu) : LawsKept s (s.tellRu b m) := s.setBmail_lawsKept b _ ⟨id, id⟩
theorem State.tellLm_lawsKept (m : UnitToLm) : LawsKept s (s.tellLm b m) := s.setBmail_lawsKept b _ ⟨id, id⟩
theorem State.tellArb_lawsKept (m : UnitToArb) : LawsKept s (s.tellArb b m) := s.setBmail_lawsKept b _ ⟨id, id⟩
theorem State.ruSend_lawsKept (m : RuToUnit) : LawsKept s (s.ruSend b m) := s.setBmail_lawsKept b _ ⟨id, id⟩
theorem State.lmSend_lawsKept (m : LmToUnit) : LawsKept s (s.lmSend b m) := s.setBmail_lawsKept b _ ⟨id, id⟩
theorem State.sendGrant_lawsKept : LawsKept s (s.sendGrant b) := s.setBmail_lawsKept b _ ⟨id, id⟩
theorem State.popRu_lawsKept (l : List RuToUnit) : LawsKept s (s.popRu b l) := s.setBmail_lawsKept b _ ⟨id, id⟩
theorem State.popLmToUnit_lawsKept (l : List LmToUnit) : LawsKept s (s.popLmToUnit b l) :=
  s.setBmail_lawsKept b _ ⟨id, id⟩
theorem State.popUnitToLm_lawsKept (l : List UnitToLm) : LawsKept s (s.popUnitToLm b l) :=
  s.setBmail_lawsKept b _ ⟨id, id⟩
theorem State.popUnitReport_lawsKept (l : List UnitToRu) : LawsKept s (s.popUnitReport b l) :=
  s.setBmail_lawsKept b _ ⟨id, id⟩
theorem State.popUnitToArb_lawsKept (l : List UnitToArb) : LawsKept s (s.popUnitToArb b l) :=
  s.setBmail_lawsKept b _ ⟨id, id⟩

theorem State.idle_lawsKept : LawsKept s (s.idle b) := by
  refine s.modUnit_lawsKept b _ ?_ fun h => h.idleCheck s.now
  unfold DriveUnit.idleCheck
  repeat' split
  all_goals rfl

/-- The choice issues a command of ACTIVE, or examines the idle timer alone. -/
theorem State.choose_lawsKept : LawsKept s (s.choose b) := by
  by_cases ready : (s.unit b).state = .ready
  swap
  · rw [s.choose_of_not_ready b ready]
    exact s.idle_lawsKept b
  cases free : (s.unit b).staging with
  | some x =>
    rw [s.choose_of_staged b (by simp [free])]
    exact s.idle_lawsKept b
  | none =>
    have issues {v : DriveUnit} {c : DriveCmd} {m : BayMail} (h : s.BayBecomes (s.choose b) b
        { DriveUnit.issuing v c s.now with idleTimer := none } .active m)
        (fits : commandFits .active (some c) = true) (agent : BayMail.StaysSettled (s.bmail b) m) :
        LawsKept s (s.choose b) :=
      h.lawsKept agent fun _ => DriveUnit.lawful_running rfl fits (by simp) rfl rfl
    cases due : (s.unit b).sweepDue with
    | true =>
      have worked : (s.unit b).engine.worked.isSome = true := by
        simp only [DriveUnit.sweepDue, Bool.and_eq_true] at due
        exact due.1.2
      obtain ⟨x, hx⟩ := Option.isSome_iff_exists.1 worked
      exact issues (State.choose_sweep ready free due hx) rfl ⟨id, id⟩
    | false =>
      cases hand : (s.unit b).hand with
      | some j => exact issues (State.choose_hand ready free due hand) (commandFits_active_command j) ⟨id, id⟩
      | none =>
        cases queue : (s.unit b).queue with
        | cons j rest =>
          exact issues (State.choose_head ready free due hand queue) (commandFits_active_command j) ⟨id, id⟩
        | nil =>
          rw [State.choose_nothing ready free due hand queue]
          exact s.idle_lawsKept b

end Unit

end Sys2Proof.Machine
end

section
/-! SUPPORT. The operations and commands of a drive unit keep the laws (R83, R96, R101, R112, R134; log entry 8). -/

namespace Sys2Proof.Machine

/-- A lawful unit in a state that carries no command has none in flight, and no command timer runs. -/
theorem DriveUnit.lawful.rests {u : DriveUnit} (h : DriveUnit.lawful u) (st : commandFits u.state none = true) :
    u.inFlight = none ∧ u.commandTimer = none ∧ u.spinUpTimer = none := by
  obtain ⟨fits, command, spinUp, -⟩ := h
  have flying : u.inFlight = none := by
    cases hf : u.inFlight with
    | none => rfl
    | some f =>
      rw [hf] at fits
      cases hs : u.state <;> simp_all [commandFits]
  refine ⟨flying, ?_, ?_⟩
  · exact Option.not_isSome_iff_eq_none.1 fun k => by simpa [flying] using (command k).2
  · refine Option.not_isSome_iff_eq_none.1 fun k => ?_
    rw [spinUp k] at st
    exact absurd st (by decide)

/-- A lawful unit that leaves a state without a command for another of these, with the idle timer stopped. -/
theorem DriveUnit.lawful.moves {u : DriveUnit} (h : DriveUnit.lawful u) (st : commandFits u.state none = true)
    {x : DriveState} (hx : commandFits x none = true) :
    DriveUnit.lawful { u with state := x, idleTimer := none } := by
  obtain ⟨flying, command, spinUp⟩ := h.rests st
  exact DriveUnit.lawful_resting flying hx command spinUp (.inl rfl)

section Unit
variable (s t : State) (b : Bay)

/-! ### Waking and choosing (R89, R99) -/

theorem State.wake_lawsKept (standby : (s.unit b).state = .standby) : LawsKept s (s.wake b) := by
  have h := (((s.bayIs bayParts b).enter .wakeWait).tellArb .wanted).becomes (v := s.unit b) rfl rfl
  refine h.lawsKept ⟨id, id⟩ fun law => ?_
  have moved := law.moves (by rw [standby]; rfl) (x := .wakeWait) rfl
  rwa [← law.idle_none (by simp [standby])] at moved

theorem State.workArrived_lawsKept : LawsKept s (s.workArrived b) := by
  unfold State.workArrived
  split
  · rename_i h
    exact (s.wake_lawsKept b h.1).trans (State.idle_lawsKept _ b)
  · exact s.choose_lawsKept b

/-! ### Commands that end (R89, R138, R140) -/

section Ready
variable {s t : State} {b : Bay} {v : DriveUnit} {c : Service} {m : BayMail}

/-- A unit with nothing in flight that reaches READY chooses, or spins down under a release. -/
theorem State.BayIs.ready_lawsKept (h : s.BayIs t bayParts b (DriveUnit.quiet v) c m)
    (agent : BayMail.StaysSettled (s.bmail b) m) : LawsKept s (t.ready b) := by
  have ready := h.enter .ready
  unfold State.ready
  dsimp only
  rw [ready.unit]
  split
  · have given : s.BayIs ((t.enter b .ready).releaseHand b) bayParts b
        { DriveUnit.quiet v with state := .ready, hand := none } (c.outputs .ready)
        { m with unitToRu := m.unitToRu ++ DriveUnit.handReleased v } := by
      refine ⟨ready.only.trans (State.releaseHand_onlyBay _ b), ?_, ?_, ?_, ?_⟩
      · rw [State.releaseHand_unit, ready.unit]
      · rw [State.releaseHand_controls, ready.controls]
      · rw [State.releaseHand_bmail, ready.mail, ready.unit]
        rfl
      · rw [State.releaseHand_now, ready.now]
    have down := ((given.issue .spinDown).enter .spinningDown).idle
    rw [DriveUnit.issue_eq_issuing _ (by simp), DriveUnit.idleCheck_of_not_ready (by simp)] at down
    exact down.lawsKept agent (fun _ => DriveUnit.lawful_running rfl rfl (by simp) rfl rfl) fun _ => ⟨rfl, rfl⟩
  · have rests : LawsKept s (t.enter b .ready) :=
      ready.lawsKept agent (fun _ => DriveUnit.lawful_resting rfl rfl rfl rfl (.inr rfl)) fun _ => ⟨rfl, rfl⟩
    exact rests.trans (State.choose_lawsKept _ b)

end Ready

theorem State.fetched_lawsKept (j : Job) (bs : List Block) (md : Bool) : LawsKept s (s.fetched b j bs md) := by
  have counted : ∃ u, s.BayIs (if md then s.countMedia b else s) bayParts b u (s.controls b) (s.bmail b) := by
    cases md with
    | true => exact ⟨_, (s.bayIs bayParts b).modUnit fun u => { u with mediaErrors := bump u.mediaErrors }⟩
    | false => exact ⟨_, s.bayIs bayParts b⟩
  obtain ⟨u, h⟩ := counted
  have ended := (h.modUnit DriveUnit.endCommand).modUnit fun u => { u with hand := none }
  unfold State.fetched
  dsimp only
  split
  · exact (ended.tellRu _).ready_lawsKept ⟨id, id⟩ (v := { u with hand := none })
  · exact ((ended.modUnit fun u => { u with staging := some { piece := j.piece, blocks := bs } }).tellRu
      _).ready_lawsKept ⟨id, id⟩ (v := { u with hand := none, staging := some { piece := j.piece, blocks := bs } })

/-- A piece that has been given its outcome is out of hand. -/
theorem State.BayIs.handOver {s t : State} {b : Bay} {u : DriveUnit} {c : Service} {m : BayMail}
    (h : s.BayIs t bayParts b u c m) (r : UnitToRu) :
    s.BayIs (((t.endCommand b).clearHand b).tellRu b r) bayParts b (DriveUnit.quiet { u with hand := none }) c
      { m with unitToRu := m.unitToRu ++ [r] } :=
  ((h.modUnit DriveUnit.endCommand).modUnit fun u => { u with hand := none }).tellRu r

theorem State.stored_lawsKept (j : Job) : LawsKept s (s.stored b j) :=
  ((s.bayIs bayParts b).handOver (.done j.piece)).ready_lawsKept ⟨id, id⟩

theorem State.pieceMedia_lawsKept (j : Job) (k : Nat) : LawsKept s (s.pieceMedia b j k) :=
  (((s.bayIs bayParts b).modUnit fun u => { u with mediaErrors := bump u.mediaErrors }).handOver
    (.failed j.piece .mediaError k)).ready_lawsKept ⟨id, id⟩

theorem State.probed_lawsKept (j : Job) (k : Nat) : LawsKept s (s.probed b j k) := by
  unfold State.probed
  dsimp only
  split
  · exact ((s.bayIs bayParts b).handOver _).ready_lawsKept ⟨id, id⟩
  · split
    · exact ((s.bayIs bayParts b).handOver _).ready_lawsKept ⟨id, id⟩
    · split
      · exact ((s.bayIs bayParts b).handOver _).ready_lawsKept ⟨id, id⟩
      · exact (((s.bayIs bayParts b).modUnit DriveUnit.endCommand).modUnit fun u =>
          { u with hand := some { j with done := j.done + k } }).ready_lawsKept ⟨id, id⟩
            (v := { s.unit b with hand := some { j with done := j.done + k } })

/-- The extent being worked has left the list with a report (R124, R125). -/
theorem State.BayIs.extentLeaves {s t : State} {b : Bay} {u : DriveUnit} {c : Service} {m : BayMail}
    (h : s.BayIs t bayParts b u c m) (r : UnitToLm) :
    s.BayIs (t.extentLeaves b r) bayParts b
      { u with engine := Engine.sweepEnd { u.engine with list := dropWorked u.engine.list } } c
      { m with unitToLm := m.unitToLm ++ [r] } :=
  (h.tellLm r).modUnit fun u => { u with engine := Engine.sweepEnd { u.engine with list := dropWorked u.engine.list } }

theorem State.zeroed_lawsKept (x : Extent) (k : Nat) : LawsKept s (s.zeroed b x k) := by
  have ended := (s.bayIs bayParts b).modUnit DriveUnit.endCommand
  have leaves (r : UnitToLm) : LawsKept s (((s.endCommand b).extentLeaves b r).ready b) :=
    (ended.extentLeaves r).ready_lawsKept ⟨id, id⟩ (v := { s.unit b with
      engine := Engine.sweepEnd { (s.unit b).engine with list := dropWorked (s.unit b).engine.list } })
  unfold State.zeroed
  dsimp only
  split
  · exact leaves _
  · split
    · exact leaves _
    · exact (ended.modUnit fun u =>
        { u with engine := { u.engine with list := advanceWorked k u.engine.list } }).ready_lawsKept ⟨id, id⟩
          (v := { s.unit b with
            engine := { (s.unit b).engine with list := advanceWorked k (s.unit b).engine.list } })

theorem State.zeroMedia_lawsKept (x : Extent) : LawsKept s (s.zeroMedia b x) :=
  ((((s.bayIs bayParts b).modUnit fun u => { u with mediaErrors := bump u.mediaErrors }).modUnit
    DriveUnit.endCommand).extentLeaves (.extentFailed x.vol x.seg)).ready_lawsKept ⟨id, id⟩ (v := { s.unit b with
      mediaErrors := bump (s.unit b).mediaErrors,
      engine := Engine.sweepEnd { (s.unit b).engine with list := dropWorked (s.unit b).engine.list } })

theorem State.spunUp_lawsKept : LawsKept s (s.spunUp b) :=
  (((s.bayIs bayParts b).modUnit DriveUnit.endCommand).tellArb .ended).ready_lawsKept ⟨id, id⟩

/-! ### SERVICE, FAULT and ABSENT (R98, R140, R141) -/

theorem State.BayIs.enterService_lawsKept {s t : State} {b : Bay} {u : DriveUnit} {c : Service} {m : BayMail}
    (h : s.BayIs t bayParts b u c m) (agent : BayMail.StaysSettled (s.bmail b) m) :
    LawsKept s (t.enterService b) :=
  h.enterService.lawsKept agent (fun _ => DriveUnit.lawful_resting rfl rfl rfl rfl (.inl rfl)) fun _ => ⟨rfl, rfl⟩

theorem State.enterService_lawsKept : LawsKept s (s.enterService b) :=
  (s.bayIs bayParts b).enterService_lawsKept ⟨id, id⟩

theorem State.BayIs.enterFault_lawsKept {s t : State} {b : Bay} {u : DriveUnit} {c : Service}
    (h : s.BayIs t bayParts b u c (s.bmail b)) (cause : FaultCause) : LawsKept s (t.enterFault b cause) := by
  have told : LawsKept s ((t.faulted b).unitNotice b (t.faultNotice b cause)) :=
    (h.faulted.lawsKept ⟨id, id⟩ (fun _ => DriveUnit.lawful_resting rfl rfl rfl rfl (.inl rfl))
      (fun _ => ⟨rfl, rfl⟩)).trans (State.unitTellAgent_lawsKept _ b _)
  rw [t.enterFault_eq]
  split
  · exact told.trans (State.enterService_lawsKept _ b)
  · exact told

theorem State.enterFault_lawsKept (cause : FaultCause) : LawsKept s (s.enterFault b cause) :=
  (s.bayIs bayParts b).enterFault_lawsKept cause

theorem State.countedFault_lawsKept (cause : FaultCause) : LawsKept s ((s.countTimeout b).enterFault b cause) :=
  ((s.bayIs bayParts b).modUnit fun u => { u with timeouts := bump u.timeouts }).enterFault_lawsKept cause

theorem State.enterAbsent_lawsKept : LawsKept s (s.enterAbsent b) := by
  have told : LawsKept s (s.absentTold b) :=
    (s.bayIs bayParts b).absentTold.lawsKept ⟨id, id⟩ (fun _ => DriveUnit.lawful_resting rfl rfl rfl rfl (.inl rfl))
      fun _ => ⟨rfl, rfl⟩
  rw [s.enterAbsent_eq]
  split
  · exact told
  · exact told.trans (State.unitTellAgent_lawsKept _ b _)

/-! ### Commands of a state of their own (R83) -/

section Flying
variable {s : State} {b : Bay} {n : Nat}

/-- The command in flight names the state. -/
theorem DriveUnit.lawful.fits {c : DriveCmd} (h : DriveUnit.lawful (s.unit b)) (flying : s.flying b n = some c) :
    commandFits (s.unit b).state (some c) = true := by
  unfold State.flying at flying
  split at flying
  · rename_i k x hx
    split at flying
    · cases flying
      have fits := h.1
      rwa [hx] at fits
    · cases flying
  · cases flying

theorem State.identified_lawsKept (flying : s.flying b n = some .identify) (d : Disk) :
    LawsKept s (s.identified b d) := by
  have told : LawsKept s (s.diskTold b d) := by
    refine LawsKept.trans ?_ (State.unitTellAgent_lawsKept _ b _)
    refine ((((s.bayIs bayParts b).modUnit fun u => { u.endCommand with disk := some d }).enter .standby).tellLm
      (.health .standby (some d) false)).lawsKept ⟨id, id⟩ (fun law => ?_) fun _ => ⟨rfl, rfl⟩
    have fits := law.fits flying
    exact DriveUnit.lawful_resting rfl rfl rfl rfl
      (.inl (law.idle_none fun ready => by rw [ready] at fits; cases fits))
  rw [s.identified_eq]
  split
  · exact told.trans (State.enterService_lawsKept _ b)
  · exact told

theorem State.spunDown_lawsKept (flying : s.flying b n = some .spinDown) : LawsKept s (s.spunDown b) := by
  have ended := (s.bayIs bayParts b).modUnit DriveUnit.endCommand
  have standby : LawsKept s ((s.endCommand b).enter b .standby) :=
    (ended.enter .standby).lawsKept ⟨id, id⟩ (fun law => by
      have fits := law.fits flying
      exact DriveUnit.lawful_resting rfl rfl rfl rfl
        (.inl (law.idle_none fun ready => by rw [ready] at fits; cases fits))) fun _ => ⟨rfl, rfl⟩
  rw [s.spunDown_eq]
  split
  · exact ended.enterService_lawsKept ⟨id, id⟩
  · split
    · exact standby.trans (State.wake_lawsKept _ b (by rw [State.enter_unit]))
    · exact standby

theorem State.BayIs.beginSpinUp_lawsKept {t : State} {c : Service} {m : BayMail}
    (h : s.BayIs t bayParts b (s.unit b) c m) (wakeWait : (s.unit b).state = .wakeWait)
    (agent : BayMail.StaysSettled (s.bmail b) m) : LawsKept s (t.beginSpinUp b) := by
  refine (((h.modUnit fun u => { u with spinUps := bump u.spinUps }).issue .spinUp).enter .spinningUp).lawsKept
    agent (fun law => ⟨rfl, fun k => absurd k (by simp [DriveUnit.issue]), fun _ => rfl, fun k => ?_⟩)
    fun _ => ⟨rfl, rfl⟩
  have idle := law.idle_none (by simp [wakeWait])
  exact absurd k (by simp [DriveUnit.issue, idle])

end Flying

theorem State.spinDown_lawsKept : LawsKept s (s.spinDown b) :=
  (s.spinDown_becomes b).lawsKept ⟨id, id⟩ fun _ => DriveUnit.lawful_running rfl rfl (by simp) rfl rfl

/-- A disk is identified from a state without a command, READY excepted (R105, R142). -/
theorem State.BayIs.enterIdentifying_lawsKept {s t : State} {b : Bay} {u : DriveUnit} {c : Service}
    (h : s.BayIs t bayParts b u c (s.bmail b)) (idle : DriveUnit.lawful (s.unit b) → u.idleTimer = none) :
    LawsKept s (t.enterIdentifying b) := by
  have k := ((h.modUnit fun u => { u with disk := none, pauseCounter := 0 }).issue .identify).enter .identifying
  rw [DriveUnit.issue_eq_issuing _ (by simp)] at k
  exact k.lawsKept ⟨id, id⟩ (fun law => DriveUnit.lawful_running rfl rfl (by simp) rfl (idle law))
    fun _ => ⟨rfl, rfl⟩

end Unit

end Sys2Proof.Machine
end

section
/-! SUPPORT. The operations of the loan manager, of the request unit and of the node block keep the laws of the drive
units and of the channels to the agent: what they send goes to the drive units, or to the agent by the writers that
settle its channel. -/

namespace Sys2Proof.Machine

variable (s : State)

/-! ### Clearing and notices of the loan manager (R40, R115 to R117) -/

theorem State.flushLm_lawsKept : LawsKept s s.flushLm :=
  ((UnchangedBut.foldl State.takeMessage State.takeMessage_unchanged s.mail.lmToAgent s).lawsKept (by simp)).trans
    (State.setMail_lawsKept _ _ ⟨fun _ => rfl, id, id⟩)

theorem State.clearNotice_lawsKept (w : List Nat) (n : Notice) : LawsKept s (s.clearNotice w n) := by
  have told : LawsKept s (s.lmNotice n) := s.lmTellAgent_lawsKept _
  unfold State.clearNotice
  split
  · exact told
  · exact told.trans (State.flushLm_lawsKept _)

theorem State.grant_lawsKept (v : Nat) : LawsKept s (s.grant v) := (s.grant_unchanged v).lawsKept (by simp)

theorem State.setVolume_lawsKept (v : Nat) (e : Volume) : LawsKept s (s.setVolume v e) :=
  (s.setVolume_unchanged v e).lawsKept (by simp)

theorem State.setLmBay_lawsKept (b : Bay) (x : LmBay) : LawsKept s (s.setLmBay b x) :=
  (s.setLmBay_unchanged b x).lawsKept (by simp)

theorem State.setClear_lawsKept (r : SegRef) (c : ClearStatus) : LawsKept s (s.setClear r c) :=
  (s.setClear_unchanged r c).lawsKept (by simp)

theorem State.placeForNode_lawsKept (n : Nat) (h : Header) : LawsKept s (s.placeForNode n h) :=
  (s.placeForNode_unchanged n h).lawsKept (by simp)

theorem State.examineClear_lawsKept (v : Nat) : LawsKept s (s.examineClear v) := by
  unfold State.examineClear
  split
  · exact .refl s
  · split
    · exact .refl s
    · split
      · exact ((s.setVolume_lawsKept v _).trans (State.clearNotice_lawsKept _ _ _)).trans
          (State.grant_lawsKept _ v)
      · exact ((s.setVolume_lawsKept v _).trans (State.clearNotice_lawsKept _ _ _)).trans
          (.foldl _ (fun t r => (t.removeRecord_unchanged r true).lawsKept (by simp)) _ _)

theorem State.setPending_lawsKept (b : Bay) (q : List SegRef) : LawsKept s (s.setPending b q) := by
  have h := s.setLmBay_lawsKept b { s.lmBay b with pendingClear := q }
  unfold State.setPending
  dsimp only
  split
  · exact h
  · exact h.trans (State.lmSend_lawsKept _ b _)

theorem State.listSegment_lawsKept (b : Bay) (r : SegRef) : LawsKept s (s.listSegment b r) := by
  unfold State.listSegment
  split
  · exact .refl s
  · split
    · exact ((s.setClear_lawsKept r _).trans (State.setLmBay_lawsKept _ b _)).trans (State.lmSend_lawsKept _ b _)
    · exact (s.setClear_lawsKept r _).trans (State.examineClear_lawsKept _ _)

theorem State.listLoop_lawsKept (b : Bay) (l : List SegRef) : LawsKept s (State.listLoop b l s) := by
  induction l generalizing s with
  | nil => exact .refl s
  | cons r l ih =>
    unfold State.listLoop
    split
    · exact ((s.setPending_lawsKept b l).trans (State.listSegment_lawsKept _ b r)).trans (ih _)
    · exact .refl s

theorem State.listFromHead_lawsKept (b : Bay) : LawsKept s (s.listFromHead b) := s.listLoop_lawsKept b _

theorem State.failPending_lawsKept (b : Bay) : LawsKept s (s.failPending b) :=
  (s.setPending_lawsKept b []).trans
    (.foldl _ (fun t r => (t.setClear_lawsKept r _).trans (State.examineClear_lawsKept _ _)) _ _)

theorem State.toClearing_lawsKept (v : Nat) : LawsKept s (s.toClearing v) := by
  unfold State.toClearing
  split
  · exact .refl s
  · exact ((s.setVolume_lawsKept v _).trans
      (.foldl _ (fun t (r : Bay × SegRef) => t.setPending_lawsKept r.1 _) _ _)).trans
      (.foldl _ (fun t (r : Bay × SegRef) => t.listFromHead_lawsKept r.1) _ _)

/-! ### Ending and freeing loans (R43 to R45) -/

theorem State.volumeFreed_lawsKept (v : Nat) : LawsKept s (s.volumeFreed v) := by
  unfold State.volumeFreed
  split
  · exact .refl s
  · split
    · split
      · exact (s.setVolume_lawsKept v _).trans (State.toClearing_lawsKept _ v)
      · exact (s.setVolume_lawsKept v _).trans (State.grant_lawsKept _ v)
    · exact (s.setVolume_lawsKept v _).trans (State.grant_lawsKept _ v)

theorem State.checkLmReset_lawsKept : LawsKept s s.checkLmReset := by
  unfold State.checkLmReset
  split
  · exact ((s.setLm_unchanged _).lawsKept (by simp)).trans (State.lmTellAgent_lawsKept _ _)
  · exact .refl s

theorem State.freeLoan_lawsKept (i : Nat) : LawsKept s (s.freeLoan i) := by
  unfold State.freeLoan
  split
  · exact .refl s
  · exact (((((s.setLm_unchanged _).trans (State.setGeneration_unchanged _ i _)).lawsKept (by simp)).trans
      ((State.modNode_unchanged _ _ _).lawsKept (by simp))).trans
      (State.volumeFreed_lawsKept _ _)).trans
      (((State.retryGrants_unchanged _).lawsKept (by simp)).trans (State.checkLmReset_lawsKept _))

theorem State.freeIfQuiet_lawsKept (i : Nat) : LawsKept s (s.freeIfQuiet i) := by
  unfold State.freeIfQuiet
  split
  · exact .refl s
  · split
    · exact s.freeLoan_lawsKept i
    · exact .refl s

theorem State.endWithNotice_lawsKept (i : Nat) (r : EndReason) : LawsKept s (s.endWithNotice i r) :=
  (s.endWithNotice_unchanged i r).lawsKept (by simp)

theorem State.endAndFree_lawsKept (i : Nat) (r : EndReason) :
    LawsKept s ((s.endWithNotice i r).freeIfQuiet i) :=
  (s.endWithNotice_lawsKept i r).trans (State.freeIfQuiet_lawsKept _ i)

theorem State.expireTerm_lawsKept (i : Nat) (l : Loan) : LawsKept s (s.expireTerm i l) := by
  have told (t : State) : LawsKept t (t.expiredNotice i l) := by
    unfold State.expiredNotice
    split
    · exact t.lmTellAgent_lawsKept _
    · exact .refl t
  exact ((s.endWithNotice_lawsKept i _).trans (told _)).trans (State.freeIfQuiet_lawsKept _ i)

theorem State.returnLoan_lawsKept (n : Nat) (h : Header) : LawsKept s (s.returnLoan n h) := by
  unfold State.returnLoan
  split
  · exact s.placeForNode_lawsKept _ _
  · split
    · exact s.placeForNode_lawsKept _ _
    · exact (((s.setLoan_unchanged _ _).lawsKept (by simp)).trans (State.placeForNode_lawsKept _ _ _)).trans
        (State.freeIfQuiet_lawsKept _ _)
    · exact (((s.setLoan_unchanged _ _).lawsKept (by simp)).trans (State.placeForNode_lawsKept _ _ _)).trans
        (State.freeIfQuiet_lawsKept _ _)

theorem State.resetLoans_lawsKept : LawsKept s s.resetLoans := by
  have records := LawsKept.foldl (fun (t : State) r => t.removeRecord r true)
    (fun t r => (t.removeRecord_unchanged r true).lawsKept (by simp)) s.lm.waits.numbers s
  have ends (l : List Nat) (t : State) := LawsKept.foldl _ (fun t i => t.endWithNotice_lawsKept i .reset) l t
  have frees (l : List Nat) (t : State) := LawsKept.foldl _ (fun t i => t.freeIfQuiet_lawsKept i) l t
  exact ((((records.trans ((State.setLm_unchanged _ _).lawsKept (by simp))).trans (ends _ _)).trans
    (frees _ _)).trans ((State.setLm_unchanged _ _).lawsKept (by simp))).trans (State.checkLmReset_lawsKept _)

theorem State.releaseLoanStep_lawsKept (b : Bay) : LawsKept s (s.releaseLoanStep b) :=
  .foldl _ (fun t i => t.endAndFree_lawsKept i _) _ _

theorem State.forgetLoanStep_lawsKept (n : Nat) : LawsKept s (s.forgetLoanStep n) :=
  ((LawsKept.foldl (fun (t : State) r => t.removeAndGrant r false)
      (fun t r => (t.removeAndGrant_unchanged r false).lawsKept (by simp)) _ s).trans
    ((State.setLm_unchanged _ _).lawsKept (by simp))).trans (.foldl _ (fun t i => t.freeLoan_lawsKept i) _ _)

theorem State.beginRelease_lawsKept (b : Bay) : LawsKept s (s.beginRelease b) :=
  (((s.setLmBay_lawsKept b _).trans (State.releaseLoanStep_lawsKept _ b)).trans
    (State.failPending_lawsKept _ b)).trans (State.lmSend_lawsKept _ b _)

/-! ### Reports of the drive units to the loan manager (R117, R130, R131) -/

theorem State.takeHealth_lawsKept (b : Bay) (st : DriveState) (d : Option Disk) (r : Bool) :
    LawsKept s (s.takeHealth b st d r) := by
  have noted : LawsKept s (if st = .absent then (s.noteHealth b st d).failPending b
      else s.noteHealth b st d) := by
    split
    · exact (s.setLmBay_lawsKept b _).trans (State.failPending_lawsKept _ b)
    · exact s.setLmBay_lawsKept b _
  unfold State.takeHealth
  refine .trans ?_ (State.listFromHead_lawsKept _ b)
  split
  · exact noted.trans (State.setLmBay_lawsKept _ b _)
  · exact noted

theorem State.extentEnds_lawsKept (b : Bay) (r : SegRef) (c : ClearStatus) : LawsKept s (s.extentEnds b r c) :=
  (((s.setClear_lawsKept r c).trans (State.setLmBay_lawsKept _ b _)).trans
    (State.examineClear_lawsKept _ r.vol)).trans (State.listFromHead_lawsKept _ b)

/-! ### Requests and pieces (R57, R70 to R79) -/

theorem State.setRequest_lawsKept (r : Nat) (q : Request) : LawsKept s (s.setRequest r q) :=
  (s.setRequest_unchanged r q).lawsKept (by simp)

theorem State.setPiece_lawsKept (n : Nat) (x : Piece) : LawsKept s (s.setPiece n x) :=
  (s.setPiece_unchanged n x).lawsKept (by simp)

theorem State.refuse_lawsKept (n : Nat) (p : Port) (tag : BitVec 8) (h : BitVec 16) (k : ReqKind) (c : Code) :
    LawsKept s (s.refuse n p tag h k c) := (s.refuse_unchanged n p tag h k c).lawsKept (by simp)

theorem State.leaveDelivery_lawsKept (p : Port) (n : Nat) : LawsKept s (s.leaveDelivery p n) :=
  (s.leaveDelivery_unchanged p n).lawsKept (by simp)

theorem State.admitCuts_lawsKept (a : Admitting) (r : Nat) (l : List Cut) (ns : List Nat) :
    LawsKept s (State.admitCuts a r l s ns).1 := by
  induction l generalizing s ns with
  | nil => exact .refl s
  | cons c l ih =>
    unfold State.admitCuts
    split
    · exact .refl s
    · exact (((s.setPiece_lawsKept _ _).trans ((State.setRu_unchanged _ _).lawsKept (by simp))).trans
        (State.ruSend_lawsKept _ _ _)).trans (ih _ _)

theorem State.admitRequest_lawsKept (a : Admitting) : LawsKept s (s.admitRequest a) := by
  unfold State.admitRequest
  split
  · exact .refl s
  · exact ((s.admitCuts_lawsKept a _ _ _).trans (State.setRequest_lawsKept _ _ _)).trans
      ((State.modNode_unchanged _ _ _).lawsKept (by simp))

theorem State.lowerLoan_lawsKept (h : BitVec 16) : LawsKept s (s.lowerLoan h) := by
  unfold State.lowerLoan
  split
  · exact .refl s
  · dsimp only
    split
    · exact ((s.setLoan_unchanged _ _).lawsKept (by simp)).trans
        (State.setMail_lawsKept _ _ (by exact ⟨id, id, id⟩))
    · exact (s.setLoan_unchanged _ _).lawsKept (by simp)

theorem State.lowerNode_lawsKept (n : Nat) (tag : BitVec 8) : LawsKept s (s.lowerNode n tag) := by
  unfold State.lowerNode
  split
  · exact .refl s
  · dsimp only
    split
    · exact ((s.setNode_unchanged _ _).lawsKept (by simp)).trans
        (State.setMail_lawsKept _ _ (by exact ⟨id, id, id⟩))
    · exact (s.setNode_unchanged _ _).lawsKept (by simp)

theorem State.ruShareEnds_lawsKept (r : Nat) : LawsKept s (s.ruShareEnds r) := by
  unfold State.ruShareEnds
  split
  · exact .refl s
  · split
    · exact ((s.setRu_unchanged _).lawsKept (by simp)).trans (State.ruTellAgent_lawsKept _ _)
    · exact (s.setRu_unchanged _).lawsKept (by simp)

theorem State.finish_lawsKept (r : Nat) (q : Request) : LawsKept s (s.finish r q) :=
  (((((s.place_unchanged _ _).lawsKept (by simp)).trans ((State.setRu_unchanged _ _).lawsKept (by simp))).trans
    (State.lowerLoan_lawsKept _ _)).trans (State.lowerNode_lawsKept _ _ _)).trans (State.ruShareEnds_lawsKept _ _)

theorem State.finishIfFinal_lawsKept (r : Nat) : LawsKept s (s.finishIfFinal r) := by
  unfold State.finishIfFinal
  split
  · exact .refl s
  · split
    · exact s.finish_lawsKept r _
    · exact .refl s

theorem State.placeData_lawsKept (p : Port) (n : Nat) (pc : Piece) (q : Request) (k i : Nat) (m : Bool) :
    LawsKept s (s.placeData p n pc q k i m) := by
  unfold State.placeData
  dsimp only
  split
  · exact (((((s.place_unchanged _ _).lawsKept (by simp)).trans (State.setPiece_lawsKept _ _ _)).trans
      (State.leaveDelivery_lawsKept _ _ _)).trans (State.ruSend_lawsKept _ _ _)).trans
      (State.finishIfFinal_lawsKept _ _)
  · exact ((s.place_unchanged _ _).lawsKept (by simp)).trans (State.setPiece_lawsKept _ _ _)

theorem State.deliverLoop_lawsKept (p : Port) (n : Nat) : LawsKept s (State.deliverLoop p n s) := by
  induction n generalizing s with
  | zero => exact .refl s
  | succ n ih =>
    unfold State.deliverLoop
    split
    · exact .refl s
    · split
      · exact (s.leaveDelivery_lawsKept p _).trans (ih _)
      · split
        · split
          · exact (s.placeData_lawsKept p _ _ _ _ _ _).trans (ih _)
          · exact .refl s
        · exact (s.leaveDelivery_lawsKept p _).trans (ih _)

theorem State.deliver_lawsKept (p : Port) : LawsKept s (s.deliver p) := s.deliverLoop_lawsKept p _

theorem State.withdrawQueued_lawsKept (q : Request) (r : FailReason) : LawsKept s (s.withdrawQueued q r) := by
  refine .foldl _ (fun t n => ?_) _ _
  split
  · split
    · exact t.ruSend_lawsKept _ _
    · exact .refl t
  · exact .refl t

theorem State.discardStaged_lawsKept (p : Port) (n : Nat) : LawsKept s (s.discardStaged p n) := by
  unfold State.discardStaged
  split
  · split
    · exact ((s.setPiece_lawsKept n _).trans (State.leaveDelivery_lawsKept _ p n)).trans
        (State.ruSend_lawsKept _ _ _)
    all_goals exact .refl s
  · exact .refl s

theorem State.overrunRequest_lawsKept (r : Nat) (q : Request) : LawsKept s (s.overrunRequest r q) :=
  ((((s.setRequest_lawsKept r _).trans
    (.foldl _ (fun t n => t.discardStaged_lawsKept q.port n) _ _)).trans
    (State.withdrawQueued_lawsKept _ _ _)).trans (State.finishIfFinal_lawsKept _ r)).trans
    (State.deliver_lawsKept _ _)

theorem State.takeRequest_lawsKept (k : ReqKind) (n : Nat) (p : Port) (h : Header) (d : List Byte) :
    LawsKept s (s.takeRequest k n p h d) := by
  unfold State.takeRequest
  split
  · exact .refl s
  · split
    · exact s.refuse_lawsKept _ _ _ _ _ _
    · dsimp only
      split
      · exact s.refuse_lawsKept _ _ _ _ _ _
      · exact ⟨id, id, id⟩

theorem State.abortTag_lawsKept (n : Nat) (p : Port) (h : Header) : LawsKept s (s.abortTag n p h) := by
  unfold State.abortTag
  split
  · exact (s.place_unchanged p _).lawsKept (by simp)
  · split
    · exact .refl s
    all_goals exact (s.setRequest_lawsKept _ _).trans (State.withdrawQueued_lawsKept _ _ _)

/-! ### Reports of the drive units to the request unit (R68, R69, R75) -/

theorem State.requestRuns_lawsKept (r : Nat) : LawsKept s (s.requestRuns r) :=
  (s.requestRuns_unchanged r).lawsKept (by simp)

theorem State.endPiece_lawsKept (n : Nat) (pc : Piece) (st : PieceState) (d : Nat) :
    LawsKept s (s.endPiece n pc st d) :=
  (s.setPiece_lawsKept n _).trans (State.finishIfFinal_lawsKept _ _)

theorem State.pieceStarted_lawsKept (r : PieceRef) : LawsKept s (s.pieceStarted r) := by
  unfold State.pieceStarted
  split
  · exact .refl s
  · split
    · exact (s.setPiece_lawsKept _ _).trans (State.requestRuns_lawsKept _ _)
    · exact .refl s

theorem State.pieceStaged_lawsKept (r : PieceRef) (k : Nat) (m : Bool) : LawsKept s (s.pieceStaged r k m) := by
  unfold State.pieceStaged
  split
  · exact .refl s
  · split
    · exact .refl s
    · split
      · exact .refl s
      · split
        · exact (s.ruSend_lawsKept _ _).trans (State.endPiece_lawsKept _ _ _ _ _)
        · exact ((s.setPiece_lawsKept _ _).trans ((State.setDelivery_unchanged _ _ _).lawsKept (by simp))).trans
            (State.deliver_lawsKept _ _)

theorem State.pieceDone_lawsKept (r : PieceRef) : LawsKept s (s.pieceDone r) := by
  unfold State.pieceDone
  split
  · exact .refl s
  · split
    · exact .refl s
    · exact s.endPiece_lawsKept _ _ _ _

theorem State.pieceFailed_lawsKept (r : PieceRef) (f : FailReason) (d : Nat) :
    LawsKept s (s.pieceFailed r f d) := by
  unfold State.pieceFailed
  split
  · exact .refl s
  · split
    · exact .refl s
    · exact .refl s
    · exact .refl s
    · split
      · exact .refl s
      · exact ((s.leaveDelivery_lawsKept _ _).trans (State.endPiece_lawsKept _ _ _ _ _)).trans
          (State.deliver_lawsKept _ _)
    · exact (s.requestRuns_lawsKept _).trans (State.endPiece_lawsKept _ _ _ _ _)
    · split
      · exact .refl s
      · split <;> exact s.endPiece_lawsKept _ _ _ _

theorem State.pieceWithdrawn_lawsKept (r : PieceRef) (f : FailReason) : LawsKept s (s.pieceWithdrawn r f) := by
  unfold State.pieceWithdrawn
  split
  · exact .refl s
  · split
    · exact .refl s
    · exact s.endPiece_lawsKept _ _ _ _

theorem State.resetRequest_lawsKept (r : Nat) : LawsKept s (s.resetRequest r) := by
  unfold State.resetRequest
  split
  · exact .refl s
  · exact (s.setRequest_lawsKept _ _).trans (State.withdrawQueued_lawsKept _ _ _)

theorem State.resetRequests_lawsKept : LawsKept s s.resetRequests := by
  have h := LawsKept.foldl _ (fun t r => t.resetRequest_lawsKept r) s.ru.requests.numbers s
  unfold State.resetRequests
  dsimp only
  split
  · exact h.trans (State.ruTellAgent_lawsKept _ _)
  · exact h.trans ((State.setRu_unchanged _ _).lawsKept (by simp))

/-! ### The node block (R147 to R154) -/

theorem State.haltNode_lawsKept (p : Port) (f : InFrame) (n : Nat) (e : Node) (c : HaltCause) :
    LawsKept s (s.haltNode p f n e c) := by
  have h := (((s.setPort_unchanged p ((s.port p).unclaim f)).lawsKept (by simp)).trans
    ((State.setNode_unchanged _ n { e with state := .halted }).lawsKept (by simp))).trans
    (State.nodeTellAgent_lawsKept _ (.notice (.nodeHalted e.addr c p (f.kind.getD Config.absentKind) e.state)))
  unfold State.haltNode
  dsimp only
  split
  · exact h.trans (State.nodeTellAgent_lawsKept _ _)
  · exact h

theorem State.nodeFrame_lawsKept (p : Port) (f : InFrame) : LawsKept s (s.nodeFrame p f) := by
  unfold State.nodeFrame
  split
  · exact (s.setPort_unchanged p _).lawsKept (by simp)
  · split
    · exact (s.setPort_unchanged p _).lawsKept (by simp)
    · split
      · exact s.haltNode_lawsKept p f _ _ _
      · unfold State.passNodeFrame
        dsimp only
        split <;> exact ((s.setNode_unchanged _ _).lawsKept (by simp)).trans
          ((State.setCls_unchanged _ _).lawsKept (by simp))

theorem State.manageFrame_lawsKept (p : Port) (f : InFrame) : LawsKept s (s.manageFrame p f) := by
  unfold State.manageFrame
  split
  · exact (s.setCls_unchanged _).lawsKept (by simp)
  · split
    · exact .refl s
    · split
      · exact (s.setCls_unchanged _).lawsKept (by simp)
      · exact (s.setPort_unchanged p _).lawsKept (by simp)

theorem State.quietNode_lawsKept (n : Nat) : LawsKept s (s.quietNode n) := by
  unfold State.quietNode
  split
  · exact .refl s
  · split
    · exact ((s.setNode_unchanged _ _).lawsKept (by simp)).trans (State.nodeTellAgent_lawsKept _ _)
    · exact .refl s

/-! ### The spin-up arbiter and the parameter set (R110, R113, R174) -/

theorem State.arbGrant_lawsKept : LawsKept s s.arbGrant :=
  ((s.setArb_unchanged _).lawsKept (by simp)).trans (.foldl _ State.sendGrant_lawsKept _ _)

theorem State.sendParams_lawsKept (p : ParamBlock) : LawsKept s (s.sendParams p) := by
  have bays : LawsKept s (allBays.foldl (fun (t : State) b => t.setBmail b ((t.bmail b).sendParams p b)) s) :=
    .foldl _ (fun t b => t.setBmail_lawsKept b _ (by exact ⟨id, id⟩)) _ _
  have ports (l : List Port) (t : State) : LawsKept t (l.foldl (fun (t : State) q =>
      t.setPmail q { t.pmail q with
        thresholds := (t.pmail q).thresholds ++ [(t.agent.params.on, t.agent.params.off)] }) t) :=
    .foldl _ (fun t q => (t.setPmail_unchanged q _).lawsKept (by simp)) _ _
  unfold State.sendParams
  dsimp only
  split
  · split
    · exact (bays.trans (State.setMail_lawsKept _ _ (by exact ⟨id, id, id⟩))).trans (ports _ _)
    · exact bays.trans (ports _ _)
  · split
    · exact bays.trans (State.setMail_lawsKept _ _ (by exact ⟨id, id, id⟩))
    · exact bays

theorem State.applyParams_lawsKept (tag : BitVec 8) (p : ParamBlock) : LawsKept s (s.applyParams tag p) :=
  (((s.setAgent_unchanged _).lawsKept (by simp)).trans (State.sendParams_lawsKept _ p)).trans
    ((State.answer_unchanged _ _).lawsKept (by simp))

theorem State.setBudget_lawsKept (n : Nat) : LawsKept s (s.setBudget n) := by
  unfold State.setBudget
  dsimp only
  split
  · exact ((s.setArb_unchanged _).lawsKept (by simp)).trans (State.arbGrant_lawsKept _)
  · exact (s.setArb_unchanged _).lawsKept (by simp)

/-! ### What a management request shares (R168, R172) -/

theorem State.manage_lawsKept (code : Byte) (act : Header → List Byte → State → State)
    (ha : ∀ h bs u, LawsKept u (act h bs u)) : LawsKept s (s.manage code act) := by
  have free : LawsKept s s.freeClassifier := s.freeClassifier_unchanged.lawsKept (by simp)
  unfold State.manage
  split
  · rename_i p f h _
    split
    · unfold State.takeManage
      dsimp only
      split
      · exact free.trans ((State.discardManage_unchanged _ p).lawsKept (by simp))
      · have k := free.trans ((State.setManagerPort_unchanged _ p).lawsKept (by simp))
        split
        · exact k.trans (ha _ _ _)
        · exact k.trans ((State.answer_unchanged _ _).lawsKept (by simp))
    · exact .refl s
  · exact .refl s

theorem State.setWait_lawsKept (w : AgentWait) : LawsKept s (s.setWait w) :=
  (s.setWait_unchanged w).lawsKept (by simp)
theorem State.reply_lawsKept (h : Header) (c : Code) : LawsKept s (s.reply h c) :=
  (s.reply_unchanged h c).lawsKept (by simp)

theorem State.lmStatus_lawsKept (h : Header) (c : Code) : LawsKept s (s.lmStatus h c) :=
  (s.setWait_lawsKept _).trans (State.lmTellAgent_lawsKept _ _)

theorem State.nodeStatus_lawsKept (h : Header) (c : Code) : LawsKept s (s.nodeStatus h c) :=
  (s.setWait_lawsKept _).trans (State.nodeTellAgent_lawsKept _ _)

theorem State.unitStatus_lawsKept (b : Bay) (a : Answer) : LawsKept s (s.unitStatus b a) :=
  (s.setWait_lawsKept _).trans (State.unitTellAgent_lawsKept _ b _)

theorem State.svcStatus_lawsKept (b : Bay) (a : Answer) : LawsKept s (s.svcStatus b a) :=
  (s.setWait_lawsKept _).trans (State.svcTellAgent_lawsKept _ b _)

/-- A request to a bay: it is kept apart from bays that do not exist (R168). -/
theorem State.manageBay_lawsKept (code : Byte) (act : Header → Bay → State → State)
    (ha : ∀ h b u, LawsKept u (act h b u)) : LawsKept s (s.manage code fun h _ t => t.onBay h (act h)) := by
  refine s.manage_lawsKept code _ fun h _ u => ?_
  unfold State.onBay
  split
  · exact ha h _ u
  · exact u.reply_lawsKept _ _

end Sys2Proof.Machine
end

section
/-! SUPPORT. The commands of a bay keep the laws of the drive units and of the channels to the agent. -/

namespace Sys2Proof.Machine

variable (s t : State) (b : Bay)

/-! ### Pieces and extents (R87, R88, R92, R115, R120, R121) -/

theorem State.appendPiece_lawsKept (j : Job) (identity : Serial) : LawsKept s (s.appendPiece b j identity) := by
  unfold State.appendPiece
  dsimp only
  split
  · exact s.tellRu_lawsKept b _
  · split
    · exact s.tellRu_lawsKept b _
    · split
      · exact s.tellRu_lawsKept b _
      · exact (s.modUnit_lawsKept b _ rfl id).trans (State.workArrived_lawsKept _ b)

theorem State.withdrawPiece_lawsKept (r : PieceRef) (f : FailReason) : LawsKept s (s.withdrawPiece b r f) := by
  unfold State.withdrawPiece
  dsimp only
  split
  · exact ((s.modUnit_lawsKept b _ rfl id).trans (State.tellRu_lawsKept _ b _)).trans (State.idle_lawsKept _ b)
  · split
    · exact s.tellRu_lawsKept b _
    · exact s.tellRu_lawsKept b _

theorem State.emptyStaging_lawsKept (r : PieceRef) : LawsKept s (s.emptyStaging b r) := by
  unfold State.emptyStaging
  split
  · exact (s.modUnit_lawsKept b _ rfl id).trans (State.choose_lawsKept _ b)
  · exact .refl s

theorem State.takeExtent_lawsKept (v i : Nat) (identity : Serial) (start length : Nat) :
    LawsKept s (s.takeExtent b v i identity start length) := by
  unfold State.takeExtent
  split
  · exact s.tellLm_lawsKept b _
  · unfold State.joinExtent
    dsimp only
    split
    · exact (s.modUnit_lawsKept b _ rfl id).trans (State.workArrived_lawsKept _ b)
    · exact (s.modUnit_lawsKept b _ rfl id).trans (State.idle_lawsKept _ b)

theorem State.beginSweep_lawsKept : LawsKept s (s.beginSweep b) :=
  (s.modUnit_lawsKept b _ rfl id).trans (State.workArrived_lawsKept _ b)

theorem execPieceAppend_lawsKept (h : execPieceAppend b s = .next t) : LawsKept s t := by
  cases h
  split
  · exact (s.popRu_lawsKept b _).trans (State.appendPiece_lawsKept _ b _ _)
  · exact .refl s

theorem execPieceWithdrawal_lawsKept (h : execPieceWithdrawal b s = .next t) : LawsKept s t := by
  cases h
  split
  · exact (s.popRu_lawsKept b _).trans (State.withdrawPiece_lawsKept _ b _ _)
  · exact .refl s

theorem execStagingEmptied_lawsKept (h : execStagingEmptied b s = .next t) : LawsKept s t := by
  cases h
  split
  · exact (s.popRu_lawsKept b _).trans (State.emptyStaging_lawsKept _ b _)
  · exact .refl s

theorem execPendingClearReport_lawsKept (h : execPendingClearReport b s = .next t) : LawsKept s t := by
  cases h
  split
  · exact ((s.popLmToUnit_lawsKept b _).trans (State.modUnit_lawsKept _ b _ rfl id)).trans (State.idle_lawsKept _ b)
  · exact .refl s

theorem execClearExtent_lawsKept (h : execClearExtent b s = .next t) : LawsKept s t := by
  cases h
  split
  · exact (s.popLmToUnit_lawsKept b _).trans (State.takeExtent_lawsKept _ b _ _ _ _ _)
  · exact .refl s

theorem execGatherTimerExpiry_lawsKept (h : execGatherTimerExpiry b s = .next t) : LawsKept s t := by
  cases h
  split
  · split
    · exact s.beginSweep_lawsKept b
    · exact .refl s
  · exact .refl s
  · exact .refl s

/-! ### Ends of commands, time limits and link loss (R86, R91 to R100, R124, R125) -/

theorem execIdentifyCompletion_lawsKept (n : Nat) (o : IdentifyOutcome)
    (h : execIdentifyCompletion b n o s = .next t) : LawsKept s t := by
  cases h
  split
  · rename_i flying
    unfold State.identifyEnds
    split
    · split
      · exact s.enterFault_lawsKept b _
      · exact State.identified_lawsKept flying _
    all_goals exact s.enterFault_lawsKept b _
  · exact .refl s

theorem execFetchCompletion_lawsKept (n : Nat) (o : FetchOutcome) (h : execFetchCompletion b n o s = .next t) :
    LawsKept s t := by
  unfold execFetchCompletion at h
  split at h
  · cases o with
    | good blocks =>
      dsimp only at h
      split at h <;> cases h
      exact s.fetched_lawsKept b _ _ _
    | media blocks =>
      dsimp only at h
      split at h <;> cases h
      exact s.fetched_lawsKept b _ _ _
    | failed => cases h; exact s.enterFault_lawsKept b _
    | linkLost => cases h; exact s.enterFault_lawsKept b _
  · cases h; exact .refl s

theorem execStoreCompletion_lawsKept (n : Nat) (o : CmdOutcome) (h : execStoreCompletion b n o s = .next t) :
    LawsKept s t := by
  unfold execStoreCompletion at h
  split at h
  · cases o with
    | good => cases h; exact s.stored_lawsKept b _
    | media k =>
      dsimp only at h
      split at h <;> cases h
      exact s.pieceMedia_lawsKept b _ _
    | failed => cases h; exact s.enterFault_lawsKept b _
    | linkLost => cases h; exact s.enterFault_lawsKept b _
  · cases h; exact .refl s

theorem execProbeCompletion_lawsKept (n : Nat) (o : CmdOutcome) (h : execProbeCompletion b n o s = .next t) :
    LawsKept s t := by
  unfold execProbeCompletion at h
  split at h
  · cases o with
    | good => cases h; exact s.probed_lawsKept b _ _
    | media k =>
      dsimp only at h
      split at h <;> cases h
      exact s.pieceMedia_lawsKept b _ _
    | failed => cases h; exact s.enterFault_lawsKept b _
    | linkLost => cases h; exact s.enterFault_lawsKept b _
  · cases h; exact .refl s

theorem execZeroCompletion_lawsKept (n : Nat) (o : CmdOutcome) (h : execZeroCompletion b n o s = .next t) :
    LawsKept s t := by
  unfold execZeroCompletion at h
  split at h
  · cases o with
    | good => cases h; exact s.zeroed_lawsKept b _ _
    | media k =>
      dsimp only at h
      split at h <;> cases h
      exact s.zeroMedia_lawsKept b _
    | failed => cases h; exact s.enterFault_lawsKept b _
    | linkLost => cases h; exact s.enterFault_lawsKept b _
  · cases h; exact .refl s

theorem execSpinUpCompletion_lawsKept (n : Nat) (o : CmdOutcome) (h : execSpinUpCompletion b n o s = .next t) :
    LawsKept s t := by
  cases h
  split
  · split
    · exact s.spunUp_lawsKept b
    all_goals exact s.enterFault_lawsKept b _
  · exact .refl s

theorem execSpinDownCompletion_lawsKept (n : Nat) (o : CmdOutcome)
    (h : execSpinDownCompletion b n o s = .next t) : LawsKept s t := by
  cases h
  split
  · rename_i flying
    split
    · exact State.spunDown_lawsKept flying
    all_goals exact s.enterFault_lawsKept b _
  · exact .refl s

theorem execCommandTimerExpiry_lawsKept (h : execCommandTimerExpiry b s = .next t) : LawsKept s t := by
  cases h
  split
  · exact s.countedFault_lawsKept b _
  · exact .refl s

theorem execSpinUpLimitExpiry_lawsKept (h : execSpinUpLimitExpiry b s = .next t) : LawsKept s t := by
  cases h
  split
  · exact s.countedFault_lawsKept b _
  · exact .refl s

theorem execLinkLost_lawsKept (h : execLinkLost b s = .next t) : LawsKept s t := by
  cases h
  split
  on_goal 8 => exact .refl s
  on_goal 8 => exact .refl s
  on_goal 8 => exact .refl s
  all_goals exact s.enterFault_lawsKept b _

/-! ### The idle timer, spin-up grants and values sent (R90, R101, R103, R111, R174) -/

theorem execIdleTimerExpiry_lawsKept (h : execIdleTimerExpiry b s = .next t) : LawsKept s t := by
  cases h
  split
  · exact s.spinDown_lawsKept b
  · exact .refl s

theorem execSpinUpGrant_lawsKept (h : execSpinUpGrant b s = .next t) : LawsKept s t := by
  cases h
  split
  · exact .refl s
  · dsimp only
    split
    · rename_i wakeWait
      exact ((s.bayIs bayParts b).setBmail _).beginSpinUp_lawsKept wakeWait ⟨id, id⟩
    · exact (s.setBmail_lawsKept b _ (by exact ⟨id, id⟩)).trans (State.tellArb_lawsKept _ b _)

theorem execPauseAllowanceChange_lawsKept (h : execPauseAllowanceChange b s = .next t) : LawsKept s t := by
  cases h
  split
  · exact .refl s
  · exact ((s.setBmail_lawsKept b _ (by exact ⟨id, id⟩)).trans (State.modUnit_lawsKept _ b _ rfl id)).trans
      (State.choose_lawsKept _ b)

theorem execKeepSpinningChange_lawsKept (h : execKeepSpinningChange b s = .next t) : LawsKept s t := by
  cases h
  split
  · exact .refl s
  · exact ((s.setBmail_lawsKept b _ (by exact ⟨id, id⟩)).trans (State.modUnit_lawsKept _ b _ rfl id)).trans
      (State.idle_lawsKept _ b)

theorem execTimerLimitChange_lawsKept (x : LimitTarget) (h : execTimerLimitChange x s = .next t) :
    LawsKept s t := by
  cases h
  cases x with
  | requestUnit =>
    dsimp only
    split
    · exact .refl s
    · exact ⟨id, id, id⟩
  | driveUnit b =>
    dsimp only
    split
    · exact .refl s
    · exact (s.setBmail_lawsKept b _ (by exact ⟨id, id⟩)).trans (State.modUnit_lawsKept _ b _ rfl id)

/-! ### Releases at the drive unit (R128, R138, R140) -/

theorem State.closeEngine_lawsKept : LawsKept s (s.closeEngine b) := by
  have reported : LawsKept s (s.reportExtents b (s.unit b).releasedExtents) :=
    .foldl _ (fun t _ => t.tellLm_lawsKept b _) _ s
  unfold State.closeEngine
  exact reported.trans (State.modUnit_lawsKept _ b _ rfl id)

theorem State.withdrawQueue_lawsKept : LawsKept s (s.withdrawQueue b) := by
  have withdrawn := LawsKept.foldl (fun (t : State) (j : Job) => t.tellRu b (.withdrawn j.piece .bayReleased))
    (fun t _ => t.tellRu_lawsKept b _) (s.unit b).queue s
  unfold State.withdrawQueue
  exact withdrawn.trans (State.modUnit_lawsKept _ b _ rfl id)

theorem State.releaseHand_lawsKept : LawsKept s (s.releaseHand b) := by
  have cleared : LawsKept s (s.clearHand b) := s.modUnit_lawsKept b _ rfl id
  unfold State.releaseHand
  split
  · exact cleared.trans (State.tellRu_lawsKept _ b _)
  · exact .refl s

theorem State.releaseSpinDown_lawsKept (idle : (s.unit b).idleTimer = none) : LawsKept s (s.releaseSpinDown b) := by
  have k := ((s.bayIs bayParts b).issue .spinDown).enter .spinningDown
  rw [DriveUnit.issue_eq_issuing _ (by simp)] at k
  exact k.lawsKept ⟨id, id⟩ (fun _ => DriveUnit.lawful_running rfl rfl (by simp) rfl idle) fun _ => ⟨rfl, rfl⟩

/-- The steps of a release before the state decides what follows: the mark, the clear step, the queue, and the idle
timer (R138 steps 1 and 2). -/
def State.releaseBegun (s : State) (b : Bay) : State :=
  (((s.modUnit b fun u => { u with releaseUnderWay := true }).closeEngine b).withdrawQueue b).modUnit b
    fun u => { u with idleTimer := none }

theorem State.releaseBegun_lawsKept : LawsKept s (s.releaseBegun b) := by
  have marked : LawsKept s (s.modUnit b fun u => { u with releaseUnderWay := true }) := s.modUnit_lawsKept b _ rfl id
  have stopped (t : State) : LawsKept t (t.modUnit b fun u => { u with idleTimer := none }) :=
    t.modUnit_lawsKept b _ rfl fun ⟨fits, command, spinUp, _⟩ => ⟨fits, command, spinUp, by simp⟩
  exact ((marked.trans (State.closeEngine_lawsKept _ b)).trans (State.withdrawQueue_lawsKept _ b)).trans (stopped _)

theorem State.takeRelease_lawsKept : LawsKept s (s.takeRelease b) := by
  have begun := s.releaseBegun_lawsKept b
  unfold State.takeRelease
  split
  · exact s.tellLm_lawsKept b _
  · exact s.tellLm_lawsKept b _
  · dsimp only
    rw [← State.releaseBegun]
    split
    · exact begun.trans (State.enterService_lawsKept _ b)
    · exact begun.trans (State.enterService_lawsKept _ b)
    · exact (begun.trans (State.tellArb_lawsKept _ b _)).trans (State.enterService_lawsKept _ b)
    · exact (begun.trans (State.releaseHand_lawsKept _ b)).trans
        (State.releaseSpinDown_lawsKept _ b (by simp [State.releaseBegun]))
    all_goals exact begun

theorem execReleaseTaken_lawsKept (h : execReleaseTaken b s = .next t) : LawsKept s t := by
  cases h
  split
  · exact (s.popLmToUnit_lawsKept b _).trans (State.takeRelease_lawsKept _ b)
  · exact .refl s

/-! ### Removal and insertion (R141, R142) -/

theorem State.sense_lawsKept (p : Bool) : LawsKept s (s.sense b p) :=
  ((s.bayIs bayParts b).setControls { s.controls b with present := p }).lawsKept ⟨id, id⟩ id id

theorem execPresenceLost_lawsKept (h : execPresenceLost b s = .next t) : LawsKept s t := by
  cases h
  split
  · exact s.sense_lawsKept b _
  · exact (s.sense_lawsKept b _).trans (State.enterAbsent_lawsKept _ b)

theorem execPresenceGained_lawsKept (h : execPresenceGained b s = .next t) : LawsKept s t := by
  cases h
  split
  · rename_i absent
    have sensed := (s.bayIs bayParts b).setControls { s.controls b with present := true }
    exact (sensed.modUnit fun u => { u with mediaErrors := 0, timeouts := 0, spinUps := 0 }).enterIdentifying_lawsKept
      fun law => law.idle_none (by simp [absent])
  · exact s.sense_lawsKept b _

/-! ### The service controls (R134 to R136) -/

theorem State.setOutputs_lawsKept (c : Service) : LawsKept s (s.setControls b (c.outputs (s.unit b).state)) :=
  ((s.bayIs bayParts b).setControls (c.outputs (s.unit b).state)).lawsKept ⟨id, id⟩ id fun _ => ⟨rfl, rfl⟩

theorem State.setControls_lawsKept (c : Service) (lock : c.lock = (s.controls b).lock)
    (lamp : c.lamp = (s.controls b).lamp) (flag : c.pressedFlag = (s.controls b).pressedFlag) :
    LawsKept s (s.setControls b c) :=
  ((s.bayIs bayParts b).setControls c).lawsKept ⟨id, id⟩ id fun h => by rw [lock, lamp, flag]; exact h

theorem execButtonPress_lawsKept (h : execButtonPress b s = .next t) : LawsKept s t := by
  cases h
  split
  · exact .refl s
  · exact (s.setOutputs_lawsKept b _).trans (State.svcTellAgent_lawsKept _ b _)

theorem execButtonRelease_lawsKept (h : execButtonRelease b s = .next t) : LawsKept s t := by
  cases h
  exact s.setControls_lawsKept b _ rfl rfl rfl

theorem State.override_lawsKept : LawsKept s (s.override b) :=
  (s.svcTellAgent_lawsKept b _).trans (State.setBmail_lawsKept _ b _ (by exact ⟨id, id⟩))

theorem execHoldTimerExpiry_lawsKept (h : execHoldTimerExpiry b s = .next t) : LawsKept s t := by
  cases h
  split
  · have stopped := s.setControls_lawsKept b { s.controls b with holdTimer := none } rfl rfl rfl
    dsimp only
    split
    · exact stopped
    · exact stopped
    all_goals exact stopped.trans (State.override_lawsKept _ b)
  · exact .refl s

/-! ### Power-on (R179) -/

/-- What a table written for the keys of a list holds under one of them. -/
theorem get_map_key {α β : Type} (key : β → Nat) (inj : Function.Injective key) (f : β → α) {l : List β}
    {c : β} (hc : c ∈ l) : Tbl.get (l.map fun d => (key d, f d)) (key c) = some (f c) := by
  induction l with
  | nil => cases hc
  | cons d l ih =>
    simp only [List.map_cons, Tbl.get]
    split
    · rename_i same
      rw [inj same]
    · rename_i other
      exact ih ((List.mem_cons.1 hc).resolve_left fun e => other (by rw [e]))

theorem getD_allBays {α : Type} (f : Bay → α) (d : α) :
    Tbl.getD (allBays.map fun c => (c.val, f c)) b.val d = f b := by
  have get : Tbl.get (allBays.map fun c => (c.val, f c)) b.val = some (f b) :=
    get_map_key Fin.val Fin.val_injective f (List.mem_finRange b)
  rw [Tbl.getD, get, Option.getD_some]

theorem State.reset_bmail : State.reset.bmail b = {} := by
  have get : Tbl.get State.reset.bayMail b.val = some {} :=
    get_map_key id Function.injective_id (fun _ => ({} : BayMail)) (List.mem_range.2 b.isLt)
  rw [State.bmail, Tbl.getD, get, Option.getD_some]

theorem execPowerOn_lawsKept (present buttons : BitVec 24) (links : BitVec 4)
    (h : execPowerOn present buttons links s = .next t) : LawsKept s t := by
  cases h
  have unit (b : Bay) : (State.powerOn present buttons links s.pending).unit b =
      DriveUnit.powerOn (present.getLsbD b.val) := getD_allBays b _ _
  have controls (b : Bay) : (State.powerOn present buttons links s.pending).controls b =
      Service.powerOn (present.getLsbD b.val) (buttons.getLsbD b.val) := getD_allBays b _ _
  refine ⟨fun _ b => ?_, fun _ b => ?_, fun _ => ⟨rfl, rfl, rfl, fun b => ?_⟩⟩
  · rw [unit, DriveUnit.powerOn]
    split
    · exact DriveUnit.lawful_running rfl rfl (by simp [DriveUnit.issue]) rfl rfl
    · exact DriveUnit.lawful_resting rfl rfl rfl rfl (.inl rfl)
  · rw [unit, controls]
    exact ⟨rfl, rfl⟩
  · have mail : (State.powerOn present buttons links s.pending).bmail b = {} := State.reset_bmail b
    rw [mail]
    exact ⟨rfl, rfl⟩

end Sys2Proof.Machine
end

section
/-! SUPPORT. Every command and every step keeps the laws of the drive units and of the channels to the agent (O55). -/

namespace Sys2Proof.Machine

variable (s t : State) (b : Bay)

/-! ### The classifier, the node block and the lending protocol -/

theorem State.freeClassifier_lawsKept : LawsKept s s.freeClassifier := s.freeClassifier_unchanged.lawsKept (by simp)

theorem execClassifyFrame_lawsKept (h : execClassifyFrame s = .next t) : LawsKept s t := by
  cases h
  split
  · split
    · exact .refl s
    · rename_i p f rest _ _ _
      have k := ((s.setPort_unchanged p ((s.port p).takeOldest f rest s.now)).lawsKept (by simp)).trans
        ((State.setCls_unchanged _ { s.cls with lastServed := p }).lawsKept (by simp))
      dsimp only
      split
      · exact k.trans (State.manageFrame_lawsKept _ p f)
      · exact k.trans (State.nodeFrame_lawsKept _ p f)
  · exact .refl s

theorem execNodeQuiet_lawsKept (h : execNodeQuiet s = .next t) : LawsKept s t := by
  cases h
  split
  · exact .refl s
  · exact (s.setMail_lawsKept _ (by exact ⟨id, id, id⟩)).trans (State.quietNode_lawsKept _ _)

theorem execReturnLoan_lawsKept (h : execReturnLoan s = .next t) : LawsKept s t := by
  cases h
  split
  · exact .refl s
  · exact s.freeClassifier_lawsKept.trans (State.returnLoan_lawsKept _ _ _)

theorem execLoanClaim_lawsKept (h : execLoanClaim s = .next t) : LawsKept s t := by
  cases h
  split
  · exact .refl s
  · rename_i c _
    have mail : (s.judgeClaim c).2.mail = s.mail := s.judgeClaim_unchanged c .mail (by simp)
    exact ((s.judgeClaim_unchanged c).lawsKept (by simp)).trans
      (State.setMail_lawsKept _ _ ⟨mail ▸ id, mail ▸ id, mail ▸ id⟩)

theorem execLoanQuiet_lawsKept (h : execLoanQuiet s = .next t) : LawsKept s t := by
  cases h
  split
  · exact .refl s
  · rename_i rest _
    have k := s.setMail_lawsKept { s.mail with quietLoans := rest } ⟨id, id, id⟩
    dsimp only
    split
    · split
      · exact k.trans (State.freeLoan_lawsKept _ _)
      · exact k
    · exact k

theorem execTermExpiry_lawsKept (i : Nat) (h : execTermExpiry i s = .next t) : LawsKept s t := by
  cases h
  split
  · exact .refl s
  · split
    · exact s.expireTerm_lawsKept i _
    · exact .refl s

theorem execGraceExpiry_lawsKept (i : Nat) (h : execGraceExpiry i s = .next t) : LawsKept s t := by
  cases h
  split
  · exact .refl s
  · split
    · split
      · exact s.endAndFree_lawsKept i _
      · exact .refl s
    · exact .refl s
    · exact .refl s

theorem execLoanManagerReset_lawsKept (h : execLoanManagerReset s = .next t) : LawsKept s t := by
  cases h
  split
  · exact (s.setMail_lawsKept _ (by exact ⟨id, id, id⟩)).trans (State.resetLoans_lawsKept _)
  · exact .refl s

/-! ### Block requests -/

theorem execRead_lawsKept (h : execRead s = .next t) : LawsKept s t := by
  cases h
  split
  · exact .refl s
  · exact s.freeClassifier_lawsKept.trans (State.takeRequest_lawsKept _ _ _ _ _ _)

theorem execWrite_lawsKept (h : execWrite s = .next t) : LawsKept s t := by
  cases h
  split
  · exact .refl s
  · exact s.freeClassifier_lawsKept.trans (State.takeRequest_lawsKept _ _ _ _ _ _)

theorem execCheck_lawsKept (h : execCheck s = .next t) : LawsKept s t := by
  cases h
  split
  · exact .refl s
  · exact s.freeClassifier_lawsKept.trans (State.takeRequest_lawsKept _ _ _ _ _ _)

theorem execAbort_lawsKept (h : execAbort s = .next t) : LawsKept s t := by
  cases h
  split
  · exact .refl s
  · exact s.freeClassifier_lawsKept.trans (State.abortTag_lawsKept _ _ _ _)

theorem execClaimAnswer_lawsKept (h : execClaimAnswer s = .next t) : LawsKept s t := by
  cases h
  split
  · have k : LawsKept s { s with ru := { s.ru with admitting := none },
                                 mail := { s.mail with claimAnswer := none } } := ⟨id, id, id⟩
    dsimp only
    split
    · exact k.trans (State.admitRequest_lawsKept _ _)
    · exact k.trans (State.refuse_lawsKept _ _ _ _ _ _ _)
  · exact .refl s

theorem execPieceStartedReport_lawsKept (h : execPieceStartedReport b s = .next t) : LawsKept s t := by
  cases h
  split
  · exact (s.popUnitReport_lawsKept b _).trans (State.pieceStarted_lawsKept _ _)
  · exact .refl s

theorem execPieceStagedReport_lawsKept (h : execPieceStagedReport b s = .next t) : LawsKept s t := by
  cases h
  split
  · exact (s.popUnitReport_lawsKept b _).trans (State.pieceStaged_lawsKept _ _ _ _)
  · exact .refl s

theorem execPieceDoneReport_lawsKept (h : execPieceDoneReport b s = .next t) : LawsKept s t := by
  cases h
  split
  · exact (s.popUnitReport_lawsKept b _).trans (State.pieceDone_lawsKept _ _)
  · exact .refl s

theorem execPieceFailedReport_lawsKept (h : execPieceFailedReport b s = .next t) : LawsKept s t := by
  cases h
  split
  · exact (s.popUnitReport_lawsKept b _).trans (State.pieceFailed_lawsKept _ _ _ _)
  · exact .refl s

theorem execPieceWithdrawnReport_lawsKept (h : execPieceWithdrawnReport b s = .next t) : LawsKept s t := by
  cases h
  split
  · exact (s.popUnitReport_lawsKept b _).trans (State.pieceWithdrawn_lawsKept _ _ _)
  · exact .refl s

theorem execWithdrawalAnswer_lawsKept (h : execWithdrawalAnswer b s = .next t) : LawsKept s t := by
  cases h
  split
  · exact s.popUnitReport_lawsKept b _
  · exact .refl s

theorem State.deliverAfterReport_lawsKept (p : Port) (l : List PortToRu) :
    LawsKept s ((s.popPortReport p l).deliver p) :=
  ((s.setPmail_unchanged p _).lawsKept (by simp)).trans (State.deliver_lawsKept _ p)

theorem execEgressRoom_lawsKept (p : Port) (h : execEgressRoom p s = .next t) : LawsKept s t := by
  cases h
  split
  · exact s.deliverAfterReport_lawsKept p _
  · exact .refl s

theorem execPortLinkChange_lawsKept (p : Port) (h : execPortLinkChange p s = .next t) : LawsKept s t := by
  cases h
  split
  · exact s.deliverAfterReport_lawsKept p _
  · exact s.deliverAfterReport_lawsKept p _
  · exact .refl s

theorem execDeliveryTimerExpiry_lawsKept (n : Nat) (h : execDeliveryTimerExpiry n s = .next t) :
    LawsKept s t := by
  cases h
  split
  · exact .refl s
  · split
    · split
      · exact s.overrunRequest_lawsKept _ _
      · exact .refl s
    · exact .refl s

theorem execRequestUnitReset_lawsKept (h : execRequestUnitReset s = .next t) : LawsKept s t := by
  cases h
  split
  · exact (s.setMail_lawsKept _ (by exact ⟨id, id, id⟩)).trans (State.resetRequests_lawsKept _)
  · exact .refl s

/-! ### Reports to the loan manager, and forced releases -/

theorem execHealthReport_lawsKept (h : execHealthReport b s = .next t) : LawsKept s t := by
  cases h
  split
  · exact (s.popUnitToLm_lawsKept b _).trans (State.takeHealth_lawsKept _ b _ _ _)
  · exact .refl s

theorem execReleaseEndReport_lawsKept (h : execReleaseEndReport b s = .next t) : LawsKept s t := by
  cases h
  split
  · exact (s.popUnitToLm_lawsKept b _).trans (State.setLmBay_lawsKept _ b _)
  · exact (s.popUnitToLm_lawsKept b _).trans (State.takeHealth_lawsKept _ b _ _ _)
  · exact .refl s

theorem execExtentDone_lawsKept (h : execExtentDone b s = .next t) : LawsKept s t := by
  cases h
  split
  · exact (s.popUnitToLm_lawsKept b _).trans (State.extentEnds_lawsKept _ b _ _)
  · exact .refl s

theorem execExtentFailed_lawsKept (h : execExtentFailed b s = .next t) : LawsKept s t := by
  cases h
  split
  · exact (s.popUnitToLm_lawsKept b _).trans (State.extentEnds_lawsKept _ b _ _)
  · exact .refl s

theorem execServiceOverride_lawsKept (h : execServiceOverride b s = .next t) : LawsKept s t := by
  cases h
  split
  · exact .refl s
  · have k := s.setBmail_lawsKept b { s.bmail b with overrides := (s.bmail b).overrides - 1 } ⟨id, id⟩
    dsimp only
    split
    · exact k
    · exact k.trans (State.beginRelease_lawsKept _ b)

/-! ### The spin-up arbiter -/

theorem State.setArb_lawsKept (a : Arbiter) : LawsKept s (s.setArb a) := (s.setArb_unchanged a).lawsKept (by simp)

theorem execSpinUpWanted_lawsKept (h : execSpinUpWanted b s = .next t) : LawsKept s t := by
  cases h
  split
  · dsimp only
    split
    · exact s.popUnitToArb_lawsKept b _
    · exact ((s.popUnitToArb_lawsKept b _).trans (State.setArb_lawsKept _ _)).trans (State.arbGrant_lawsKept _)
  · exact .refl s

theorem execWaitWithdrawn_lawsKept (h : execWaitWithdrawn b s = .next t) : LawsKept s t := by
  cases h
  split
  · exact (s.popUnitToArb_lawsKept b _).trans (State.setArb_lawsKept _ _)
  · exact .refl s

theorem execGrantDeclined_lawsKept (h : execGrantDeclined b s = .next t) : LawsKept s t := by
  cases h
  split
  · exact ((s.popUnitToArb_lawsKept b _).trans (State.setArb_lawsKept _ _)).trans (State.arbGrant_lawsKept _)
  · exact .refl s

theorem execSpinUpEnded_lawsKept (h : execSpinUpEnded b s = .next t) : LawsKept s t := by
  cases h
  split
  · exact ((s.popUnitToArb_lawsKept b _).trans (State.setArb_lawsKept _ _)).trans (State.arbGrant_lawsKept _)
  · exact .refl s

theorem execBudgetChange_lawsKept (h : execBudgetChange s = .next t) : LawsKept s t := by
  cases h
  split
  · split
    · exact (s.setWait_lawsKept _).trans ((State.answer_unchanged _ _).lawsKept (by simp))
    · exact ((s.setBudget_lawsKept _).trans (State.setWait_lawsKept _ _)).trans (State.applyParams_lawsKept _ _ _)
  all_goals exact .refl s

/-! ### Management requests of the agent -/

theorem State.dropExpiries_lawsKept : LawsKept s s.dropExpiries := s.settleLm_lawsKept _

theorem execDetach_lawsKept (h : execDetach s = .next t) : LawsKept s t := by
  cases h
  exact s.manage_lawsKept _ _ fun h _ u => ((u.reply_lawsKept h .ok).trans
    ((State.setAgent_unchanged _ _).lawsKept (by simp))).trans (State.dropExpiries_lawsKept _)

theorem execSetParams_lawsKept (h : execSetParams s = .next t) : LawsKept s t := by
  cases h
  refine s.manage_lawsKept _ _ fun h bs u => ?_
  split
  · unfold State.setParams
    split
    · exact u.reply_lawsKept _ _
    · split
      · exact u.setWait_lawsKept _
      · exact u.applyParams_lawsKept _ _
  · exact .refl u

theorem State.zeroCounters_lawsKept (u : CounterUnit) : LawsKept s (s.zeroCounters u) := by
  cases u with
  | port p => exact (s.setPort_unchanged p _).lawsKept (by simp)
  | bay b =>
    exact s.modUnit_lawsKept b (fun u => { u with mediaErrors := 0, timeouts := 0, spinUps := 0 }) rfl id

theorem execCounterQuery_lawsKept (u : CounterUnit) (h : execCounterQuery u s = .next t) : LawsKept s t := by
  cases h
  split
  · split
    · split
      · exact (s.zeroCounters_lawsKept u).trans ((State.gotCounters_unchanged _ _ _ _ _).lawsKept (by simp))
      · exact (s.gotCounters_unchanged _ _ _ _).lawsKept (by simp)
    · exact .refl s
  all_goals exact .refl s

theorem State.takeNotice_lawsKept (n : Notice) : LawsKept s (s.takeNotice n) :=
  (s.takeNotice_unchanged n).lawsKept (by simp)

theorem execManagerNotice_lawsKept (src : NoticeSource) (h : execManagerNotice src s = .next t) :
    LawsKept s t := by
  cases h
  cases src with
  | loanManager =>
    dsimp only
    split
    · exact (s.takeNotice_lawsKept _).trans (State.settleLm_lawsKept _ _)
    · exact .refl s
  | nodeBlock =>
    dsimp only
    split
    · exact (s.takeNotice_lawsKept _).trans (State.settleNode_lawsKept _ _)
    · exact .refl s
  | driveUnit b =>
    dsimp only
    split
    · exact (s.takeNotice_lawsKept _).trans (State.settleUnit_lawsKept _ _ b)
    · exact .refl s
  | service b =>
    dsimp only
    split
    · exact (s.takeNotice_lawsKept _).trans (State.settleSvc_lawsKept _ _ b)
    · exact .refl s

theorem execResetPart_lawsKept (h : execResetPart s = .next t) : LawsKept s t := by
  cases h
  refine s.manage_lawsKept _ _ fun h bs u => ?_
  split
  · exact u.reply_lawsKept _ _
  · exact ⟨id, id, id⟩

theorem execResetShareFinished_lawsKept (x : ResetShare) (h : execResetShareFinished x s = .next t) :
    LawsKept s t := by
  cases h
  cases x with
  | loanManager =>
    dsimp only
    split
    · exact ((s.shareDone_unchanged _).lawsKept (by simp)).trans (State.settleLm_lawsKept _ _)
    · exact .refl s
  | requestUnit =>
    dsimp only
    split
    · exact ((s.shareDone_unchanged _).lawsKept (by simp)).trans (State.settleRu_lawsKept _ _)
    · exact .refl s

/-! ### Management requests of the loan manager and of the node block -/

theorem execDefineVolume_lawsKept (h : execDefineVolume s = .next t) : LawsKept s t := by
  cases h
  refine s.manage_lawsKept _ _ fun h bs u => ?_
  split
  · unfold State.define
    split
    · exact u.lmStatus_lawsKept _ _
    · exact ((u.setVolume_lawsKept _ _).trans ((State.noteDisks_unchanged _ _).lawsKept (by simp))).trans
        (State.lmStatus_lawsKept _ _ _)
  · exact .refl u

theorem execDeleteVolume_lawsKept (h : execDeleteVolume s = .next t) : LawsKept s t := by
  cases h
  refine s.manage_lawsKept _ _ fun h bs u => ?_
  unfold State.deleteVolume
  split
  · exact u.lmStatus_lawsKept _ _
  · split
    · exact u.lmStatus_lawsKept _ _
    · split
      · exact u.lmStatus_lawsKept _ _
      · exact ((u.eraseVolume_unchanged _).lawsKept (by simp)).trans (State.lmStatus_lawsKept _ _ _)

theorem execClearVolume_lawsKept (h : execClearVolume s = .next t) : LawsKept s t := by
  cases h
  refine s.manage_lawsKept _ _ fun h bs u => ?_
  unfold State.clearVolume
  split
  · exact u.lmStatus_lawsKept _ _
  · split
    · exact u.lmStatus_lawsKept _ _
    · split
      · exact u.lmStatus_lawsKept _ _
      · exact (u.toClearing_lawsKept _).trans (State.lmStatus_lawsKept _ _ _)

theorem execRecallLoan_lawsKept (h : execRecallLoan s = .next t) : LawsKept s t := by
  cases h
  refine s.manage_lawsKept _ _ fun h bs u => ?_
  unfold State.recallLoan
  split
  · exact u.lmStatus_lawsKept _ _
  · split
    · exact u.lmStatus_lawsKept _ _
    · exact u.lmStatus_lawsKept _ _
    · exact (((u.setLoan_unchanged _ _).lawsKept (by simp)).trans (State.placeForNode_lawsKept _ _ _)).trans
        (State.lmStatus_lawsKept _ _ _)

theorem execReleaseBay_lawsKept (h : execReleaseBay s = .next t) : LawsKept s t := by
  cases h
  refine s.manage_lawsKept _ _ fun h bs u => ?_
  unfold State.releaseBay
  split
  · exact u.lmStatus_lawsKept _ _
  · split
    · exact u.lmStatus_lawsKept _ _
    · split
      · exact u.lmStatus_lawsKept _ _
      · exact (u.beginRelease_lawsKept _).trans (State.lmStatus_lawsKept _ _ _)

theorem State.nodeWritten_lawsKept (n : Nat) (e : Node) (h : Header) (c : Code) :
    LawsKept s ((s.setNode n e).nodeStatus h c) :=
  ((s.setNode_unchanged n e).lawsKept (by simp)).trans (State.nodeStatus_lawsKept _ h c)

theorem execAdmitNode_lawsKept (h : execAdmitNode s = .next t) : LawsKept s t := by
  cases h
  refine s.manage_lawsKept _ _ fun h bs u => ?_
  unfold State.admitNode
  split
  · exact u.nodeStatus_lawsKept _ _
  · split
    · exact u.nodeStatus_lawsKept _ _
    · split
      · exact u.nodeStatus_lawsKept _ _
      · exact u.nodeWritten_lawsKept _ _ _ _

theorem execReadmitNode_lawsKept (h : execReadmitNode s = .next t) : LawsKept s t := by
  cases h
  refine s.manage_lawsKept _ _ fun h bs u => ?_
  unfold State.readmitNode
  split
  · exact u.nodeStatus_lawsKept _ _
  · split
    · exact u.nodeWritten_lawsKept _ _ _ _
    · exact u.nodeWritten_lawsKept _ _ _ _
    · exact u.nodeStatus_lawsKept _ _
    · exact u.nodeStatus_lawsKept _ _

theorem execDrainNode_lawsKept (h : execDrainNode s = .next t) : LawsKept s t := by
  cases h
  refine s.manage_lawsKept _ _ fun h bs u => ?_
  split
  · exact u.reply_lawsKept _ _
  · unfold State.drainNode
    split
    · exact u.nodeStatus_lawsKept _ _
    · split
      · exact u.nodeStatus_lawsKept _ _
      · exact u.nodeStatus_lawsKept _ _
      · exact (u.addEntry_unchanged _ _).lawsKept (by simp)
      · exact ((u.setNode_unchanged _ _).lawsKept (by simp)).trans (State.setWait_lawsKept _ _)

theorem execForgetNode_lawsKept (h : execForgetNode s = .next t) : LawsKept s t := by
  cases h
  refine s.manage_lawsKept _ _ fun h bs u => ?_
  unfold State.forgetNode
  split
  · exact u.nodeStatus_lawsKept _ _
  · split
    · exact u.nodeStatus_lawsKept _ _
    · exact u.nodeStatus_lawsKept _ _
    · exact u.setWait_lawsKept _
    · exact u.setWait_lawsKept _

theorem State.drainProceeds_lawsKept (tag : BitVec 8) (a : Addr) (n : Nat) :
    LawsKept s (s.drainProceeds tag a n) := by
  have goes (e : Node) (h : Header) : LawsKept s
      (if e.outstanding = 0 then (s.setNode n { e with state := .drained }).nodeStatus h .ok
       else (s.setWait .free).addEntry tag (.drain a)) := by
    split
    · exact s.nodeWritten_lawsKept _ _ _ _
    · exact (s.setWait_lawsKept _).trans ((State.addEntry_unchanged _ _ _).lawsKept (by simp))
  unfold State.drainProceeds
  dsimp only
  split
  · exact s.nodeStatus_lawsKept _ _
  · split
    · exact goes _ _
    · exact goes _ _
    · exact s.nodeStatus_lawsKept _ _
    · exact s.nodeStatus_lawsKept _ _

theorem State.forgetProceeds_lawsKept (tag : BitVec 8) (a : Addr) (n : Nat) :
    LawsKept s (s.forgetProceeds tag a n) := by
  unfold State.forgetProceeds
  dsimp only
  split
  · exact s.nodeStatus_lawsKept _ _
  · split
    · exact ((s.forgetLoanStep_lawsKept _).trans ((State.eraseNode_unchanged _ _).lawsKept (by simp))).trans
        (State.nodeStatus_lawsKept _ _ _)
    · exact s.nodeStatus_lawsKept _ _

theorem execOutstandingCountAnswer_lawsKept (h : execOutstandingCountAnswer s = .next t) : LawsKept s t := by
  cases h
  split
  · split
    · exact s.drainProceeds_lawsKept _ _ _
    · exact .refl s
  · split
    · exact s.forgetProceeds_lawsKept _ _ _
    · exact .refl s
  all_goals exact .refl s

theorem execReadNode_lawsKept (h : execReadNode s = .next t) : LawsKept s t := by
  cases h
  refine s.manage_lawsKept _ _ fun h bs u => ?_
  unfold State.readNode
  split
  · exact u.nodeStatus_lawsKept _ _
  · exact (u.setWait_lawsKept _).trans (State.nodeTellAgent_lawsKept _ _)

/-! ### Management requests of a bay -/

theorem execWakeDisk_lawsKept (h : execWakeDisk s = .next t) : LawsKept s t := by
  cases h
  refine s.manageBay_lawsKept _ _ fun h b u => ?_
  unfold State.wakeDisk
  split
  · rename_i standby
    exact (u.wake_lawsKept b standby).trans (State.unitStatus_lawsKept _ b _)
  · exact u.unitStatus_lawsKept b _

theorem execSleepDisk_lawsKept (h : execSleepDisk s = .next t) : LawsKept s t := by
  cases h
  refine s.manageBay_lawsKept _ _ fun h b u => ?_
  unfold State.sleepDisk
  split
  · exact (u.spinDown_lawsKept b).trans (State.unitStatus_lawsKept _ b _)
  · split <;> exact u.unitStatus_lawsKept b _

theorem execAcceptDisk_lawsKept (h : execAcceptDisk s = .next t) : LawsKept s t := by
  cases h
  refine s.manageBay_lawsKept _ _ fun h b u => ?_
  unfold State.acceptDisk
  split
  · rename_i fault
    have identifying : LawsKept u (u.enterIdentifying b) :=
      (u.bayIs bayParts b).enterIdentifying_lawsKept fun law => law.idle_none (by simp [fault])
    exact (identifying.trans (State.tellLm_lawsKept _ b _)).trans (State.unitStatus_lawsKept _ b _)
  · exact u.unitStatus_lawsKept b _

theorem execReadDisk_lawsKept (h : execReadDisk s = .next t) : LawsKept s t := by
  cases h
  exact s.manageBay_lawsKept _ _ fun h b u => u.unitStatus_lawsKept b _

theorem execAckService_lawsKept (h : execAckService s = .next t) : LawsKept s t := by
  cases h
  exact s.manageBay_lawsKept _ _ fun h b u =>
    (u.setOutputs_lawsKept b _).trans (State.svcStatus_lawsKept _ b _)

/-! ### Every command, and a step -/

/-- Every command keeps the laws: one that writes none of the parts they read by its frame, and any other by what its
operations do to a bay and to the channels. -/
theorem exec_lawsKept (i : Instr) (h : exec i s = .next t) : LawsKept s t := by
  cases i with
  | powerOn present buttons links => exact execPowerOn_lawsKept s t present buttons links h
  | linkDown p => exact (execLinkDown_frame s t p h).lawsKept (by simp)
  | linkUp p => exact (execLinkUp_frame s t p h).lawsKept (by simp)
  | ingressFrame p f => exact (execIngressFrame_frame s t p f h).lawsKept (by simp)
  | pauseRepeatExpiry p => exact (execPauseRepeatExpiry_frame s t p h).lawsKept (by simp)
  | receivedPause p time good => exact (execReceivedPause_frame s t p time good h).lawsKept (by simp)
  | receivedPauseEnd p => exact (execReceivedPauseEnd_frame s t p h).lawsKept (by simp)
  | transmissionEnd p => exact (execTransmissionEnd_frame s t p h).lawsKept (by simp)
  | thresholdsTaken p => exact (execThresholdsTaken_frame s t p h).lawsKept (by simp)
  | classifyFrame => exact execClassifyFrame_lawsKept s t h
  | borrow => exact (execBorrow_frame s t h).lawsKept (by simp)
  | renew => exact (execRenew_frame s t h).lawsKept (by simp)
  | returnLoan => exact execReturnLoan_lawsKept s t h
  | read => exact execRead_lawsKept s t h
  | write => exact execWrite_lawsKept s t h
  | check => exact execCheck_lawsKept s t h
  | abort => exact execAbort_lawsKept s t h
  | loanClaim => exact execLoanClaim_lawsKept s t h
  | claimAnswer => exact execClaimAnswer_lawsKept s t h
  | pieceAppend b => exact execPieceAppend_lawsKept s t b h
  | pieceWithdrawal b => exact execPieceWithdrawal_lawsKept s t b h
  | pieceStartedReport b => exact execPieceStartedReport_lawsKept s t b h
  | pieceStagedReport b => exact execPieceStagedReport_lawsKept s t b h
  | pieceDoneReport b => exact execPieceDoneReport_lawsKept s t b h
  | pieceFailedReport b => exact execPieceFailedReport_lawsKept s t b h
  | pieceWithdrawnReport b => exact execPieceWithdrawnReport_lawsKept s t b h
  | withdrawalAnswer b => exact execWithdrawalAnswer_lawsKept s t b h
  | egressRoom p => exact execEgressRoom_lawsKept s t p h
  | deliveryTimerExpiry piece => exact execDeliveryTimerExpiry_lawsKept s t piece h
  | loanQuiet => exact execLoanQuiet_lawsKept s t h
  | waitTimerExpiry record => exact (execWaitTimerExpiry_frame s t record h).lawsKept (by simp)
  | termExpiry entry => exact execTermExpiry_lawsKept s t entry h
  | graceExpiry entry => exact execGraceExpiry_lawsKept s t entry h
  | healthReport b => exact execHealthReport_lawsKept s t b h
  | extentDone b => exact execExtentDone_lawsKept s t b h
  | extentFailed b => exact execExtentFailed_lawsKept s t b h
  | pendingClearReport b => exact execPendingClearReport_lawsKept s t b h
  | clearExtent b => exact execClearExtent_lawsKept s t b h
  | gatherTimerExpiry b => exact execGatherTimerExpiry_lawsKept s t b h
  | stagingEmptied b => exact execStagingEmptied_lawsKept s t b h
  | identifyCompletion b number o => exact execIdentifyCompletion_lawsKept s t b number o h
  | fetchCompletion b number o => exact execFetchCompletion_lawsKept s t b number o h
  | storeCompletion b number o => exact execStoreCompletion_lawsKept s t b number o h
  | probeCompletion b number o => exact execProbeCompletion_lawsKept s t b number o h
  | zeroCompletion b number o => exact execZeroCompletion_lawsKept s t b number o h
  | spinUpCompletion b number o => exact execSpinUpCompletion_lawsKept s t b number o h
  | spinDownCompletion b number o => exact execSpinDownCompletion_lawsKept s t b number o h
  | commandTimerExpiry b => exact execCommandTimerExpiry_lawsKept s t b h
  | spinUpLimitExpiry b => exact execSpinUpLimitExpiry_lawsKept s t b h
  | linkLost b => exact execLinkLost_lawsKept s t b h
  | idleTimerExpiry b => exact execIdleTimerExpiry_lawsKept s t b h
  | spinUpGrant b => exact execSpinUpGrant_lawsKept s t b h
  | spinUpWanted b => exact execSpinUpWanted_lawsKept s t b h
  | waitWithdrawn b => exact execWaitWithdrawn_lawsKept s t b h
  | grantDeclined b => exact execGrantDeclined_lawsKept s t b h
  | spinUpEnded b => exact execSpinUpEnded_lawsKept s t b h
  | budgetChange => exact execBudgetChange_lawsKept s t h
  | pauseAllowanceChange b => exact execPauseAllowanceChange_lawsKept s t b h
  | keepSpinningChange b => exact execKeepSpinningChange_lawsKept s t b h
  | buttonPress b => exact execButtonPress_lawsKept s t b h
  | buttonRelease b => exact execButtonRelease_lawsKept s t b h
  | holdTimerExpiry b => exact execHoldTimerExpiry_lawsKept s t b h
  | serviceOverride b => exact execServiceOverride_lawsKept s t b h
  | releaseTaken b => exact execReleaseTaken_lawsKept s t b h
  | releaseEndReport b => exact execReleaseEndReport_lawsKept s t b h
  | presenceLost b => exact execPresenceLost_lawsKept s t b h
  | presenceGained b => exact execPresenceGained_lawsKept s t b h
  | nodeQuiet => exact execNodeQuiet_lawsKept s t h
  | outstandingCountAnswer => exact execOutstandingCountAnswer_lawsKept s t h
  | managerNotice from_ => exact execManagerNotice_lawsKept s t from_ h
  | resetShareFinished share => exact execResetShareFinished_lawsKept s t share h
  | badRequest => exact (execBadRequest_frame s t h).lawsKept (by simp)
  | attach => exact (execAttach_frame s t h).lawsKept (by simp)
  | detach => exact execDetach_lawsKept s t h
  | identify => exact (execIdentify_frame s t h).lawsKept (by simp)
  | setParams => exact execSetParams_lawsKept s t h
  | readParams => exact (execReadParams_frame s t h).lawsKept (by simp)
  | readCounters => exact (execReadCounters_frame s t h).lawsKept (by simp)
  | counterQuery u => exact execCounterQuery_lawsKept s t u h
  | resetPart => exact execResetPart_lawsKept s t h
  | loanManagerReset => exact execLoanManagerReset_lawsKept s t h
  | requestUnitReset => exact execRequestUnitReset_lawsKept s t h
  | defineVolume => exact execDefineVolume_lawsKept s t h
  | deleteVolume => exact execDeleteVolume_lawsKept s t h
  | clearVolume => exact execClearVolume_lawsKept s t h
  | readVolume => exact (execReadVolume_frame s t h).lawsKept (by simp)
  | recallLoan => exact execRecallLoan_lawsKept s t h
  | readLoan => exact (execReadLoan_frame s t h).lawsKept (by simp)
  | releaseBay => exact execReleaseBay_lawsKept s t h
  | admitNode => exact execAdmitNode_lawsKept s t h
  | readmitNode => exact execReadmitNode_lawsKept s t h
  | drainNode => exact execDrainNode_lawsKept s t h
  | forgetNode => exact execForgetNode_lawsKept s t h
  | readNode => exact execReadNode_lawsKept s t h
  | wakeDisk => exact execWakeDisk_lawsKept s t h
  | sleepDisk => exact execSleepDisk_lawsKept s t h
  | acceptDisk => exact execAcceptDisk_lawsKept s t h
  | readDisk => exact execReadDisk_lawsKept s t h
  | ackService => exact execAckService_lawsKept s t h
  | portLinkChange p => exact execPortLinkChange_lawsKept s t p h
  | timerLimitChange x => exact execTimerLimitChange_lawsKept s t x h

theorem step_lawsKept (h : step s = .next t) : LawsKept s t := by
  unfold step at h
  split at h
  · cases h
    exact ⟨id, id, id⟩
  · rename_i c rest _
    have pop : LawsKept s { s with pending := rest } := ⟨id, id, id⟩
    exact pop.trans (exec_lawsKept _ t c h)

/-- Settles O55: a drive unit enters a state with the command it carries and shows it by lock and lamp, and every
channel to the agent is settled where it is written. -/
theorem driveLawsKept : Obligations.DriveLawsKept := by
  intro s t h
  obtain ⟨command, output, channel⟩ := step_lawsKept s t h
  exact ⟨command, output, channel⟩

end Sys2Proof.Machine
end

section
/-! SUPPORT. The requests of a bay: WAKE_DISK, SLEEP_DISK, ACCEPT_DISK, READ_DISK and ACK_SERVICE (R104 to R106, R114,
R133 to R135), up to O54. -/

namespace Sys2Proof.Machine

variable {s a : State} {p : Port} {f : InFrame} {h : Header} {b : Bay}

/-! ### An accepted request of a bay -/

@[simp] theorem State.accepted_controls (s : State) (p : Port) (b : Bay) :
    (s.accepted p).controls b = s.controls b := by
  have same : (s.accepted p).svc = s.svc := s.accepted_parts p .svc (by simp)
  rw [State.controls, same, State.controls]

/-- The commands that take a request of a bay. -/
theorem exec_eq_onBay {i : Instr} {code : Byte} (hi : requestCode i = some code)
    (hc : code ∈ [(0x28 : Byte), 0x29, 0x2A, 0x2B, 0x2D]) :
    ∃ act : Header → Bay → State → State,
      ∀ s, exec i s = .next (s.manage code fun h _ t => t.onBay h (act h)) := by
  unfold requestCode at hi
  split at hi
  all_goals cases hi
  case h_19 => exact ⟨_, fun _ => rfl⟩
  case h_20 => exact ⟨_, fun _ => rfl⟩
  case h_21 => exact ⟨_, fun _ => rfl⟩
  case h_22 => exact ⟨_, fun _ => rfl⟩
  case h_24 => exact ⟨_, fun _ => rfl⟩
  all_goals simp at hc

/-- A request of a bay that exists is carried out on that bay. -/
theorem State.manage_onBay {code : Byte} (ask : s.Asks code p f h) (hb : h.valueA.toNat = b.val)
    (act : Header → Bay → State → State) :
    s.manage code (fun h _ t => t.onBay h (act h)) = act h b (s.accepted p) := by
  rw [s.manage_of_asks _ ask, State.onBay, bayOf_some hb]

/-! ### The bytes of READ_DISK (R182) -/

theorem State.waitPosition_eq (s : State) (b : Bay) :
    s.waitPosition b = if b ∈ s.arb.waitOrder then s.arb.waitOrder.idxOf b + 1 else 0 := by
  simp only [State.waitPosition, List.contains_iff_mem]

theorem Engine.gatherLeft_eq (e : Engine) (now : Nat) : Engine.gatherLeft e now =
    (match e.state with | .gathering d => (d - now) / tens 1 | _ => 0) := by
  cases hs : e.state <;> simp only [Engine.gatherLeft, hs]

theorem Engine.shownPosition_eq (e : Engine) :
    Engine.shownPosition e = if e.state = .sweeping then e.position.getD 0 else 0 := by
  cases hs : e.state <;> simp [Engine.shownPosition, hs]

theorem extentBytes_eq : Extent.bytes = fun x => be 1 x.vol ++ be 1 x.seg ++ [if x.current then 0 else 1, 0] ++
    be 4 x.start ++ be 4 x.length ++ be 4 x.progress := rfl

theorem Extent.bytes_length (x : Extent) : (Extent.bytes x).length = 16 := by
  simp only [Extent.bytes, List.length_append, be_length, List.length_cons, List.length_nil]

theorem engineBytes_length (e : Engine) (now k : Nat) :
    (engineBytes e now k).length = 10 + 16 * e.list.length := by
  have extents : (e.list.flatMap Extent.bytes).length = 16 * e.list.length := by
    rw [List.length_flatMap, List.map_congr_left fun x _ => Extent.bytes_length x, List.map_const',
      List.sum_replicate, smul_eq_mul, Nat.mul_comm]
  simp only [engineBytes, List.length_append, be_length, List.length_cons, List.length_nil, extents]

theorem identityBytes_length (d : Option Serial) : (identityBytes d).length = 20 := by
  cases d <;> exact be_length _ _

theorem State.diskBytes_length (s : State) (b : Bay) :
    (s.diskBytes b).length = 60 + 16 * (s.unit b).engine.list.length := by
  simp only [State.diskBytes, DriveUnit.counterBytes, List.length_append, be_length, List.length_cons,
    List.length_nil, identityBytes_length, engineBytes_length]
  omega

/-- A unit without a disk gives 24 bytes of 0 for its identity and capacity. -/
theorem noDiskBytes (rest : List Byte) :
    identityBytes none ++ (be 4 0 ++ rest) = List.replicate 24 0 ++ rest := by
  rw [identityBytes, be_zero, be_zero, ← List.append_assoc, List.replicate_append_replicate]

theorem State.accepted_diskBytes (s : State) (p : Port) (b : Bay) :
    (s.accepted p).diskBytes b = s.diskBytes b := by
  simp only [State.diskBytes, State.waitPosition, State.accepted_unit, State.accepted_arb, State.accepted_now,
    State.accepted_lmBay]

/-! ### O54 -/

theorem DriveUnit.maySleep_iff (u : DriveUnit) : DriveUnit.maySleep u = true ↔ u.state = .ready ∧ u.queue = [] ∧
    u.hand = none ∧ u.staging = none ∧ u.engine.list = [] := by
  simp only [DriveUnit.maySleep, Bool.and_eq_true, beq_iff_eq, List.isEmpty_iff, Option.isNone_iff_eq_none, and_assoc]

theorem State.wake_becomes (s : State) (b : Bay) : s.BayBecomes (s.wake b) b (s.unit b) .wakeWait
    { s.bmail b with unitToArb := (s.bmail b).unitToArb ++ [.wanted] } :=
  (((s.bayIs bayParts b).enter .wakeWait).tellArb .wanted).becomes rfl rfl

/-- A faulted disk is identified again, and the change reported (R105). -/
theorem State.identifyAgain_becomes (s : State) (b : Bay) :
    s.BayBecomes ((s.enterIdentifying b).tellLm b (.health .identifying none false)) b
      { DriveUnit.issuing (s.unit b) .identify s.now with disk := none, pauseCounter := 0 } .identifying
      { s.bmail b with unitToLm := (s.bmail b).unitToLm ++ [.health .identifying none false] } := by
  have k := ((((s.bayIs bayParts b).modUnit fun u => { u with disk := none, pauseCounter := 0 }).issue
    .identify).enter .identifying).tellLm (.health .identifying none false)
  rw [DriveUnit.issue_eq_issuing _ (by simp)] at k
  exact k.becomes rfl rfl

/-- Settles O54: a request of a bay is carried out on the bay as it stands when the request is accepted. -/
theorem diskRequests : Obligations.DiskRequests := by
  rintro s p f h a rfl
  refine ⟨fun i code hi hc ask high => ?_, ?_⟩
  · obtain ⟨act, next⟩ := exec_eq_onBay hi hc
    rw [next, s.manage_of_asks _ ask, State.onBay, bayOf_none high, State.reply]
  · rintro b _ hb rfl same becomes
    refine ⟨fun ask => ?_, fun ask => ?_, fun ask => ?_, fun ask => ?_, fun ask => ?_⟩
    · have next : exec .wakeDisk s = .next ((s.accepted p).wakeDisk h b) :=
        congrArg _ (State.manage_onBay ask hb _)
      rw [State.wakeDisk, State.accepted_unit] at next
      refine ⟨fun standby => ?_, fun other => ?_⟩
      · rw [if_pos standby] at next
        have k := (s.accepted p).wake_becomes b
        simp only [State.accepted_unit, State.accepted_bmail] at k
        exact ⟨_, next, k⟩
      · rw [if_neg other] at next
        exact next
    · have next : exec .sleepDisk s = .next ((s.accepted p).sleepDisk h b) :=
        congrArg _ (State.manage_onBay ask hb _)
      rw [State.sleepDisk, State.accepted_unit] at next
      refine ⟨fun ready queue hand staging list => ?_, fun standby => ?_, fun notStandby busy => ?_⟩
      · rw [if_pos ((DriveUnit.maySleep_iff _).2 ⟨ready, queue, hand, staging, list⟩)] at next
        have k := (s.accepted p).spinDown_becomes b
        simp only [State.accepted_unit, State.accepted_bmail, State.accepted_now] at k
        exact ⟨_, next, k⟩
      · have awake : ¬ DriveUnit.maySleep (s.unit b) = true := fun k => by
          obtain ⟨ready, -⟩ := (DriveUnit.maySleep_iff _).1 k
          simp [standby] at ready
        rw [if_neg awake, if_pos standby] at next
        exact next
      · have stays : ¬ DriveUnit.maySleep (s.unit b) = true := fun k => by
          obtain ⟨ready, queue, hand, staging, list⟩ := (DriveUnit.maySleep_iff _).1 k
          simp [ready, queue, hand, staging, list] at busy
        rw [if_neg stays, if_neg notStandby] at next
        exact next
    · have next : exec .acceptDisk s = .next ((s.accepted p).acceptDisk h b) :=
        congrArg _ (State.manage_onBay ask hb _)
      rw [State.acceptDisk, State.accepted_unit] at next
      refine ⟨fun fault => ?_, fun other => ?_⟩
      · rw [if_pos fault] at next
        have k := (s.accepted p).identifyAgain_becomes b
        simp only [State.accepted_unit, State.accepted_bmail, State.accepted_now] at k
        exact ⟨_, next, k⟩
      · rw [if_neg other] at next
        exact next
    · have next : exec .readDisk s = .next ((s.accepted p).unitStatus b (h.data ((s.accepted p).diskBytes b))) :=
        congrArg _ (State.manage_onBay ask hb _)
      rw [State.accepted_diskBytes] at next
      refine ⟨next, s.diskBytes_length b, ?_⟩
      simp only [State.diskBytes, State.waitPosition_eq, DriveUnit.counterBytes, engineBytes, Engine.gatherLeft_eq,
        Engine.shownPosition_eq, secondsLeft, extentBytes_eq, List.append_assoc]
      cases hd : (s.unit b).disk with
      | none => simp only [Option.map_none, noDiskBytes] <;> rfl
      | some d => simp only [Option.map_some, identityBytes, List.append_assoc] <;> rfl
    · have next : exec .ackService s = .next ((s.accepted p).ackService h b) :=
        congrArg _ (State.manage_onBay ask hb _)
      have k := ((s.accepted p).bayIs [.svc] b).setControls_of_mem (by simp)
        ({ s.controls b with pressedFlag := false }.outputs (s.unit b).state)
      refine ⟨_, ?_, k.only, k.controls⟩
      rw [next, State.ackService, State.accepted_unit, State.accepted_controls]

end Sys2Proof.Machine
end

section
/-! SUPPORT. The parameter set and the counters (R113, R173, R174, R176): what a SET_PARAMS sends, what a budget
grants, and what a unit gives, up to O50. -/

namespace Sys2Proof.Machine

variable (s : State)

/-! ### Ranges (R173) -/

theorem thresholdGood_iff (k : Nat) : thresholdGood k = true ↔ 16 ≤ k ∧ k ≤ 120 ∧ k % 8 = 0 := by
  simp only [thresholdGood, Bool.and_eq_true, decide_eq_true_eq, beq_iff_eq, and_assoc]

theorem ParamBlock.inRange_iff (q : ParamBlock) : q.inRange = true ↔
    (q.carries 0 = true → 1 ≤ q.budget ∧ q.budget ≤ 8) ∧
    (q.carries 1 = true → 10 ≤ q.spinUpLimit ∧ q.spinUpLimit ≤ 120) ∧
    (q.carries 2 = true → 1 ≤ q.pieceLimit ∧ q.pieceLimit ≤ 60) ∧
    (q.carries 3 = true → 10 ≤ q.deliveryLimit ∧ q.deliveryLimit ≤ 6000) ∧
    (q.carries 4 = true → 1 ≤ q.allowance ∧ q.allowance ≤ 64) ∧
    (q.carries 5 = true → q.gatherWindow ≤ 255) ∧
    (q.carries 6 = true → q.idleFactor ≤ 15 ∧ q.idleUnit ≤ 1) ∧
    (q.carries 7 = true → 16 ≤ q.on ∧ q.on ≤ 120 ∧ q.on % 8 = 0) ∧
    (q.carries 8 = true → 16 ≤ q.off ∧ q.off ≤ 120 ∧ q.off % 8 = 0) := by
  have carried (c x : Bool) : (!c || x) = true ↔ (c = true → x = true) := by cases c <;> simp
  simp only [ParamBlock.inRange, Bool.and_eq_true, carried, thresholdGood_iff, decide_eq_true_eq, and_assoc]

theorem Params.accepts_iff (q : Params) (p : ParamBlock) :
    q.accepts p = true ↔ p.inRange = true ∧ (q.write p).off < (q.write p).on := by
  simp only [Params.accepts, Bool.and_eq_true, decide_eq_true_eq]

/-! ### Channels of a frame -/

theorem State.bmail_congr {s t : State} (same : t.bayMail = s.bayMail) (b : Bay) : t.bmail b = s.bmail b := by
  rw [State.bmail, same, State.bmail]

theorem State.pmail_congr {s t : State} (same : t.portMail = s.portMail) (p : Port) : t.pmail p = s.pmail p := by
  rw [State.pmail, same, State.pmail]

/-! ### What a SET_PARAMS sends (R162, R174) -/

/-- Every bay is sent its limits, allowance and keep-spinning setting. -/
def State.baysSent (s : State) (p : ParamBlock) : State :=
  allBays.foldl (fun (t : State) b => t.setBmail b ((t.bmail b).sendParams p b)) s

/-- The request unit is sent the delivery limit, if it is carried. -/
def State.limitSent (s : State) (p : ParamBlock) : State :=
  if p.carries 3 then { s with mail := { s.mail with limits := s.mail.limits ++ [p.deliveryLimit] } } else s

/-- Every port is sent the pair of thresholds that stands, if one of them is carried. -/
def State.thresholdsSent (s : State) (p : ParamBlock) : State :=
  if p.carries 7 || p.carries 8 then
    allPorts.foldl (fun (t : State) q => t.setPmail q { t.pmail q with
      thresholds := (t.pmail q).thresholds ++ [(t.agent.params.on, t.agent.params.off)] }) s
  else s

theorem State.sendParams_eq (p : ParamBlock) :
    s.sendParams p = ((s.baysSent p).limitSent p).thresholdsSent p := rfl

theorem foldl_setBmail_bmail (f : Bay → BayMail → BayMail) {l : List Bay} (nodup : l.Nodup) (b : Bay) :
    (l.foldl (fun (t : State) c => t.setBmail c (f c (t.bmail c))) s).bmail b =
      if b ∈ l then f b (s.bmail b) else s.bmail b := by
  induction l generalizing s with
  | nil => rfl
  | cons c l ih =>
    obtain ⟨fresh, nodup⟩ := List.nodup_cons.1 nodup
    rw [List.foldl_cons, ih _ nodup]
    by_cases hb : b = c
    · subst hb
      simp [fresh]
    · simp [hb, State.setBmail_bmail_ne]

theorem State.baysSent_parts (p : ParamBlock) : UnchangedBut [.bayMail] s (s.baysSent p) :=
  .foldl _ (fun t b => t.setBmail_unchanged b _) _ _

theorem State.baysSent_bmail (p : ParamBlock) (b : Bay) :
    (s.baysSent p).bmail b = (s.bmail b).sendParams p b :=
  (foldl_setBmail_bmail s (fun b m => m.sendParams p b) (List.nodup_finRange 24) b).trans
    (if_pos (List.mem_finRange b))

theorem State.limitSent_parts (p : ParamBlock) : UnchangedBut [.mail] s (s.limitSent p) := by
  unfold State.limitSent
  split
  · exact s.setMail_unchanged _
  · exact .refl _ s

theorem State.limitSent_mail (p : ParamBlock) : (s.limitSent p).mail =
    { s.mail with limits := s.mail.limits ++ (if p.carries 3 then [p.deliveryLimit] else []) } := by
  unfold State.limitSent
  split
  · rfl
  · rw [List.append_nil]

theorem foldl_thresholds_pmail {l : List Port} (nodup : l.Nodup) (q : Port) :
    (l.foldl (fun (t : State) c => t.setPmail c { t.pmail c with
      thresholds := (t.pmail c).thresholds ++ [(t.agent.params.on, t.agent.params.off)] }) s).pmail q =
      if q ∈ l then { s.pmail q with
        thresholds := (s.pmail q).thresholds ++ [(s.agent.params.on, s.agent.params.off)] }
      else s.pmail q := by
  induction l generalizing s with
  | nil => rfl
  | cons c l ih =>
    obtain ⟨fresh, nodup⟩ := List.nodup_cons.1 nodup
    rw [List.foldl_cons, ih _ nodup]
    by_cases hq : q = c
    · subst hq
      simp [fresh]
    · simp [hq, State.setPmail_pmail_ne]

theorem State.thresholdsSent_parts (p : ParamBlock) : UnchangedBut [.portMail] s (s.thresholdsSent p) := by
  unfold State.thresholdsSent
  split
  · exact .foldl _ (fun t q => t.setPmail_unchanged q _) _ _
  · exact .refl _ s

theorem State.thresholdsSent_pmail (p : ParamBlock) (q : Port) : (s.thresholdsSent p).pmail q =
    { s.pmail q with thresholds := (s.pmail q).thresholds ++
      (if p.carries 7 || p.carries 8 then [(s.agent.params.on, s.agent.params.off)] else []) } := by
  unfold State.thresholdsSent
  split
  · exact (foldl_thresholds_pmail s (List.nodup_finRange 4) q).trans (if_pos (List.mem_finRange q))
  · rw [List.append_nil]

/-- The parameter set written, and every carried value sent. -/
def State.paramsWritten (s : State) (p : ParamBlock) : State :=
  { s with agent := { s.agent with params := s.agent.params.write p } }.sendParams p

theorem State.applyParams_eq (tag : BitVec 8) (p : ParamBlock) :
    s.applyParams tag p = (s.paramsWritten p).answer (paramsAnswer tag .ok) := rfl

theorem State.paramsWritten_parts (p : ParamBlock) :
    UnchangedBut [.agent, .bayMail, .mail, .portMail] s (s.paramsWritten p) :=
  ((s.setAgent_unchanged _).mono (by simp)).trans ((State.sendParams_unchanged _ p).mono (by simp))

theorem State.paramsWritten_agent (p : ParamBlock) :
    (s.paramsWritten p).agent = { s.agent with params := s.agent.params.write p } :=
  State.sendParams_unchanged _ p .agent (by simp)

/-- What is sent stands behind what was on its way, from a state that differs in grants and in registers of the agent
other than its parameter set. -/
theorem State.paramsWritten_sent {s t : State} (q : ParamBlock) {grants : Bay → Nat}
    (params : t.agent.params = s.agent.params)
    (bays : ∀ b, t.bmail b = { s.bmail b with grants := (s.bmail b).grants + grants b })
    (mail : t.mail = s.mail) (ports : t.portMail = s.portMail) : s.ParamsSent (t.paramsWritten q) q grants := by
  let v : State := { t with agent := { t.agent with params := t.agent.params.write q } }
  have limit := (v.baysSent q).limitSent_parts q
  have thresholds := ((v.baysSent q).limitSent q).thresholdsSent_parts q
  rw [show t.paramsWritten q = ((v.baysSent q).limitSent q).thresholdsSent q from v.sendParams_eq q]
  refine ⟨fun b => ?_, ?_, fun p => ?_⟩
  · have sent : (((v.baysSent q).limitSent q).thresholdsSent q).bmail b = (v.baysSent q).bmail b :=
      State.bmail_congr ((thresholds .bayMail (by simp)).trans (limit .bayMail (by simp))) b
    have before : v.bmail b = { s.bmail b with grants := (s.bmail b).grants + grants b } := bays b
    rw [sent, v.baysSent_bmail, before]
    rfl
  · have sent : (((v.baysSent q).limitSent q).thresholdsSent q).mail = ((v.baysSent q).limitSent q).mail :=
      thresholds .mail (by simp)
    have before : (v.baysSent q).mail = s.mail := (v.baysSent_parts q .mail (by simp)).trans mail
    rw [sent, State.limitSent_mail, before]
  · have earlier := ((v.baysSent_parts q).mono (by simp)).trans (limit.mono (by simp)) (l := [.bayMail, .mail])
    have agent : ((v.baysSent q).limitSent q).agent = v.agent := earlier .agent (by simp)
    have before : ((v.baysSent q).limitSent q).pmail p = s.pmail p :=
      State.pmail_congr ((earlier .portMail (by simp)).trans ports) p
    have sent := ((v.baysSent q).limitSent q).thresholdsSent_pmail q p
    rw [before, agent] at sent
    rw [← params]
    exact sent

/-! ### The spin-up budget (R110, R113) -/

theorem foldl_sendGrant_bmail (l : List Bay) (b : Bay) : (l.foldl State.sendGrant s).bmail b =
    { s.bmail b with grants := (s.bmail b).grants + l.count b } := by
  induction l generalizing s with
  | nil => rfl
  | cons c l ih =>
    rw [List.foldl_cons, ih]
    by_cases hb : b = c
    · subst hb
      simp [State.sendGrant, Nat.add_assoc, Nat.add_comm 1]
    · simp [State.sendGrant, State.setBmail_bmail_ne _ _ _ _ hb, List.count_cons_of_ne (Ne.symm hb)]

/-- The places a new budget fills: those it leaves free, if it is higher (R113). -/
def Arbiter.raised (a : Arbiter) (n : Nat) : Nat := if a.budget < n then n - a.places.length else 0

/-- What setting a budget does: a raised one grants the oldest waiting bays. -/
theorem State.setBudget_spec (n : Nat) :
    UnchangedBut [.arb, .bayMail] s (s.setBudget n) ∧
    (s.setBudget n).arb = {
      budget := n, places := s.arb.places ++ s.arb.waitOrder.take (Arbiter.raised s.arb n),
      waitOrder := s.arb.waitOrder.drop (Arbiter.raised s.arb n) } ∧
    ∀ b, (s.setBudget n).bmail b = { s.bmail b with
      grants := (s.bmail b).grants + (s.arb.waitOrder.take (Arbiter.raised s.arb n)).count b } := by
  refine ⟨(s.setBudget_unchanged n).mono (by simp), ?_⟩
  unfold State.setBudget Arbiter.raised
  split
  · refine ⟨?_, fun b => foldl_sendGrant_bmail _ _ b⟩
    exact UnchangedBut.foldl State.sendGrant (fun t b => t.sendGrant_unchanged b) _ _ .arb (by simp)
  · exact ⟨by simp [State.setArb], fun b => rfl⟩

/-! ### Counters (R176) -/

theorem State.exec_counterQuery {h : Header} {zero : Bool} {asked : List CounterUnit} {got : Tbl (List Byte)}
    (wait : s.agent.wait = .counters h zero asked got) (u : CounterUnit) : exec (.counterQuery u) s =
      .next (if u ∈ asked then (if zero then s.zeroCounters u else s).gotCounters h zero (asked.filter (· ≠ u))
        (got.set (CounterUnit.key u) (s.counterBytes u)) else s) := by
  simp only [exec, execCounterQuery, wait, List.contains_iff_mem]

/-- Settles O50: what is sent is followed channel by channel, a budget through the places it fills, and a counter
question through the unit that takes it. -/
theorem parameters : Obligations.Parameters := by
  refine ⟨fun q => ⟨ParamBlock.inRange_iff q, fun _ => rfl⟩, ?_, ?_, ?_, ?_, ?_⟩
  · rintro s p f h q a ask block rfl
    have params : (s.accepted p).agent.params = s.agent.params := by rw [State.accepted_agent]
    have next : exec .setParams s = .next ((s.accepted p).setParams h q) := by
      simp only [exec, execSetParams, s.manage_of_asks _ ask, block]
    rw [State.setParams, params] at next
    refine ⟨fun refused => ?_, fun range order => ⟨fun carried => ?_, fun free => ?_⟩⟩
    · have : Params.accepts s.agent.params q = false := by
        rw [← Bool.not_eq_true, Params.accepts_iff]
        rcases refused with h | h <;> simp [h]
      rw [this] at next
      exact next
    all_goals
      have accepted := (Params.accepts_iff s.agent.params q).2 ⟨range, order⟩
      rw [accepted] at next
    · rw [carried] at next
      exact next
    · rw [free, State.applyParams_eq] at next
      refine ⟨(s.accepted p).paramsWritten q, next, ?_, ?_, ?_, ?_⟩
      · exact ((s.accepted_parts p).mono (by simp)).trans ((State.paramsWritten_parts _ q).mono (by simp))
      · exact State.paramsWritten_parts _ q .cls (by simp)
      · rw [State.paramsWritten_agent, params]
      · exact State.paramsWritten_sent q params (fun b => State.accepted_bmail s p b) (s.accepted_mail p)
          (s.accepted_parts p .portMail (by simp))
  · intro s tag q wait
    refine ⟨fun low => ?_, fun fits => ?_⟩
    · simp only [exec, execBudgetChange, wait, if_pos low]
    · obtain ⟨parts, arb, bays⟩ := s.setBudget_spec q.budget
      have agent : (s.setBudget q.budget).agent = s.agent := parts .agent (by simp)
      refine ⟨((s.setBudget q.budget).setWait .free).paramsWritten q, _, ?_, ?_, rfl, ?_, ?_, ?_⟩
      · simp only [exec, execBudgetChange, wait, if_neg (Nat.not_lt.2 fits), State.applyParams_eq]
      · exact ((parts.mono (by simp)).trans ((State.setWait_unchanged _ _).mono (by simp))).trans
          ((State.paramsWritten_parts _ q).mono (by simp))
      · exact (State.paramsWritten_parts _ q .arb (by simp)).trans arb
      · rw [State.paramsWritten_agent]
        simp only [State.setWait, agent]
      · exact State.paramsWritten_sent q (congrArg Agent.params agent :) bays (parts .mail (by simp))
          (parts .portMail (by simp))
  · intro s p f h ask
    simp only [exec, execReadCounters, s.manage_of_asks _ ask]
    rfl
  · intro s h zero asked got wait
    refine ⟨fun u absent => by rw [s.exec_counterQuery wait, if_neg absent], ?_⟩
    rintro u _ mem rfl
    have next := s.exec_counterQuery wait u
    rw [if_pos mem, State.gotCounters] at next
    refine ⟨if zero then s.zeroCounters u else s, ?_, fun more => ?_, fun last => ?_, fun keep => ?_,
      fun p set port => ?_, fun b set bay => ?_⟩
    · split
      · exact s.zeroCounters_unchanged u
      · exact .refl _ s
    · rw [if_neg (by simpa using more)] at next
      exact next
    · rw [if_pos (by simpa using last)] at next
      exact next
    · simp [keep]
    · subst port
      rw [if_pos set]
      exact ⟨fun q hq => ⟨s.setPort_port_ne p _ q hq, rfl⟩, rfl, s.setPort_port_self p _⟩
    · subst bay
      rw [if_pos set]
      exact ⟨s.setUnit_otherBays b _, rfl, s.setUnit_unit_self b _⟩
  · intro s
    refine ⟨?_, ?_⟩
    · rintro p _ rfl
      exact ⟨rfl, rfl⟩
    · rintro b _ rfl
      exact ⟨rfl, rfl⟩

end Sys2Proof.Machine
end

section
/-! SUPPORT. The spin-up arbiter (R107 to R113): its grants, what its reports and the grant at a drive unit do, and
O41. -/

namespace Sys2Proof.Machine

variable (s : State) (b : Bay)

/-! ### Grants (R110) -/

/-- The oldest waiting bays take the free places, each with one grant on its way. -/
theorem State.arbGrant_spec :
    UnchangedBut [.arb, .bayMail] s s.arbGrant ∧ s.arbGrant.arb = s.arb.granted ∧
    ∀ c, s.arbGrant.bmail c = { s.bmail c with grants := (s.bmail c).grants + s.arb.winners.count c } :=
  ⟨s.arbGrant_unchanged,
    UnchangedBut.foldl State.sendGrant (fun t c => t.sendGrant_unchanged c) _ _ .arb (by simp),
    fun c => foldl_sendGrant_bmail _ _ c⟩

theorem State.popUnitToArb_bmail_eq (rest : List UnitToArb) (c : Bay) : (s.popUnitToArb b rest).bmail c =
    if c = b then { s.bmail b with unitToArb := rest } else s.bmail c := by
  by_cases hc : c = b
  · rw [if_pos hc, hc, s.popUnitToArb_bmail b rest]
  · rw [if_neg hc, State.popUnitToArb, s.setBmail_bmail_ne b _ c hc]

/-- A report is taken, the arbiter becomes `a`, and it grants. -/
theorem State.reportGrants_spec (rest : List UnitToArb) (a : Arbiter) :
    UnchangedBut [.arb, .bayMail] s ((s.popUnitToArb b rest).setArb a).arbGrant ∧
    ((s.popUnitToArb b rest).setArb a).arbGrant.arb = a.granted ∧
    ∀ c, ((s.popUnitToArb b rest).setArb a).arbGrant.bmail c =
      { (if c = b then { s.bmail b with unitToArb := rest } else s.bmail c) with
        grants := (s.bmail c).grants + a.winners.count c } := by
  obtain ⟨parts, arb, mail⟩ := ((s.popUnitToArb b rest).setArb a).arbGrant_spec
  refine ⟨((s.popUnitToArb_unchanged b rest).trans ((State.setArb_unchanged _ a).mono (by simp))).trans parts, arb,
    fun c => (mail c).trans ?_⟩
  rw [State.setArb_bmail, s.popUnitToArb_bmail_eq b rest c]
  by_cases hc : c = b
  · subst hc
    simp only [if_true]
    rfl
  · simp only [if_neg hc]
    rfl

/-! ### The reports (R109, R111, R112) -/

theorem Arbiter.knows_iff (a : Arbiter) : a.knows b = true ↔ b ∈ a.places ∨ b ∈ a.waitOrder := by
  simp only [Arbiter.knows, Bool.or_eq_true, List.contains_iff_mem]

section Reports
variable {s} {b} {rest : List UnitToArb}

theorem State.exec_spinUpWanted_new (h : (s.bmail b).unitToArb = .wanted :: rest) (new : s.arb.knows b = false) :
    exec (.spinUpWanted b) s = .next ((s.popUnitToArb b rest).setArb (s.arb.want b)).arbGrant := by
  simp only [exec, execSpinUpWanted, h, new, Bool.false_eq_true, if_false]

theorem State.exec_spinUpWanted_known (h : (s.bmail b).unitToArb = .wanted :: rest) (known : s.arb.knows b = true) :
    exec (.spinUpWanted b) s = .next (s.popUnitToArb b rest) := by
  simp only [exec, execSpinUpWanted, h, known, if_true]

theorem State.exec_waitWithdrawn (h : (s.bmail b).unitToArb = .withdrawn :: rest) :
    exec (.waitWithdrawn b) s = .next ((s.popUnitToArb b rest).setArb (s.arb.withdraw b)) := by
  simp only [exec, execWaitWithdrawn, h]

theorem State.exec_grantDeclined (h : (s.bmail b).unitToArb = .declined :: rest) :
    exec (.grantDeclined b) s = .next ((s.popUnitToArb b rest).setArb (s.arb.release b)).arbGrant := by
  simp only [exec, execGrantDeclined, h]

theorem State.exec_spinUpEnded (h : (s.bmail b).unitToArb = .ended :: rest) :
    exec (.spinUpEnded b) s = .next ((s.popUnitToArb b rest).setArb (s.arb.release b)).arbGrant := by
  simp only [exec, execSpinUpEnded, h]

end Reports

/-! ### The grant at the unit (R111) -/

section Grant
variable {s} {b} {k : Nat} (h : (s.bmail b).grants = k + 1)
include h

theorem State.exec_spinUpGrant_waits (waits : (s.unit b).state = .wakeWait) :
    exec (.spinUpGrant b) s = .next ((s.setBmail b { s.bmail b with grants := k }).beginSpinUp b) := by
  simp only [exec, execSpinUpGrant, h, Nat.add_eq_zero_iff, one_ne_zero, and_false, if_false, Nat.add_sub_cancel,
    waits, if_true]

theorem State.exec_spinUpGrant_declined (other : (s.unit b).state ≠ .wakeWait) :
    exec (.spinUpGrant b) s = .next ((s.setBmail b { s.bmail b with grants := k }).tellArb b .declined) := by
  simp only [exec, execSpinUpGrant, h, Nat.add_eq_zero_iff, one_ne_zero, and_false, if_false, Nat.add_sub_cancel,
    if_neg other]

end Grant

/-- The unit issues SPIN-UP under its spin-up limit, and counts it. -/
theorem State.BayIs.beginSpinUp {s t : State} {b : Bay} {u : DriveUnit} {c : Service} {m : BayMail}
    (h : s.BayIs t bayParts b u c m) : s.BayIs (t.beginSpinUp b) bayParts b
      { u with
        state := .spinningUp, inFlight := some (u.issued, .spinUp), issued := u.issued + 1, commandTimer := none,
        spinUpTimer := some (s.now + secs u.params.spinUpLimit), spinUps := min 4294967295 (u.spinUps + 1) }
      (c.outputs .spinningUp) m := by
  rw [← bump_eq]
  exact ((h.modUnit fun u => { u with spinUps := bump u.spinUps }).issue .spinUp).enter .spinningUp

/-! ### O41 -/

/-- Settles O41: a report is taken and the arbiter changes by it, and where a place or a wait has come free or been
asked for, the oldest waiting bays are granted. -/
theorem spinUpArbiter : Obligations.SpinUpArbiter := by
  intro s b
  refine ⟨fun m rest h => ⟨?_, ?_, ?_, ?_, ?_⟩, ?_⟩
  · rintro rfl place wait
    have new : s.arb.knows b = false :=
      Bool.eq_false_iff.2 fun known => ((Arbiter.knows_iff b _).1 known).elim place wait
    exact ⟨_, State.exec_spinUpWanted_new h new, s.reportGrants_spec b rest _⟩
  · rintro rfl known
    exact ⟨_, State.exec_spinUpWanted_known h ((Arbiter.knows_iff b _).2 known),
      ⟨s.setBmail_unchanged b _, s.setBmail_otherBays b _⟩, s.popUnitToArb_bmail_eq b rest b⟩
  · rintro rfl
    exact ⟨_, State.exec_grantDeclined h, s.reportGrants_spec b rest _⟩
  · rintro rfl
    exact ⟨_, State.exec_spinUpEnded h, s.reportGrants_spec b rest _⟩
  · rintro rfl
    exact ⟨_, State.exec_waitWithdrawn h, ⟨execWaitWithdrawn_frame s _ b (State.exec_waitWithdrawn h),
      s.setBmail_otherBays b _⟩, rfl, s.popUnitToArb_bmail_eq b rest b⟩
  · rintro _ k rfl h
    have taken := (s.bayIs bayParts b).setBmail { s.bmail b with grants := k }
    refine ⟨fun waits => ⟨_, State.exec_spinUpGrant_waits h waits, taken.beginSpinUp.becomes rfl rfl⟩,
      fun other => ?_⟩
    have told := ((s.bayIs [.bayMail] b).setBmail_of_mem (by simp) { s.bmail b with grants := k }).setBmail_of_mem
      (by simp) { s.bmail b with grants := k, unitToArb := (s.bmail b).unitToArb ++ [.declined] }
    have next := State.exec_spinUpGrant_declined h other
    rw [State.tellArb, State.setBmail_bmail_self] at next
    exact ⟨_, next, told.only, told.mail⟩

end Sys2Proof.Machine
end

section
/-! SUPPORT. The law of spin-up places (R107 to R113): what it reads of a bay, what grants, reports and a new budget
do to it, and what leaves every place where it is. -/

namespace Sys2Proof.Machine

/-! ### What the law reads -/

/-- What a bay's place consists in, read of its drive unit and its channels. -/
def placeParts (u : DriveUnit) (m : BayMail) : Nat :=
  m.grants + (if u.state = .spinningUp then 1 else 0) + placesReturned m.unitToArb

theorem State.placeTokens_eq (s : State) (b : Bay) : s.placeTokens b = placeParts (s.unit b) (s.bmail b) := rfl

theorem placesReturned_cons (m : UnitToArb) (l : List UnitToArb) :
    placesReturned (m :: l) = placesReturned [m] + placesReturned l :=
  (congrArg List.length (List.filter_append [m] l)).trans List.length_append

theorem placesReturned_concat (l : List UnitToArb) (m : UnitToArb) :
    placesReturned (l ++ [m]) = placesReturned l + placesReturned [m] :=
  (congrArg List.length (List.filter_append l [m])).trans List.length_append

/-- A budget presented to the arbiter lies in its range (R113). -/
def State.BudgetInRange (s : State) : Prop :=
  ∀ tag p, s.agent.wait = .budget tag p → 1 ≤ p.budget ∧ p.budget ≤ 8

/-- Between two states the arbiter and every bay's place stand, and a budget presented stays in range. -/
structure PlacesKept (s t : State) : Prop where
  arb : t.arb = s.arb
  places : ∀ b, t.placeTokens b = s.placeTokens b
  budget : s.BudgetInRange → t.BudgetInRange

theorem PlacesKept.refl (s : State) : PlacesKept s s := ⟨rfl, fun _ => rfl, id⟩

theorem PlacesKept.trans {s t u : State} (h : PlacesKept s t) (k : PlacesKept t u) : PlacesKept s u :=
  ⟨k.arb.trans h.arb, fun b => (k.places b).trans (h.places b), k.budget ∘ h.budget⟩

theorem PlacesKept.foldl {α : Type} (f : State → α → State) (h : ∀ s x, PlacesKept s (f s x)) (xs : List α)
    (s : State) : PlacesKept s (xs.foldl f s) := by
  induction xs generalizing s with
  | nil => exact .refl s
  | cons x xs ih => exact (h s x).trans (ih _)

theorem PlacesKept.spinUpLaw {s t : State} (h : PlacesKept s t) (law : SpinUpLaw s) : SpinUpLaw t := by
  obtain ⟨low, high, fits, nodup, tokens, budget⟩ := law
  obtain ⟨arb, places, keeps⟩ := h
  rw [SpinUpLaw, arb]
  exact ⟨low, high, fits, nodup, fun b => (places b).trans (tokens b), keeps budget⟩

/-- What writes neither the arbiter, nor the drive units and their channels, nor the agent keeps the places. -/
theorem UnchangedBut.placesKept {l : List Part} {s t : State} (h : UnchangedBut l s t)
    (hl : Part.arb ∉ l ∧ Part.units ∉ l ∧ Part.bayMail ∉ l ∧ Part.agent ∉ l) : PlacesKept s t := by
  obtain ⟨ha, hu, hb, hg⟩ := hl
  have units : t.units = s.units := h .units hu
  have bayMail : t.bayMail = s.bayMail := h .bayMail hb
  have agent : t.agent = s.agent := h .agent hg
  refine ⟨h .arb ha, fun b => ?_, ?_⟩
  · simp only [State.placeTokens_eq, State.unit, State.bmail, units, bayMail]
  · simp only [State.BudgetInRange, agent, imp_self]

/-- An operation of one bay keeps the places where it keeps that bay's. -/
theorem State.BayIs.placesKept {s t : State} {b : Bay} {u : DriveUnit} {c : Service} {m : BayMail}
    (h : s.BayIs t bayParts b u c m) (place : placeParts u m = s.placeTokens b) : PlacesKept s t := by
  obtain ⟨⟨parts, others⟩, unit, -, mail, -⟩ := h
  have agent : t.agent = s.agent := parts .agent (by simp)
  refine ⟨parts .arb (by simp), fun c => ?_, ?_⟩
  · by_cases hc : c = b
    · rw [hc, t.placeTokens_eq, unit, mail, place]
    · obtain ⟨unit, -, mail, -⟩ := others c hc
      rw [t.placeTokens_eq, unit, mail, s.placeTokens_eq]
  · simp only [State.BudgetInRange, agent, imp_self]

/-! ### No more spin-ups than places (R110) -/

/-- Every bay in SPINNING_UP holds a place. -/
theorem SpinUpLaw.spinning_subset {s : State} (law : SpinUpLaw s) : s.spinning ⊆ s.arb.places := by
  obtain ⟨-, -, -, -, tokens, -⟩ := law
  intro b hb
  have spins : (s.unit b).state = .spinningUp := beq_iff_eq.1 (List.mem_filter.1 hb).2
  by_contra free
  have none := tokens b
  rw [if_neg free, s.placeTokens_eq, placeParts, if_pos spins] at none
  omega

theorem SpinUpLaw.spinning_le {s : State} (law : SpinUpLaw s) : s.spinning.length ≤ s.arb.budget := by
  have distinct : s.spinning.Nodup := (List.nodup_finRange 24).filter _
  have held := (distinct.subperm law.spinning_subset).length_le
  obtain ⟨-, -, fits, -⟩ := law
  exact held.trans fits

/-! ### The arbiter (R109 to R113) -/

section Arbiter
variable {s : State} (law : SpinUpLaw s)
include law

/-- The arbiter changed with the same places held. -/
theorem SpinUpLaw.setArb {a : Arbiter} (range : 1 ≤ a.budget ∧ a.budget ≤ 8) (fits : a.places.length ≤ a.budget)
    (nodup : (a.places ++ a.waitOrder).Nodup) (same : a.places = s.arb.places) : SpinUpLaw (s.setArb a) := by
  obtain ⟨-, -, -, -, tokens, budget⟩ := law
  exact ⟨range.1, range.2, fits, nodup, fun b => (tokens b).trans (by rw [← same]; rfl), budget⟩

/-- A grant is the place of the bay it goes to: the winners held none. -/
theorem SpinUpLaw.arbGrant : SpinUpLaw s.arbGrant := by
  obtain ⟨low, high, fits, nodup, tokens, budget⟩ := law
  obtain ⟨parts, arb, mail⟩ := s.arbGrant_spec
  have agent : s.arbGrant.agent = s.agent := parts .agent (by simp)
  have units : s.arbGrant.units = s.units := parts .units (by simp)
  have unit (b : Bay) : s.arbGrant.unit b = s.unit b := by rw [State.unit, units, State.unit]
  have order : s.arb.winners ++ s.arb.waitOrder.drop s.arb.room = s.arb.waitOrder := List.take_append_drop _ _
  have kept : (s.arb.granted.places ++ s.arb.granted.waitOrder).Nodup := by
    rw [Arbiter.granted, List.append_assoc, order]
    exact nodup
  have distinct : (s.arb.places ++ s.arb.winners).Nodup := kept.of_append_left
  have granted (b : Bay) : s.arbGrant.placeTokens b = s.placeTokens b + s.arb.winners.count b := by
    simp only [State.placeTokens_eq, placeParts, mail b, unit b]
    omega
  rw [SpinUpLaw, arb, agent]
  refine ⟨low, high, ?_, kept, fun b => ?_, budget⟩
  · have fill := List.length_take_le s.arb.room s.arb.waitOrder
    simp only [Arbiter.granted, Arbiter.winners, List.length_append, Arbiter.room] at fill ⊢
    omega
  · have held : s.arb.places.count b = if b ∈ s.arb.places then 1 else 0 := distinct.of_append_left.count
    rw [granted b, tokens b, ← held, ← List.count_append]
    exact distinct.count

variable {b : Bay}

/-- A bay that neither holds a place nor waits joins the wait order. -/
theorem SpinUpLaw.want (new : s.arb.knows b = false) : SpinUpLaw (s.setArb (s.arb.want b)) := by
  have fresh := mt (Arbiter.knows_iff b s.arb).2 (Bool.eq_false_iff.1 new)
  have ⟨low, high, fits, nodup, _⟩ := law
  refine law.setArb ⟨low, high⟩ fits ?_ rfl
  rw [Arbiter.want, ← List.append_assoc, ← List.concat_eq_append]
  exact nodup.concat (mt List.mem_append.1 fresh)

theorem SpinUpLaw.withdraw : SpinUpLaw (s.setArb (s.arb.withdraw b)) := by
  have ⟨low, high, fits, nodup, _⟩ := law
  exact law.setArb ⟨low, high⟩ fits (nodup.sublist (List.filter_sublist.append_left _)) rfl

/-- A declined grant or an ended spin-up was the bay's place, which is given back. -/
theorem SpinUpLaw.giveBack {m : UnitToArb} {rest : List UnitToArb} (h : (s.bmail b).unitToArb = m :: rest)
    (back : placesReturned [m] = 1) : SpinUpLaw ((s.popUnitToArb b rest).setArb (s.arb.release b)) := by
  obtain ⟨low, high, fits, nodup, tokens, budget⟩ := law
  refine ⟨low, high, (List.length_filter_le _ _).trans fits, nodup.sublist (List.filter_sublist.append_right _),
    fun c => ?_, budget⟩
  have before := tokens c
  have after : ((s.popUnitToArb b rest).setArb (s.arb.release b)).placeTokens c =
      placeParts (s.unit c) (if c = b then { s.bmail b with unitToArb := rest } else s.bmail c) := by
    rw [← s.popUnitToArb_bmail_eq b rest c]
    rfl
  rw [after]
  by_cases hc : c = b
  · subst hc
    have gone : c ∉ (s.arb.release c).places := by simp [Arbiter.release]
    rw [s.placeTokens_eq, placeParts, h, placesReturned_cons, back] at before
    have one : (if c ∈ s.arb.places then 1 else 0) ≤ 1 := by split <;> omega
    rw [if_pos rfl, placeParts, State.setArb, if_neg gone]
    dsimp only
    omega
  · have same : c ∈ (s.arb.release b).places ↔ c ∈ s.arb.places := by simp [Arbiter.release, hc]
    rw [if_neg hc, ← s.placeTokens_eq, before, State.setArb]
    simp only [same]

/-- A budget that covers the places held is set, and grants where it rose. -/
theorem SpinUpLaw.setBudget {n : Nat} (range : 1 ≤ n ∧ n ≤ 8) (covers : s.arb.places.length ≤ n) :
    SpinUpLaw (s.setBudget n) := by
  have ⟨_, _, _, nodup, _⟩ := law
  have set : SpinUpLaw (s.setArb { s.arb with budget := n }) := law.setArb range covers nodup rfl
  unfold State.setBudget
  dsimp only
  split
  · exact set.arbGrant
  · exact set

end Arbiter

/-! ### The writers of one part -/

section Writers
variable (s : State) (b : Bay)

theorem State.setBmail_placesKept (x : BayMail) (place : placeParts (s.unit b) x = s.placeTokens b) :
    PlacesKept s (s.setBmail b x) :=
  ((s.bayIs bayParts b).setBmail x).placesKept place

theorem State.modUnit_placesKept (f : DriveUnit → DriveUnit) (st : (f (s.unit b)).state = (s.unit b).state) :
    PlacesKept s (s.modUnit b f) :=
  ((s.bayIs bayParts b).modUnit f).placesKept (by rw [placeParts, st]; rfl)

theorem State.setControls_placesKept (c : Service) : PlacesKept s (s.setControls b c) :=
  (s.setControls_unchanged b c).placesKept (by simp)

/-- A drive state entered from another, none of them SPINNING_UP. -/
theorem State.enter_placesKept {st : DriveState} (new : st ≠ .spinningUp) (old : (s.unit b).state ≠ .spinningUp) :
    PlacesKept s (s.enter b st) :=
  ((s.bayIs bayParts b).enter st).placesKept (by
    simp only [State.placeTokens_eq, placeParts, if_neg new, if_neg old])

theorem State.setAgent_placesKept (x : Agent) (wait : x.wait = s.agent.wait) :
    PlacesKept s { s with agent := x } :=
  ⟨rfl, fun _ => rfl, by simp only [State.BudgetInRange, wait, imp_self]⟩

theorem State.setWait_placesKept (w : AgentWait)
    (range : ∀ tag p, w = .budget tag p → 1 ≤ p.budget ∧ p.budget ≤ 8 := by intro tag p h; cases h) :
    PlacesKept s (s.setWait w) :=
  ⟨rfl, fun _ => rfl, fun _ => range⟩

theorem State.tellRu_placesKept (m : UnitToRu) : PlacesKept s (s.tellRu b m) := s.setBmail_placesKept b _ rfl
theorem State.tellLm_placesKept (m : UnitToLm) : PlacesKept s (s.tellLm b m) := s.setBmail_placesKept b _ rfl
theorem State.ruSend_placesKept (m : RuToUnit) : PlacesKept s (s.ruSend b m) := s.setBmail_placesKept b _ rfl
theorem State.lmSend_placesKept (m : LmToUnit) : PlacesKept s (s.lmSend b m) := s.setBmail_placesKept b _ rfl
theorem State.popRu_placesKept (l : List RuToUnit) : PlacesKept s (s.popRu b l) := s.setBmail_placesKept b _ rfl
theorem State.popLmToUnit_placesKept (l : List LmToUnit) : PlacesKept s (s.popLmToUnit b l) :=
  s.setBmail_placesKept b _ rfl
theorem State.popUnitToLm_placesKept (l : List UnitToLm) : PlacesKept s (s.popUnitToLm b l) :=
  s.setBmail_placesKept b _ rfl
theorem State.popUnitReport_placesKept (l : List UnitToRu) : PlacesKept s (s.popUnitReport b l) :=
  s.setBmail_placesKept b _ rfl

/-- A report that gives no place back. -/
theorem State.tellArb_placesKept {m : UnitToArb} (other : placesReturned [m] = 0) : PlacesKept s (s.tellArb b m) :=
  s.setBmail_placesKept b _ (by rw [placeParts, placesReturned_concat, other]; rfl)

theorem State.popUnitToArb_placesKept {m : UnitToArb} {rest : List UnitToArb} (h : (s.bmail b).unitToArb = m :: rest)
    (other : placesReturned [m] = 0) : PlacesKept s (s.popUnitToArb b rest) :=
  s.setBmail_placesKept b _ (by
    rw [s.placeTokens_eq, placeParts, placeParts, h, placesReturned_cons, other, Nat.zero_add])

end Writers

/-! ### Messages to the agent (R172, R177, R178) -/

section Agent
variable (s : State)

theorem State.answer_placesKept (a : Answer) : PlacesKept s (s.answer a) :=
  (s.answer_unchanged a).placesKept (by simp)

theorem State.takeNotice_placesKept (n : Notice) : PlacesKept s (s.takeNotice n) := by
  unfold State.takeNotice
  split
  · exact ⟨rfl, fun _ => rfl, id⟩
  · exact .refl s

theorem State.checkReset_placesKept : PlacesKept s s.checkReset :=
  (s.setAgent_placesKept _ (by rfl)).trans (.foldl _ (fun t _ => t.answer_placesKept _) _ _)

theorem State.answerDrains_placesKept (a : Addr) (c : Code) : PlacesKept s (s.answerDrains a c) :=
  ((s.setAgent_placesKept _ (by rfl)).trans (.foldl _ (fun t _ => t.answer_placesKept _) _ _)).trans
    (State.checkReset_placesKept _)

theorem State.sharesTaken_placesKept (r : Running) : PlacesKept s (s.sharesTaken r) := by
  unfold State.sharesTaken
  split
  · exact (s.setAgent_placesKept _ (by rfl)).trans (State.checkReset_placesKept _)
  · exact s.setAgent_placesKept _ (by rfl)

theorem State.shareDone_placesKept (x : ResetShare) : PlacesKept s (s.shareDone x) := by
  unfold State.shareDone
  split
  · exact .refl s
  · split <;> exact s.sharesTaken_placesKept _

theorem State.takeStatus_placesKept (a : Answer) : PlacesKept s ((s.answer a).setWait .free) :=
  (s.answer_placesKept a).trans (State.setWait_placesKept _ _)

theorem State.takeMessage_placesKept (m : AgentMsg) : PlacesKept s (s.takeMessage m) := by
  cases m with
  | status a => exact s.takeStatus_placesKept a
  | drainAnswer a c => exact s.answerDrains_placesKept a c
  | notice n => exact s.takeNotice_placesKept n
  | resetFinished => exact s.shareDone_placesKept .loanManager

theorem State.setMail_placesKept (x : Mail) : PlacesKept s { s with mail := x } :=
  (s.setMail_unchanged x).placesKept (by simp)

theorem State.flushLm_placesKept : PlacesKept s s.flushLm :=
  (PlacesKept.foldl _ State.takeMessage_placesKept _ s).trans (State.setMail_placesKept _ _)

theorem settle_placesKept (l : List AgentMsg) : PlacesKept s (settle l s).2 := by
  induction l generalizing s with
  | nil => exact .refl s
  | cons m l ih =>
    cases m with
    | notice n => exact .refl s
    | resetFinished => exact .refl s
    | status a => exact (s.takeStatus_placesKept a).trans (ih _)
    | drainAnswer a c => exact (s.answerDrains_placesKept a c).trans (ih _)

/-- A channel between single blocks that the agent has settled is written back. -/
theorem State.settleMail_placesKept (l : List AgentMsg) (x : Mail) :
    PlacesKept s { (settle l s).2 with mail := x } :=
  (settle_placesKept s l).trans (State.setMail_placesKept _ x)

theorem State.settleUnit_placesKept (l : List AgentMsg) (b : Bay) : PlacesKept s
    ((settle l s).2.setBmail b { (settle l s).2.bmail b with unitToAgent := (settle l s).1 }) :=
  (settle_placesKept s l).trans (State.setBmail_placesKept _ b _ rfl)

theorem State.settleSvc_placesKept (l : List AgentMsg) (b : Bay) : PlacesKept s
    ((settle l s).2.setBmail b { (settle l s).2.bmail b with svcToAgent := (settle l s).1 }) :=
  (settle_placesKept s l).trans (State.setBmail_placesKept _ b _ rfl)

variable (m : AgentMsg) (b : Bay)

theorem State.lmTellAgent_placesKept : PlacesKept s (s.lmTellAgent m) := s.settleMail_placesKept _ _
theorem State.ruTellAgent_placesKept : PlacesKept s (s.ruTellAgent m) := s.settleMail_placesKept _ _
theorem State.nodeTellAgent_placesKept : PlacesKept s (s.nodeTellAgent m) := s.settleMail_placesKept _ _
theorem State.unitTellAgent_placesKept : PlacesKept s (s.unitTellAgent b m) := s.settleUnit_placesKept _ b
theorem State.svcTellAgent_placesKept : PlacesKept s (s.svcTellAgent b m) := s.settleSvc_placesKept _ b

end Agent

end Sys2Proof.Machine
end

section
/-! SUPPORT. A drive unit keeps its place (R107 to R112): a spin-up takes the place of its grant, and the report that
it ended, or that the grant was declined, takes the place of either; nothing else enters or leaves SPINNING_UP. -/

namespace Sys2Proof.Machine

variable (s t : State) (b : Bay)

/-! ### The writers of a unit -/

theorem State.idle_placesKept : PlacesKept s (s.idle b) := by
  refine s.modUnit_placesKept b _ ?_
  unfold DriveUnit.idleCheck
  repeat' split
  all_goals rfl

theorem State.issue_placesKept (c : DriveCmd) : PlacesKept s (s.issue b c) := s.modUnit_placesKept b _ rfl
theorem State.endCommand_placesKept : PlacesKept s (s.endCommand b) := s.modUnit_placesKept b _ rfl
theorem State.clearHand_placesKept : PlacesKept s (s.clearHand b) := s.modUnit_placesKept b _ rfl
theorem State.countMedia_placesKept : PlacesKept s (s.countMedia b) := s.modUnit_placesKept b _ rfl
theorem State.countTimeout_placesKept : PlacesKept s (s.countTimeout b) := s.modUnit_placesKept b _ rfl

/-! ### Choosing, waking and spinning down (R89, R99, R100, R138) -/

section Moves
variable {s} {b}

/-- A unit that is not spinning up issues a command and enters the state of that command. -/
theorem State.issueEnter_placesKept {st : DriveState} (new : st ≠ .spinningUp)
    (old : (s.unit b).state ≠ .spinningUp) (c : DriveCmd) : PlacesKept s ((s.issue b c).enter b st) :=
  (s.issue_placesKept b c).trans (State.enter_placesKept _ b new (by rwa [State.issue_unit]))

theorem State.releaseSpinDown_placesKept (old : (s.unit b).state ≠ .spinningUp) :
    PlacesKept s (s.releaseSpinDown b) :=
  State.issueEnter_placesKept (by decide) old .spinDown

theorem State.spinDown_placesKept (old : (s.unit b).state ≠ .spinningUp) : PlacesKept s (s.spinDown b) :=
  (s.modUnit_placesKept b _ (by rfl)).trans
    (State.issueEnter_placesKept (by decide) (by rwa [State.modUnit_unit]) .spinDown)

theorem State.enterIdentifying_placesKept (old : (s.unit b).state ≠ .spinningUp) :
    PlacesKept s (s.enterIdentifying b) :=
  (s.modUnit_placesKept b _ (by rfl)).trans
    (State.issueEnter_placesKept (by decide) (by rwa [State.modUnit_unit]) .identify)

theorem State.wake_placesKept (old : (s.unit b).state ≠ .spinningUp) : PlacesKept s (s.wake b) :=
  (s.enter_placesKept b (by decide) old).trans (State.tellArb_placesKept _ b rfl)

theorem State.enterService_placesKept (old : (s.unit b).state ≠ .spinningUp) : PlacesKept s (s.enterService b) :=
  (s.bayIs bayParts b).enterService.placesKept (by
    simp only [State.placeTokens_eq, placeParts, if_neg old, reduceCtorEq, if_false])

end Moves

/-- The choice is made in READY. -/
theorem State.choose_placesKept : PlacesKept s (s.choose b) := by
  unfold State.choose
  dsimp only
  split
  · exact s.idle_placesKept b
  · rename_i free
    have ready : (s.unit b).state = .ready := by_contra fun other => free (.inl other)
    have acts {f : DriveUnit → DriveUnit} (st : (f (s.unit b)).state = (s.unit b).state) (c : DriveCmd) :
        PlacesKept s (((s.modUnit b f).issue b c).enter b .active) :=
      (s.modUnit_placesKept b f st).trans
        (State.issueEnter_placesKept (by decide) (by rw [State.modUnit_unit, st, ready]; decide) c)
    split
    · exact (acts (by rfl) _).trans (State.idle_placesKept _ b)
    · exact (acts (by rfl) _).trans (State.idle_placesKept _ b)
    · exact ((acts (by rfl) _).trans (State.tellRu_placesKept _ b _)).trans (State.idle_placesKept _ b)
    · exact s.idle_placesKept b

theorem State.workArrived_placesKept : PlacesKept s (s.workArrived b) := by
  unfold State.workArrived
  split
  · rename_i work
    exact (State.wake_placesKept (by rw [work.1]; decide)).trans (State.idle_placesKept _ b)
  · exact s.choose_placesKept b

theorem State.releaseHand_placesKept : PlacesKept s (s.releaseHand b) := by
  unfold State.releaseHand
  split
  · exact (s.clearHand_placesKept b).trans (State.tellRu_placesKept _ b _)
  · exact .refl s

/-- A unit followed into READY goes on as any unit there. -/
theorem State.BayIs.ready_placesKept {s t : State} {b : Bay} {u : DriveUnit} {c : Service} {m : BayMail}
    (h : s.BayIs t bayParts b u c m) (place : placeParts { u with state := .ready } m = s.placeTokens b) :
    PlacesKept s (t.ready b) := by
  have entered : PlacesKept s (t.enter b .ready) := (h.enter .ready).placesKept place
  unfold State.ready
  dsimp only
  split
  · refine ((entered.trans (State.releaseHand_placesKept _ b)).trans ?_).trans (State.idle_placesKept _ b)
    refine State.releaseSpinDown_placesKept ?_
    rw [State.releaseHand_unit, State.enter_unit]
    simp
  · exact entered.trans (State.choose_placesKept _ b)

theorem State.ready_placesKept (old : (s.unit b).state ≠ .spinningUp) : PlacesKept s (s.ready b) :=
  (s.bayIs bayParts b).ready_placesKept (by
    simp only [State.placeTokens_eq, placeParts, if_neg old, reduceCtorEq, if_false])

/-! ### FAULT and ABSENT (R98, R112, R141) -/

/-- The report that a spin-up ended is the place of the spin-up that is given up. -/
theorem placeParts_givingUp (u v : DriveUnit) (r : FailReason) (m : BayMail) (l : List UnitToLm)
    (other : v.state ≠ .spinningUp) :
    placeParts v { DriveUnit.givingUp u r m with unitToLm := l } = placeParts u m := by
  simp only [placeParts, DriveUnit.givingUp, if_neg other]
  cases u.state with
  | spinningUp =>
    have back : placesReturned [.ended] = 1 := rfl
    simp only [reduceCtorEq, if_false, if_true, placesReturned_concat, back]
    omega
  | wakeWait =>
    simp only [reduceCtorEq, if_false, if_true, placesReturned_concat]
    rfl
  | absent | identifying | standby | ready | active | spinningDown | fault | service =>
    simp only [reduceCtorEq, if_false, List.append_nil]

theorem State.faulted_placesKept : PlacesKept s (s.faulted b) :=
  (s.bayIs bayParts b).faulted.placesKept (placeParts_givingUp _ _ _ _ _ (by simp))

theorem State.enterFault_placesKept (cause : FaultCause) : PlacesKept s (s.enterFault b cause) := by
  have faulted := (s.bayIs bayParts b).faulted
  have told : PlacesKept s ((s.faulted b).unitNotice b (s.faultNotice b cause)) :=
    (s.faulted_placesKept b).trans (State.unitTellAgent_placesKept _ _ b)
  rw [s.enterFault_eq]
  split
  · refine told.trans (State.enterService_placesKept ?_)
    have same : ((s.faulted b).unitNotice b (s.faultNotice b cause)).units = (s.faulted b).units :=
      State.unitTellAgent_unchanged _ b _ .units (by simp)
    rw [State.unit, same, ← State.unit, faulted.unit]
    simp
  · exact told

theorem State.timedFault_placesKept (cause : FaultCause) :
    PlacesKept s ((s.countTimeout b).enterFault b cause) :=
  (s.countTimeout_placesKept b).trans (State.enterFault_placesKept _ b cause)

theorem State.enterAbsent_placesKept : PlacesKept s (s.enterAbsent b) := by
  have told : PlacesKept s (s.absentTold b) :=
    (s.bayIs bayParts b).absentTold.placesKept
      (placeParts_givingUp _ _ _ _ _ (by simp [DriveUnit.removed]))
  rw [s.enterAbsent_eq]
  split
  · exact told
  · exact told.trans (State.unitTellAgent_placesKept _ _ b)

end Sys2Proof.Machine
end

section
/-! SUPPORT. The commands of a bay keep every place (R107 to R112). -/

namespace Sys2Proof.Machine

variable (s t : State) (b : Bay)

/-! ### Pieces and extents (R87, R88, R92, R115, R120, R121) -/

theorem State.appendPiece_placesKept (j : Job) (identity : Serial) :
    PlacesKept s (s.appendPiece b j identity) := by
  unfold State.appendPiece
  dsimp only
  split
  · exact s.tellRu_placesKept b _
  · split
    · exact s.tellRu_placesKept b _
    · split
      · exact s.tellRu_placesKept b _
      · exact (s.modUnit_placesKept b _ (by rfl)).trans (State.workArrived_placesKept _ b)

theorem State.withdrawPiece_placesKept (r : PieceRef) (f : FailReason) :
    PlacesKept s (s.withdrawPiece b r f) := by
  unfold State.withdrawPiece
  dsimp only
  split
  · exact ((s.modUnit_placesKept b _ (by rfl)).trans (State.tellRu_placesKept _ b _)).trans
      (State.idle_placesKept _ b)
  · split <;> exact s.tellRu_placesKept b _

theorem State.emptyStaging_placesKept (r : PieceRef) : PlacesKept s (s.emptyStaging b r) := by
  unfold State.emptyStaging
  split
  · exact (s.modUnit_placesKept b _ (by rfl)).trans (State.choose_placesKept _ b)
  · exact .refl s

theorem State.takeExtent_placesKept (v i : Nat) (identity : Serial) (start length : Nat) :
    PlacesKept s (s.takeExtent b v i identity start length) := by
  unfold State.takeExtent
  split
  · exact s.tellLm_placesKept b _
  · unfold State.joinExtent
    dsimp only
    split
    · exact (s.modUnit_placesKept b _ (by rfl)).trans (State.workArrived_placesKept _ b)
    · exact (s.modUnit_placesKept b _ (by rfl)).trans (State.idle_placesKept _ b)

theorem execPieceAppend_placesKept (h : execPieceAppend b s = .next t) : PlacesKept s t := by
  cases h
  split
  · exact (s.popRu_placesKept b _).trans (State.appendPiece_placesKept _ b _ _)
  · exact .refl s

theorem execPieceWithdrawal_placesKept (h : execPieceWithdrawal b s = .next t) : PlacesKept s t := by
  cases h
  split
  · exact (s.popRu_placesKept b _).trans (State.withdrawPiece_placesKept _ b _ _)
  · exact .refl s

theorem execStagingEmptied_placesKept (h : execStagingEmptied b s = .next t) : PlacesKept s t := by
  cases h
  split
  · exact (s.popRu_placesKept b _).trans (State.emptyStaging_placesKept _ b _)
  · exact .refl s

theorem execPendingClearReport_placesKept (h : execPendingClearReport b s = .next t) : PlacesKept s t := by
  cases h
  split
  · exact ((s.popLmToUnit_placesKept b _).trans (State.modUnit_placesKept _ b _ (by rfl))).trans
      (State.idle_placesKept _ b)
  · exact .refl s

theorem execClearExtent_placesKept (h : execClearExtent b s = .next t) : PlacesKept s t := by
  cases h
  split
  · exact (s.popLmToUnit_placesKept b _).trans (State.takeExtent_placesKept _ b _ _ _ _ _)
  · exact .refl s

theorem execGatherTimerExpiry_placesKept (h : execGatherTimerExpiry b s = .next t) : PlacesKept s t := by
  cases h
  split
  · split
    · exact (s.modUnit_placesKept b _ (by rfl)).trans (State.workArrived_placesKept _ b)
    · exact .refl s
  · exact .refl s
  · exact .refl s

/-! ### Ends of commands (R86, R91 to R100, R112, R124, R125) -/

section Flying
variable {s} {b} {n : Nat} {c : DriveCmd} (law : DriveUnit.lawful (s.unit b)) (flying : s.flying b n = some c)
include law flying

/-- SPIN-UP alone is in flight in SPINNING_UP (R83). -/
theorem DriveUnit.lawful.not_spinningUp (other : c ≠ .spinUp) : (s.unit b).state ≠ .spinningUp := by
  intro spins
  have fits := law.fits flying
  rw [spins] at fits
  cases c with
  | spinUp => exact other rfl
  | identify | fetch | store | probe | zero | spinDown => cases fits

omit flying in
/-- And it is in flight in no other state. -/
theorem DriveUnit.lawful.spinningUp (flying : s.flying b n = some .spinUp) : (s.unit b).state = .spinningUp := by
  have fits := law.fits flying
  cases st : (s.unit b).state with
  | spinningUp => rfl
  | absent | identifying | standby | wakeWait | ready | active | spinningDown | fault | service =>
    rw [st] at fits
    cases fits

end Flying

section Ended
variable {s} {b} (old : (s.unit b).state ≠ .spinningUp)
include old

/-- A piece in hand has been given its outcome, and the unit is READY. -/
theorem State.handOver_placesKept (r : UnitToRu) :
    PlacesKept s ((((s.endCommand b).clearHand b).tellRu b r).ready b) :=
  (((s.endCommand_placesKept b).trans (State.clearHand_placesKept _ b)).trans
    (State.tellRu_placesKept _ b r)).trans
    (State.ready_placesKept _ b (by simpa [DriveUnit.endCommand] using old))

theorem State.fetched_placesKept (j : Job) (bs : List Block) (md : Bool) : PlacesKept s (s.fetched b j bs md) := by
  have counted : PlacesKept s (if md then s.countMedia b else s) ∧
      ((if md then s.countMedia b else s).unit b).state ≠ .spinningUp := by
    split
    · exact ⟨s.countMedia_placesKept b, by simpa using old⟩
    · exact ⟨.refl s, old⟩
  obtain ⟨kept, still⟩ := counted
  unfold State.fetched
  dsimp only
  split
  · exact kept.trans (State.handOver_placesKept still _)
  · exact kept.trans (((((State.endCommand_placesKept _ b).trans (State.clearHand_placesKept _ b)).trans
      (State.modUnit_placesKept _ b _ (by rfl))).trans (State.tellRu_placesKept _ b _)).trans
      (State.ready_placesKept _ b (by simpa [DriveUnit.endCommand] using still)))

theorem State.pieceMedia_placesKept (j : Job) (k : Nat) : PlacesKept s (s.pieceMedia b j k) :=
  (s.countMedia_placesKept b).trans (State.handOver_placesKept (by simpa using old) _)

theorem State.probed_placesKept (j : Job) (k : Nat) : PlacesKept s (s.probed b j k) := by
  unfold State.probed
  dsimp only
  split
  · exact State.handOver_placesKept old _
  · split
    · exact State.handOver_placesKept old _
    · split
      · exact State.handOver_placesKept old _
      · exact ((s.endCommand_placesKept b).trans (State.modUnit_placesKept _ b _ (by rfl))).trans
          (State.ready_placesKept _ b (by simpa [DriveUnit.endCommand] using old))

/-- The extent being worked leaves the list, and the unit is READY. -/
theorem State.extentLeaves_placesKept (m : UnitToLm) :
    PlacesKept s (((s.endCommand b).extentLeaves b m).ready b) :=
  (((s.endCommand_placesKept b).trans (State.tellLm_placesKept _ b m)).trans
    (State.modUnit_placesKept _ b _ (by rfl))).trans
    (State.ready_placesKept _ b (by simpa [DriveUnit.endCommand] using old))

theorem State.zeroed_placesKept (x : Extent) (k : Nat) : PlacesKept s (s.zeroed b x k) := by
  unfold State.zeroed
  dsimp only
  split
  · exact State.extentLeaves_placesKept old _
  · split
    · exact State.extentLeaves_placesKept old _
    · exact ((s.endCommand_placesKept b).trans (State.modUnit_placesKept _ b _ (by rfl))).trans
        (State.ready_placesKept _ b (by simpa [DriveUnit.endCommand] using old))

theorem State.zeroMedia_placesKept (x : Extent) : PlacesKept s (s.zeroMedia b x) :=
  (s.countMedia_placesKept b).trans (State.extentLeaves_placesKept (by simpa using old) _)

theorem State.identified_placesKept (d : Disk) : PlacesKept s (s.identified b d) := by
  have standby : PlacesKept s ((s.modUnit b fun u => { u.endCommand with disk := some d }).enter b .standby) :=
    (s.modUnit_placesKept b _ (by rfl)).trans
      (State.enter_placesKept _ b (by decide) (by simpa [DriveUnit.endCommand] using old))
  have told : PlacesKept s (s.diskTold b d) :=
    (standby.trans (State.tellLm_placesKept _ b _)).trans (State.unitTellAgent_placesKept _ _ b)
  rw [s.identified_eq]
  split
  · refine told.trans (State.enterService_placesKept ?_)
    have same (u : State) (n : Notice) : (u.unitNotice b n).units = u.units :=
      u.unitTellAgent_unchanged b _ .units (by simp)
    rw [State.diskTold, State.unit, same, ← State.unit, State.tellLm_unit, State.enter_unit]
    simp
  · exact told

theorem State.spunDown_placesKept : PlacesKept s (s.spunDown b) := by
  have ended : ((s.endCommand b).unit b).state ≠ .spinningUp := by simpa [DriveUnit.endCommand] using old
  have standby : PlacesKept s ((s.endCommand b).enter b .standby) :=
    (s.endCommand_placesKept b).trans (State.enter_placesKept _ b (by decide) ended)
  rw [s.spunDown_eq]
  split
  · exact (s.endCommand_placesKept b).trans (State.enterService_placesKept ended)
  · split
    · exact standby.trans (State.wake_placesKept (by rw [State.enter_unit]; simp))
    · exact standby

end Ended

/-- The report that the spin-up ended is its place from then on (R112). -/
theorem State.spunUp_placesKept (spins : (s.unit b).state = .spinningUp) : PlacesKept s (s.spunUp b) := by
  have ended := ((s.bayIs bayParts b).modUnit DriveUnit.endCommand).tellArb .ended
  have back : placesReturned [.ended] = 1 := rfl
  refine ended.ready_placesKept ?_
  simp only [State.placeTokens_eq, placeParts, spins, placesReturned_concat, back, reduceCtorEq, if_false, if_true]
  omega

/-! The commands. -/

section Completions
variable {s} {t} {b} (law : CommandLaw s) (n : Nat)
include law

theorem execIdentifyCompletion_placesKept (o : IdentifyOutcome) (h : execIdentifyCompletion b n o s = .next t) :
    PlacesKept s t := by
  cases h
  split
  · rename_i flying
    unfold State.identifyEnds
    split
    · split
      · exact s.enterFault_placesKept b _
      · exact State.identified_placesKept ((law b).not_spinningUp flying (by simp)) _
    all_goals exact s.enterFault_placesKept b _
  · exact .refl s

theorem execFetchCompletion_placesKept (o : FetchOutcome) (h : execFetchCompletion b n o s = .next t) :
    PlacesKept s t := by
  unfold execFetchCompletion at h
  split at h
  · rename_i flying _
    have old := (law b).not_spinningUp flying (by simp)
    cases o with
    | good blocks =>
      dsimp only at h
      split at h <;> cases h
      exact State.fetched_placesKept old _ _ _
    | media blocks =>
      dsimp only at h
      split at h <;> cases h
      exact State.fetched_placesKept old _ _ _
    | failed => cases h; exact s.enterFault_placesKept b _
    | linkLost => cases h; exact s.enterFault_placesKept b _
  · cases h; exact .refl s

theorem execStoreCompletion_placesKept (o : CmdOutcome) (h : execStoreCompletion b n o s = .next t) :
    PlacesKept s t := by
  unfold execStoreCompletion at h
  split at h
  · rename_i flying _
    have old := (law b).not_spinningUp flying (by simp)
    cases o with
    | good => cases h; exact State.handOver_placesKept old _
    | media k =>
      dsimp only at h
      split at h <;> cases h
      exact State.pieceMedia_placesKept old _ _
    | failed => cases h; exact s.enterFault_placesKept b _
    | linkLost => cases h; exact s.enterFault_placesKept b _
  · cases h; exact .refl s

theorem execProbeCompletion_placesKept (o : CmdOutcome) (h : execProbeCompletion b n o s = .next t) :
    PlacesKept s t := by
  unfold execProbeCompletion at h
  split at h
  · rename_i flying _
    have old := (law b).not_spinningUp flying (by simp)
    cases o with
    | good => cases h; exact State.probed_placesKept old _ _
    | media k =>
      dsimp only at h
      split at h <;> cases h
      exact State.pieceMedia_placesKept old _ _
    | failed => cases h; exact s.enterFault_placesKept b _
    | linkLost => cases h; exact s.enterFault_placesKept b _
  · cases h; exact .refl s

theorem execZeroCompletion_placesKept (o : CmdOutcome) (h : execZeroCompletion b n o s = .next t) :
    PlacesKept s t := by
  unfold execZeroCompletion at h
  split at h
  · rename_i flying _
    have old := (law b).not_spinningUp flying (by simp)
    cases o with
    | good => cases h; exact State.zeroed_placesKept old _ _
    | media k =>
      dsimp only at h
      split at h <;> cases h
      exact State.zeroMedia_placesKept old _
    | failed => cases h; exact s.enterFault_placesKept b _
    | linkLost => cases h; exact s.enterFault_placesKept b _
  · cases h; exact .refl s

theorem execSpinUpCompletion_placesKept (o : CmdOutcome) (h : execSpinUpCompletion b n o s = .next t) :
    PlacesKept s t := by
  cases h
  split
  · rename_i flying
    split
    · exact s.spunUp_placesKept b ((law b).spinningUp flying)
    all_goals exact s.enterFault_placesKept b _
  · exact .refl s

theorem execSpinDownCompletion_placesKept (o : CmdOutcome) (h : execSpinDownCompletion b n o s = .next t) :
    PlacesKept s t := by
  cases h
  split
  · rename_i flying
    split
    · exact State.spunDown_placesKept ((law b).not_spinningUp flying (by simp))
    all_goals exact s.enterFault_placesKept b _
  · exact .refl s

/-- The idle timer runs in READY only (R101). -/
theorem execIdleTimerExpiry_placesKept (h : execIdleTimerExpiry b s = .next t) : PlacesKept s t := by
  cases h
  split
  · rename_i expired
    obtain ⟨-, -, -, idle⟩ := law b
    have runs : (s.unit b).idleTimer.isSome = true := by
      cases timer : (s.unit b).idleTimer with
      | none => rw [timer] at expired; cases expired
      | some d => rfl
    exact State.spinDown_placesKept (by rw [idle runs]; decide)
  · exact .refl s

end Completions

theorem execCommandTimerExpiry_placesKept (h : execCommandTimerExpiry b s = .next t) : PlacesKept s t := by
  cases h
  split
  · exact s.timedFault_placesKept b _
  · exact .refl s

theorem execSpinUpLimitExpiry_placesKept (h : execSpinUpLimitExpiry b s = .next t) : PlacesKept s t := by
  cases h
  split
  · exact s.timedFault_placesKept b _
  · exact .refl s

theorem execLinkLost_placesKept (h : execLinkLost b s = .next t) : PlacesKept s t := by
  cases h
  split
  case h_8 | h_9 | h_10 => exact .refl s
  all_goals exact s.enterFault_placesKept b _

/-! ### Spin-up grants and values sent (R90, R101, R111, R174) -/

/-- A grant becomes the spin-up, or the report that it was declined. -/
theorem execSpinUpGrant_placesKept (h : execSpinUpGrant b s = .next t) : PlacesKept s t := by
  cases grants : (s.bmail b).grants with
  | zero =>
    simp only [execSpinUpGrant, grants, if_true] at h
    cases h
    exact .refl s
  | succ k =>
    have taken := (s.bayIs bayParts b).setBmail { s.bmail b with grants := k }
    by_cases waits : (s.unit b).state = .wakeWait
    · cases (State.exec_spinUpGrant_waits grants waits).symm.trans h
      refine taken.beginSpinUp.placesKept ?_
      simp only [State.placeTokens_eq, placeParts, waits, grants, reduceCtorEq, if_false, if_true]
    · cases (State.exec_spinUpGrant_declined grants waits).symm.trans h
      have back : placesReturned [.declined] = 1 := rfl
      refine (taken.tellArb .declined).placesKept ?_
      simp only [State.placeTokens_eq, placeParts, grants, placesReturned_concat, back]
      omega

theorem execPauseAllowanceChange_placesKept (h : execPauseAllowanceChange b s = .next t) : PlacesKept s t := by
  cases h
  split
  · exact .refl s
  · exact ((s.setBmail_placesKept b _ (by rfl)).trans (State.modUnit_placesKept _ b _ (by rfl))).trans
      (State.choose_placesKept _ b)

theorem execKeepSpinningChange_placesKept (h : execKeepSpinningChange b s = .next t) : PlacesKept s t := by
  cases h
  split
  · exact .refl s
  · exact ((s.setBmail_placesKept b _ (by rfl)).trans (State.modUnit_placesKept _ b _ (by rfl))).trans
      (State.idle_placesKept _ b)

theorem execTimerLimitChange_placesKept (x : LimitTarget) (h : execTimerLimitChange x s = .next t) :
    PlacesKept s t := by
  cases h
  cases x with
  | requestUnit =>
    dsimp only
    split
    · exact .refl s
    · exact ⟨rfl, fun _ => rfl, id⟩
  | driveUnit b =>
    dsimp only
    split
    · exact .refl s
    · exact (s.setBmail_placesKept b _ (by rfl)).trans (State.modUnit_placesKept _ b _ (by rfl))

/-! ### Releases at the drive unit (R128, R138, R140) -/

theorem State.releaseBegun_placesKept : PlacesKept s (s.releaseBegun b) := by
  have closed (u : State) : PlacesKept u (u.closeEngine b) := by
    unfold State.closeEngine
    exact (PlacesKept.foldl (fun (t : State) (x : Extent) => t.tellLm b (.extentFailed x.vol x.seg))
      (fun t _ => t.tellLm_placesKept b _) _ u).trans (State.modUnit_placesKept _ b _ (by rfl))
  have withdrawn (u : State) : PlacesKept u (u.withdrawQueue b) :=
    (PlacesKept.foldl (fun (t : State) (j : Job) => t.tellRu b (.withdrawn j.piece .bayReleased))
      (fun t _ => t.tellRu_placesKept b _) _ u).trans (State.modUnit_placesKept _ b _ (by rfl))
  exact (((s.modUnit_placesKept b _ (by rfl)).trans (closed _)).trans (withdrawn _)).trans
    (State.modUnit_placesKept _ b _ (by rfl))

theorem State.releaseBegun_state : ((s.releaseBegun b).unit b).state = (s.unit b).state := by
  have closed (u : State) : ((u.closeEngine b).unit b).state = (u.unit b).state := by
    rw [State.closeEngine, State.modUnit_unit, (u.reportExtents_reads b _).1]
  have withdrawn (u : State) : ((u.withdrawQueue b).unit b).state = (u.unit b).state := by
    rw [State.withdrawQueue, State.modUnit_unit, (u.tellRus_reads b _ _).1]
  rw [State.releaseBegun, State.modUnit_unit, withdrawn, closed, State.modUnit_unit]

theorem State.takeRelease_placesKept : PlacesKept s (s.takeRelease b) := by
  have begun := s.releaseBegun_placesKept b
  have state := s.releaseBegun_state b
  unfold State.takeRelease
  split
  · exact s.tellLm_placesKept b _
  · exact s.tellLm_placesKept b _
  · dsimp only
    rw [← State.releaseBegun]
    split
    · rename_i standby
      exact begun.trans (State.enterService_placesKept (by rw [state, standby]; decide))
    · rename_i fault
      exact begun.trans (State.enterService_placesKept (by rw [state, fault]; decide))
    · rename_i waits
      exact (begun.trans (State.tellArb_placesKept _ b rfl)).trans
        (State.enterService_placesKept (by rw [State.tellArb_unit, state, waits]; decide))
    · rename_i ready
      refine (begun.trans (State.releaseHand_placesKept _ b)).trans (State.releaseSpinDown_placesKept ?_)
      rw [State.releaseHand_unit]
      simp [state, ready]
    all_goals exact begun

theorem execReleaseTaken_placesKept (h : execReleaseTaken b s = .next t) : PlacesKept s t := by
  cases h
  split
  · exact (s.popLmToUnit_placesKept b _).trans (State.takeRelease_placesKept _ b)
  · exact .refl s

/-! ### Removal and insertion (R141, R142), and the service controls (R134 to R136) -/

theorem execPresenceLost_placesKept (h : execPresenceLost b s = .next t) : PlacesKept s t := by
  cases h
  split
  · exact s.setControls_placesKept b _
  · exact (s.setControls_placesKept b _).trans (State.enterAbsent_placesKept _ b)

theorem execPresenceGained_placesKept (h : execPresenceGained b s = .next t) : PlacesKept s t := by
  cases h
  split
  · rename_i absent
    refine ((s.setControls_placesKept b _).trans (State.modUnit_placesKept _ b _ (by rfl))).trans
      (State.enterIdentifying_placesKept ?_)
    rw [State.modUnit_unit]
    show (s.unit b).state ≠ _
    rw [absent]
    decide
  · exact s.setControls_placesKept b _

theorem execButtonPress_placesKept (h : execButtonPress b s = .next t) : PlacesKept s t := by
  cases h
  split
  · exact .refl s
  · exact (s.setControls_placesKept b _).trans (State.svcTellAgent_placesKept _ _ b)

theorem execHoldTimerExpiry_placesKept (h : execHoldTimerExpiry b s = .next t) : PlacesKept s t := by
  have forced (u : State) : PlacesKept u (u.override b) :=
    (u.svcTellAgent_placesKept _ b).trans (State.setBmail_placesKept _ b _ (by rfl))
  cases h
  split
  · dsimp only
    split
    · exact s.setControls_placesKept b _
    · exact s.setControls_placesKept b _
    all_goals exact (s.setControls_placesKept b _).trans (forced _)
  · exact .refl s

end Sys2Proof.Machine
end

section
/-! SUPPORT. The operations of the loan manager, of the request unit and of the node block keep every place: what they
send to a drive unit is neither a grant nor taken from it, and the agent they speak to asks for no budget. -/

namespace Sys2Proof.Machine

variable (s : State)

/-! ### Clearing and notices of the loan manager (R40, R115 to R117) -/

theorem State.clearNotice_placesKept (w : List Nat) (n : Notice) : PlacesKept s (s.clearNotice w n) := by
  have told : PlacesKept s (s.lmNotice n) := s.lmTellAgent_placesKept _
  unfold State.clearNotice
  split
  · exact told
  · exact told.trans (State.flushLm_placesKept _)

theorem State.grant_placesKept (v : Nat) : PlacesKept s (s.grant v) := (s.grant_unchanged v).placesKept (by simp)

theorem State.setVolume_placesKept (v : Nat) (e : Volume) : PlacesKept s (s.setVolume v e) :=
  (s.setVolume_unchanged v e).placesKept (by simp)

theorem State.setLmBay_placesKept (b : Bay) (x : LmBay) : PlacesKept s (s.setLmBay b x) :=
  (s.setLmBay_unchanged b x).placesKept (by simp)

theorem State.setClear_placesKept (r : SegRef) (c : ClearStatus) : PlacesKept s (s.setClear r c) :=
  (s.setClear_unchanged r c).placesKept (by simp)

theorem State.placeForNode_placesKept (n : Nat) (h : Header) : PlacesKept s (s.placeForNode n h) :=
  (s.placeForNode_unchanged n h).placesKept (by simp)

theorem State.examineClear_placesKept (v : Nat) : PlacesKept s (s.examineClear v) := by
  unfold State.examineClear
  split
  · exact .refl s
  · split
    · exact .refl s
    · split
      · exact ((s.setVolume_placesKept v _).trans (State.clearNotice_placesKept _ _ _)).trans
          (State.grant_placesKept _ v)
      · exact ((s.setVolume_placesKept v _).trans (State.clearNotice_placesKept _ _ _)).trans
          (.foldl _ (fun t r => (t.removeRecord_unchanged r true).placesKept (by simp)) _ _)

theorem State.setPending_placesKept (b : Bay) (q : List SegRef) : PlacesKept s (s.setPending b q) := by
  have h := s.setLmBay_placesKept b { s.lmBay b with pendingClear := q }
  unfold State.setPending
  dsimp only
  split
  · exact h
  · exact h.trans (State.lmSend_placesKept _ b _)

theorem State.listSegment_placesKept (b : Bay) (r : SegRef) : PlacesKept s (s.listSegment b r) := by
  unfold State.listSegment
  split
  · exact .refl s
  · split
    · exact ((s.setClear_placesKept r _).trans (State.setLmBay_placesKept _ b _)).trans (State.lmSend_placesKept _ b _)
    · exact (s.setClear_placesKept r _).trans (State.examineClear_placesKept _ _)

theorem State.listLoop_placesKept (b : Bay) (l : List SegRef) : PlacesKept s (State.listLoop b l s) := by
  induction l generalizing s with
  | nil => exact .refl s
  | cons r l ih =>
    unfold State.listLoop
    split
    · exact ((s.setPending_placesKept b l).trans (State.listSegment_placesKept _ b r)).trans (ih _)
    · exact .refl s

theorem State.listFromHead_placesKept (b : Bay) : PlacesKept s (s.listFromHead b) := s.listLoop_placesKept b _

theorem State.failPending_placesKept (b : Bay) : PlacesKept s (s.failPending b) :=
  (s.setPending_placesKept b []).trans
    (.foldl _ (fun t r => (t.setClear_placesKept r _).trans (State.examineClear_placesKept _ _)) _ _)

theorem State.toClearing_placesKept (v : Nat) : PlacesKept s (s.toClearing v) := by
  unfold State.toClearing
  split
  · exact .refl s
  · exact ((s.setVolume_placesKept v _).trans
      (.foldl _ (fun t (r : Bay × SegRef) => t.setPending_placesKept r.1 _) _ _)).trans
      (.foldl _ (fun t (r : Bay × SegRef) => t.listFromHead_placesKept r.1) _ _)

/-! ### Ending and freeing loans (R43 to R45) -/

theorem State.volumeFreed_placesKept (v : Nat) : PlacesKept s (s.volumeFreed v) := by
  unfold State.volumeFreed
  split
  · exact .refl s
  · split
    · split
      · exact (s.setVolume_placesKept v _).trans (State.toClearing_placesKept _ v)
      · exact (s.setVolume_placesKept v _).trans (State.grant_placesKept _ v)
    · exact (s.setVolume_placesKept v _).trans (State.grant_placesKept _ v)

theorem State.checkLmReset_placesKept : PlacesKept s s.checkLmReset := by
  unfold State.checkLmReset
  split
  · exact ((s.setLm_unchanged _).placesKept (by simp)).trans (State.lmTellAgent_placesKept _ _)
  · exact .refl s

theorem State.freeLoan_placesKept (i : Nat) : PlacesKept s (s.freeLoan i) := by
  unfold State.freeLoan
  split
  · exact .refl s
  · exact (((((s.setLm_unchanged _).trans (State.setGeneration_unchanged _ i _)).placesKept (by simp)).trans
      ((State.modNode_unchanged _ _ _).placesKept (by simp))).trans
      (State.volumeFreed_placesKept _ _)).trans
      (((State.retryGrants_unchanged _).placesKept (by simp)).trans (State.checkLmReset_placesKept _))

theorem State.freeIfQuiet_placesKept (i : Nat) : PlacesKept s (s.freeIfQuiet i) := by
  unfold State.freeIfQuiet
  split
  · exact .refl s
  · split
    · exact s.freeLoan_placesKept i
    · exact .refl s

theorem State.endWithNotice_placesKept (i : Nat) (r : EndReason) : PlacesKept s (s.endWithNotice i r) :=
  (s.endWithNotice_unchanged i r).placesKept (by simp)

theorem State.endAndFree_placesKept (i : Nat) (r : EndReason) :
    PlacesKept s ((s.endWithNotice i r).freeIfQuiet i) :=
  (s.endWithNotice_placesKept i r).trans (State.freeIfQuiet_placesKept _ i)

theorem State.expireTerm_placesKept (i : Nat) (l : Loan) : PlacesKept s (s.expireTerm i l) := by
  have told (t : State) : PlacesKept t (t.expiredNotice i l) := by
    unfold State.expiredNotice
    split
    · exact t.lmTellAgent_placesKept _
    · exact .refl t
  exact ((s.endWithNotice_placesKept i _).trans (told _)).trans (State.freeIfQuiet_placesKept _ i)

theorem State.returnLoan_placesKept (n : Nat) (h : Header) : PlacesKept s (s.returnLoan n h) := by
  unfold State.returnLoan
  split
  · exact s.placeForNode_placesKept _ _
  · split
    · exact s.placeForNode_placesKept _ _
    · exact (((s.setLoan_unchanged _ _).placesKept (by simp)).trans (State.placeForNode_placesKept _ _ _)).trans
        (State.freeIfQuiet_placesKept _ _)
    · exact (((s.setLoan_unchanged _ _).placesKept (by simp)).trans (State.placeForNode_placesKept _ _ _)).trans
        (State.freeIfQuiet_placesKept _ _)

theorem State.resetLoans_placesKept : PlacesKept s s.resetLoans := by
  have records := PlacesKept.foldl (fun (t : State) r => t.removeRecord r true)
    (fun t r => (t.removeRecord_unchanged r true).placesKept (by simp)) s.lm.waits.numbers s
  have ends (l : List Nat) (t : State) := PlacesKept.foldl _ (fun t i => t.endWithNotice_placesKept i .reset) l t
  have frees (l : List Nat) (t : State) := PlacesKept.foldl _ (fun t i => t.freeIfQuiet_placesKept i) l t
  exact ((((records.trans ((State.setLm_unchanged _ _).placesKept (by simp))).trans (ends _ _)).trans
    (frees _ _)).trans ((State.setLm_unchanged _ _).placesKept (by simp))).trans (State.checkLmReset_placesKept _)

theorem State.releaseLoanStep_placesKept (b : Bay) : PlacesKept s (s.releaseLoanStep b) :=
  .foldl _ (fun t i => t.endAndFree_placesKept i _) _ _

theorem State.forgetLoanStep_placesKept (n : Nat) : PlacesKept s (s.forgetLoanStep n) :=
  ((PlacesKept.foldl (fun (t : State) r => t.removeAndGrant r false)
      (fun t r => (t.removeAndGrant_unchanged r false).placesKept (by simp)) _ s).trans
    ((State.setLm_unchanged _ _).placesKept (by simp))).trans (.foldl _ (fun t i => t.freeLoan_placesKept i) _ _)

theorem State.beginRelease_placesKept (b : Bay) : PlacesKept s (s.beginRelease b) :=
  (((s.setLmBay_placesKept b _).trans (State.releaseLoanStep_placesKept _ b)).trans
    (State.failPending_placesKept _ b)).trans (State.lmSend_placesKept _ b _)

/-! ### Reports of the drive units to the loan manager (R117, R130, R131) -/

theorem State.takeHealth_placesKept (b : Bay) (st : DriveState) (d : Option Disk) (r : Bool) :
    PlacesKept s (s.takeHealth b st d r) := by
  have noted : PlacesKept s (if st = .absent then (s.noteHealth b st d).failPending b
      else s.noteHealth b st d) := by
    split
    · exact (s.setLmBay_placesKept b _).trans (State.failPending_placesKept _ b)
    · exact s.setLmBay_placesKept b _
  unfold State.takeHealth
  refine .trans ?_ (State.listFromHead_placesKept _ b)
  split
  · exact noted.trans (State.setLmBay_placesKept _ b _)
  · exact noted

theorem State.extentEnds_placesKept (b : Bay) (r : SegRef) (c : ClearStatus) : PlacesKept s (s.extentEnds b r c) :=
  (((s.setClear_placesKept r c).trans (State.setLmBay_placesKept _ b _)).trans
    (State.examineClear_placesKept _ r.vol)).trans (State.listFromHead_placesKept _ b)

/-! ### Requests and pieces (R57, R70 to R79) -/

theorem State.setRequest_placesKept (r : Nat) (q : Request) : PlacesKept s (s.setRequest r q) :=
  (s.setRequest_unchanged r q).placesKept (by simp)

theorem State.setPiece_placesKept (n : Nat) (x : Piece) : PlacesKept s (s.setPiece n x) :=
  (s.setPiece_unchanged n x).placesKept (by simp)

theorem State.refuse_placesKept (n : Nat) (p : Port) (tag : BitVec 8) (h : BitVec 16) (k : ReqKind) (c : Code) :
    PlacesKept s (s.refuse n p tag h k c) := (s.refuse_unchanged n p tag h k c).placesKept (by simp)

theorem State.leaveDelivery_placesKept (p : Port) (n : Nat) : PlacesKept s (s.leaveDelivery p n) :=
  (s.leaveDelivery_unchanged p n).placesKept (by simp)

theorem State.admitCuts_placesKept (a : Admitting) (r : Nat) (l : List Cut) (ns : List Nat) :
    PlacesKept s (State.admitCuts a r l s ns).1 := by
  induction l generalizing s ns with
  | nil => exact .refl s
  | cons c l ih =>
    unfold State.admitCuts
    split
    · exact .refl s
    · exact (((s.setPiece_placesKept _ _).trans ((State.setRu_unchanged _ _).placesKept (by simp))).trans
        (State.ruSend_placesKept _ _ _)).trans (ih _ _)

theorem State.admitRequest_placesKept (a : Admitting) : PlacesKept s (s.admitRequest a) := by
  unfold State.admitRequest
  split
  · exact .refl s
  · exact ((s.admitCuts_placesKept a _ _ _).trans (State.setRequest_placesKept _ _ _)).trans
      ((State.modNode_unchanged _ _ _).placesKept (by simp))

theorem State.ruShareEnds_placesKept (r : Nat) : PlacesKept s (s.ruShareEnds r) := by
  unfold State.ruShareEnds
  split
  · exact .refl s
  · split
    · exact ((s.setRu_unchanged _).placesKept (by simp)).trans (State.ruTellAgent_placesKept _ _)
    · exact (s.setRu_unchanged _).placesKept (by simp)

theorem State.finish_placesKept (r : Nat) (q : Request) : PlacesKept s (s.finish r q) :=
  (((((s.place_unchanged _ _).placesKept (by simp)).trans ((State.setRu_unchanged _ _).placesKept (by simp))).trans
    ((State.lowerLoan_unchanged _ _).placesKept (by simp))).trans
    ((State.lowerNode_unchanged _ _ _).placesKept (by simp))).trans (State.ruShareEnds_placesKept _ _)

theorem State.finishIfFinal_placesKept (r : Nat) : PlacesKept s (s.finishIfFinal r) := by
  unfold State.finishIfFinal
  split
  · exact .refl s
  · split
    · exact s.finish_placesKept r _
    · exact .refl s

theorem State.placeData_placesKept (p : Port) (n : Nat) (pc : Piece) (q : Request) (k i : Nat) (m : Bool) :
    PlacesKept s (s.placeData p n pc q k i m) := by
  unfold State.placeData
  dsimp only
  split
  · exact (((((s.place_unchanged _ _).placesKept (by simp)).trans (State.setPiece_placesKept _ _ _)).trans
      (State.leaveDelivery_placesKept _ _ _)).trans (State.ruSend_placesKept _ _ _)).trans
      (State.finishIfFinal_placesKept _ _)
  · exact ((s.place_unchanged _ _).placesKept (by simp)).trans (State.setPiece_placesKept _ _ _)

theorem State.deliverLoop_placesKept (p : Port) (n : Nat) : PlacesKept s (State.deliverLoop p n s) := by
  induction n generalizing s with
  | zero => exact .refl s
  | succ n ih =>
    unfold State.deliverLoop
    split
    · exact .refl s
    · split
      · exact (s.leaveDelivery_placesKept p _).trans (ih _)
      · split
        · split
          · exact (s.placeData_placesKept p _ _ _ _ _ _).trans (ih _)
          · exact .refl s
        · exact (s.leaveDelivery_placesKept p _).trans (ih _)

theorem State.deliver_placesKept (p : Port) : PlacesKept s (s.deliver p) := s.deliverLoop_placesKept p _

theorem State.withdrawQueued_placesKept (q : Request) (r : FailReason) : PlacesKept s (s.withdrawQueued q r) := by
  refine .foldl _ (fun t n => ?_) _ _
  split
  · split
    · exact t.ruSend_placesKept _ _
    · exact .refl t
  · exact .refl t

theorem State.discardStaged_placesKept (p : Port) (n : Nat) : PlacesKept s (s.discardStaged p n) := by
  unfold State.discardStaged
  split
  · split
    · exact ((s.setPiece_placesKept n _).trans (State.leaveDelivery_placesKept _ p n)).trans
        (State.ruSend_placesKept _ _ _)
    all_goals exact .refl s
  · exact .refl s

theorem State.overrunRequest_placesKept (r : Nat) (q : Request) : PlacesKept s (s.overrunRequest r q) :=
  ((((s.setRequest_placesKept r _).trans
    (.foldl _ (fun t n => t.discardStaged_placesKept q.port n) _ _)).trans
    (State.withdrawQueued_placesKept _ _ _)).trans (State.finishIfFinal_placesKept _ r)).trans
    (State.deliver_placesKept _ _)

theorem State.abortTag_placesKept (n : Nat) (p : Port) (h : Header) : PlacesKept s (s.abortTag n p h) := by
  unfold State.abortTag
  split
  · exact (s.place_unchanged p _).placesKept (by simp)
  · split
    · exact .refl s
    all_goals exact (s.setRequest_placesKept _ _).trans (State.withdrawQueued_placesKept _ _ _)

/-! ### Reports of the drive units to the request unit (R68, R69, R75) -/

theorem State.endPiece_placesKept (n : Nat) (pc : Piece) (st : PieceState) (d : Nat) :
    PlacesKept s (s.endPiece n pc st d) :=
  (s.setPiece_placesKept n _).trans (State.finishIfFinal_placesKept _ _)

theorem State.pieceStarted_placesKept (r : PieceRef) : PlacesKept s (s.pieceStarted r) := by
  unfold State.pieceStarted
  split
  · exact .refl s
  · split
    · exact (s.setPiece_placesKept _ _).trans ((State.requestRuns_unchanged _ _).placesKept (by simp))
    · exact .refl s

theorem State.pieceStaged_placesKept (r : PieceRef) (k : Nat) (m : Bool) : PlacesKept s (s.pieceStaged r k m) := by
  unfold State.pieceStaged
  split
  · exact .refl s
  · split
    · exact .refl s
    · split
      · exact .refl s
      · split
        · exact (s.ruSend_placesKept _ _).trans (State.endPiece_placesKept _ _ _ _ _)
        · exact ((s.setPiece_placesKept _ _).trans ((State.setDelivery_unchanged _ _ _).placesKept (by simp))).trans
            (State.deliver_placesKept _ _)

theorem State.pieceDone_placesKept (r : PieceRef) : PlacesKept s (s.pieceDone r) := by
  unfold State.pieceDone
  split
  · exact .refl s
  · split
    · exact .refl s
    · exact s.endPiece_placesKept _ _ _ _

theorem State.pieceFailed_placesKept (r : PieceRef) (f : FailReason) (d : Nat) :
    PlacesKept s (s.pieceFailed r f d) := by
  unfold State.pieceFailed
  split
  · exact .refl s
  · split
    · exact .refl s
    · exact .refl s
    · exact .refl s
    · split
      · exact .refl s
      · exact ((s.leaveDelivery_placesKept _ _).trans (State.endPiece_placesKept _ _ _ _ _)).trans
          (State.deliver_placesKept _ _)
    · exact ((s.requestRuns_unchanged _).placesKept (by simp)).trans (State.endPiece_placesKept _ _ _ _ _)
    · split
      · exact .refl s
      · split <;> exact s.endPiece_placesKept _ _ _ _

theorem State.pieceWithdrawn_placesKept (r : PieceRef) (f : FailReason) : PlacesKept s (s.pieceWithdrawn r f) := by
  unfold State.pieceWithdrawn
  split
  · exact .refl s
  · split
    · exact .refl s
    · exact s.endPiece_placesKept _ _ _ _

theorem State.resetRequest_placesKept (r : Nat) : PlacesKept s (s.resetRequest r) := by
  unfold State.resetRequest
  split
  · exact .refl s
  · exact (s.setRequest_placesKept _ _).trans (State.withdrawQueued_placesKept _ _ _)

theorem State.resetRequests_placesKept : PlacesKept s s.resetRequests := by
  have h := PlacesKept.foldl _ (fun t r => t.resetRequest_placesKept r) s.ru.requests.numbers s
  unfold State.resetRequests
  dsimp only
  split
  · exact h.trans (State.ruTellAgent_placesKept _ _)
  · exact h.trans ((State.setRu_unchanged _ _).placesKept (by simp))

/-! ### The node block (R147 to R154) -/

theorem State.haltNode_placesKept (p : Port) (f : InFrame) (n : Nat) (e : Node) (c : HaltCause) :
    PlacesKept s (s.haltNode p f n e c) := by
  have h := (((s.setPort_unchanged p ((s.port p).unclaim f)).placesKept (by simp)).trans
    ((State.setNode_unchanged _ n { e with state := .halted }).placesKept (by simp))).trans
    (State.nodeTellAgent_placesKept _ (.notice (.nodeHalted e.addr c p (f.kind.getD Config.absentKind) e.state)))
  unfold State.haltNode
  dsimp only
  split
  · exact h.trans (State.nodeTellAgent_placesKept _ _)
  · exact h

theorem State.nodeFrame_placesKept (p : Port) (f : InFrame) : PlacesKept s (s.nodeFrame p f) := by
  unfold State.nodeFrame
  split
  · exact (s.setPort_unchanged p _).placesKept (by simp)
  · split
    · exact (s.setPort_unchanged p _).placesKept (by simp)
    · split
      · exact s.haltNode_placesKept p f _ _ _
      · unfold State.passNodeFrame
        dsimp only
        split <;> exact ((s.setNode_unchanged _ _).placesKept (by simp)).trans
          ((State.setCls_unchanged _ _).placesKept (by simp))

theorem State.manageFrame_placesKept (p : Port) (f : InFrame) : PlacesKept s (s.manageFrame p f) := by
  unfold State.manageFrame
  split
  · exact (s.setCls_unchanged _).placesKept (by simp)
  · split
    · exact .refl s
    · split
      · exact (s.setCls_unchanged _).placesKept (by simp)
      · exact (s.setPort_unchanged p _).placesKept (by simp)

theorem State.quietNode_placesKept (n : Nat) : PlacesKept s (s.quietNode n) := by
  unfold State.quietNode
  split
  · exact .refl s
  · split
    · exact ((s.setNode_unchanged _ _).placesKept (by simp)).trans (State.nodeTellAgent_placesKept _ _)
    · exact .refl s

/-! ### The parameter set (R174) -/

theorem State.paramsWritten_placesKept (p : ParamBlock) : PlacesKept s (s.paramsWritten p) := by
  have sent (u : State) : PlacesKept u (u.sendParams p) := by
    have bays : PlacesKept u (u.baysSent p) := by
      unfold State.baysSent
      exact .foldl _ (fun t b => t.setBmail_placesKept b _ (by rfl)) _ u
    rw [u.sendParams_eq]
    exact (bays.trans ((State.limitSent_parts _ p).placesKept (by simp))).trans
      ((State.thresholdsSent_parts _ p).placesKept (by simp))
  exact (s.setAgent_placesKept _ (by rfl)).trans (sent _)

theorem State.applyParams_placesKept (tag : BitVec 8) (p : ParamBlock) : PlacesKept s (s.applyParams tag p) :=
  (s.paramsWritten_placesKept p).trans (State.answer_placesKept _ _)

/-! ### What a management request shares (R168, R172) -/

theorem State.freeClassifier_placesKept : PlacesKept s s.freeClassifier :=
  s.freeClassifier_unchanged.placesKept (by simp)

theorem State.discardManage_placesKept (p : Port) : PlacesKept s (s.discardManage p) :=
  (s.setPort_unchanged p _).placesKept (by simp)

theorem State.setManagerPort_placesKept (p : Port) : PlacesKept s (s.setManagerPort p) := by
  unfold State.setManagerPort
  split
  · exact s.setAgent_placesKept _ (by rfl)
  · exact .refl s

theorem State.manage_placesKept (code : Byte) (act : Header → List Byte → State → State)
    (ha : ∀ h bs u, PlacesKept u (act h bs u)) : PlacesKept s (s.manage code act) := by
  have free := s.freeClassifier_placesKept
  unfold State.manage
  split
  · rename_i p f h _
    split
    · unfold State.takeManage
      dsimp only
      split
      · exact free.trans (State.discardManage_placesKept _ p)
      · have k := free.trans (State.setManagerPort_placesKept _ p)
        split
        · exact k.trans (ha _ _ _)
        · exact k.trans (State.answer_placesKept _ _)
    · exact .refl s
  · exact .refl s

theorem State.reply_placesKept (h : Header) (c : Code) : PlacesKept s (s.reply h c) := s.answer_placesKept _

theorem State.lmStatus_placesKept (h : Header) (c : Code) : PlacesKept s (s.lmStatus h c) :=
  (s.setWait_placesKept _).trans (State.lmTellAgent_placesKept _ _)

theorem State.nodeStatus_placesKept (h : Header) (c : Code) : PlacesKept s (s.nodeStatus h c) :=
  (s.setWait_placesKept _).trans (State.nodeTellAgent_placesKept _ _)

theorem State.unitStatus_placesKept (b : Bay) (a : Answer) : PlacesKept s (s.unitStatus b a) :=
  (s.setWait_placesKept _).trans (State.unitTellAgent_placesKept _ _ b)

theorem State.svcStatus_placesKept (b : Bay) (a : Answer) : PlacesKept s (s.svcStatus b a) :=
  (s.setWait_placesKept _).trans (State.svcTellAgent_placesKept _ _ b)

/-- A request to a bay: it is kept apart from bays that do not exist (R168). -/
theorem State.manageBay_placesKept (code : Byte) (act : Header → Bay → State → State)
    (ha : ∀ h b u, PlacesKept u (act h b u)) : PlacesKept s (s.manage code fun h _ t => t.onBay h (act h)) := by
  refine s.manage_placesKept code _ fun h _ u => ?_
  unfold State.onBay
  split
  · exact ha h _ u
  · exact u.reply_placesKept _ _

end Sys2Proof.Machine
end

section
/-! SUPPORT. Every command and every step keeps the law of spin-up places (O56). -/

namespace Sys2Proof.Machine

variable (s t : State) (b : Bay)

/-! ### The classifier, the node block and the lending protocol -/

theorem execClassifyFrame_placesKept (h : execClassifyFrame s = .next t) : PlacesKept s t := by
  cases h
  split
  · split
    · exact .refl s
    · rename_i p f rest _ _ _
      have k := ((s.setPort_unchanged p ((s.port p).takeOldest f rest s.now)).placesKept (by simp)).trans
        ((State.setCls_unchanged _ { s.cls with lastServed := p }).placesKept (by simp))
      dsimp only
      split
      · exact k.trans (State.manageFrame_placesKept _ p f)
      · exact k.trans (State.nodeFrame_placesKept _ p f)
  · exact .refl s

theorem execNodeQuiet_placesKept (h : execNodeQuiet s = .next t) : PlacesKept s t := by
  cases h
  split
  · exact .refl s
  · exact (s.setMail_placesKept _).trans (State.quietNode_placesKept _ _)

theorem execReturnLoan_placesKept (h : execReturnLoan s = .next t) : PlacesKept s t := by
  cases h
  split
  · exact .refl s
  · exact s.freeClassifier_placesKept.trans (State.returnLoan_placesKept _ _ _)

theorem execLoanQuiet_placesKept (h : execLoanQuiet s = .next t) : PlacesKept s t := by
  cases h
  split
  · exact .refl s
  · rename_i rest _
    have k := s.setMail_placesKept { s.mail with quietLoans := rest }
    dsimp only
    split
    · split
      · exact k.trans (State.freeLoan_placesKept _ _)
      · exact k
    · exact k

theorem execTermExpiry_placesKept (i : Nat) (h : execTermExpiry i s = .next t) : PlacesKept s t := by
  cases h
  split
  · exact .refl s
  · split
    · exact s.expireTerm_placesKept i _
    · exact .refl s

theorem execGraceExpiry_placesKept (i : Nat) (h : execGraceExpiry i s = .next t) : PlacesKept s t := by
  cases h
  split
  · exact .refl s
  · split
    · split
      · exact s.endAndFree_placesKept i _
      · exact .refl s
    · exact .refl s
    · exact .refl s

theorem execLoanManagerReset_placesKept (h : execLoanManagerReset s = .next t) : PlacesKept s t := by
  cases h
  split
  · exact (s.setMail_placesKept _).trans (State.resetLoans_placesKept _)
  · exact .refl s

/-! ### Block requests -/

theorem execAbort_placesKept (h : execAbort s = .next t) : PlacesKept s t := by
  cases h
  split
  · exact .refl s
  · exact s.freeClassifier_placesKept.trans (State.abortTag_placesKept _ _ _ _)

theorem execClaimAnswer_placesKept (h : execClaimAnswer s = .next t) : PlacesKept s t := by
  cases h
  split
  · have taken (x : RequestUnit) (m : Mail) : PlacesKept s { s with ru := x, mail := m } :=
      ⟨rfl, fun _ => rfl, id⟩
    dsimp only
    split
    · exact (taken _ _).trans (State.admitRequest_placesKept _ _)
    · exact (taken _ _).trans (State.refuse_placesKept _ _ _ _ _ _ _)
  · exact .refl s

theorem execPieceStartedReport_placesKept (h : execPieceStartedReport b s = .next t) : PlacesKept s t := by
  cases h
  split
  · exact (s.popUnitReport_placesKept b _).trans (State.pieceStarted_placesKept _ _)
  · exact .refl s

theorem execPieceStagedReport_placesKept (h : execPieceStagedReport b s = .next t) : PlacesKept s t := by
  cases h
  split
  · exact (s.popUnitReport_placesKept b _).trans (State.pieceStaged_placesKept _ _ _ _)
  · exact .refl s

theorem execPieceDoneReport_placesKept (h : execPieceDoneReport b s = .next t) : PlacesKept s t := by
  cases h
  split
  · exact (s.popUnitReport_placesKept b _).trans (State.pieceDone_placesKept _ _)
  · exact .refl s

theorem execPieceFailedReport_placesKept (h : execPieceFailedReport b s = .next t) : PlacesKept s t := by
  cases h
  split
  · exact (s.popUnitReport_placesKept b _).trans (State.pieceFailed_placesKept _ _ _ _)
  · exact .refl s

theorem execPieceWithdrawnReport_placesKept (h : execPieceWithdrawnReport b s = .next t) : PlacesKept s t := by
  cases h
  split
  · exact (s.popUnitReport_placesKept b _).trans (State.pieceWithdrawn_placesKept _ _ _)
  · exact .refl s

theorem execWithdrawalAnswer_placesKept (h : execWithdrawalAnswer b s = .next t) : PlacesKept s t := by
  cases h
  split
  · exact s.popUnitReport_placesKept b _
  · exact .refl s

theorem State.deliverAfterReport_placesKept (p : Port) (l : List PortToRu) :
    PlacesKept s ((s.popPortReport p l).deliver p) :=
  ((s.setPmail_unchanged p _).placesKept (by simp)).trans (State.deliver_placesKept _ p)

theorem execEgressRoom_placesKept (p : Port) (h : execEgressRoom p s = .next t) : PlacesKept s t := by
  cases h
  split
  · exact s.deliverAfterReport_placesKept p _
  · exact .refl s

theorem execPortLinkChange_placesKept (p : Port) (h : execPortLinkChange p s = .next t) : PlacesKept s t := by
  cases h
  split
  · exact s.deliverAfterReport_placesKept p _
  · exact s.deliverAfterReport_placesKept p _
  · exact .refl s

theorem execDeliveryTimerExpiry_placesKept (n : Nat) (h : execDeliveryTimerExpiry n s = .next t) :
    PlacesKept s t := by
  cases h
  split
  · exact .refl s
  · split
    · split
      · exact s.overrunRequest_placesKept _ _
      · exact .refl s
    · exact .refl s

theorem execRequestUnitReset_placesKept (h : execRequestUnitReset s = .next t) : PlacesKept s t := by
  cases h
  split
  · exact (s.setMail_placesKept _).trans (State.resetRequests_placesKept _)
  · exact .refl s

/-! ### Reports to the loan manager, and forced releases -/

theorem execHealthReport_placesKept (h : execHealthReport b s = .next t) : PlacesKept s t := by
  cases h
  split
  · exact (s.popUnitToLm_placesKept b _).trans (State.takeHealth_placesKept _ b _ _ _)
  · exact .refl s

theorem execReleaseEndReport_placesKept (h : execReleaseEndReport b s = .next t) : PlacesKept s t := by
  cases h
  split
  · exact (s.popUnitToLm_placesKept b _).trans (State.setLmBay_placesKept _ b _)
  · exact (s.popUnitToLm_placesKept b _).trans (State.takeHealth_placesKept _ b _ _ _)
  · exact .refl s

theorem execExtentDone_placesKept (h : execExtentDone b s = .next t) : PlacesKept s t := by
  cases h
  split
  · exact (s.popUnitToLm_placesKept b _).trans (State.extentEnds_placesKept _ b _ _)
  · exact .refl s

theorem execExtentFailed_placesKept (h : execExtentFailed b s = .next t) : PlacesKept s t := by
  cases h
  split
  · exact (s.popUnitToLm_placesKept b _).trans (State.extentEnds_placesKept _ b _ _)
  · exact .refl s

theorem execServiceOverride_placesKept (h : execServiceOverride b s = .next t) : PlacesKept s t := by
  cases h
  split
  · exact .refl s
  · have k := s.setBmail_placesKept b { s.bmail b with overrides := (s.bmail b).overrides - 1 } rfl
    dsimp only
    split
    · exact k
    · exact k.trans (State.beginRelease_placesKept _ b)

/-! ### Management requests of the agent -/

theorem execBadRequest_placesKept (h : execBadRequest s = .next t) : PlacesKept s t := by
  have free := s.freeClassifier_placesKept
  cases h
  split
  · exact .refl s
  · split
    · exact free
    · split
      · exact free.trans (State.discardManage_placesKept _ _)
      · split
        · exact .refl s
        · exact (free.trans (State.setManagerPort_placesKept _ _)).trans (State.reply_placesKept _ _ _)

theorem State.attach_placesKept (p : Port) (src : Addr) (h : Header) : PlacesKept s (s.attach p src h) := by
  unfold State.attach
  split
  · exact (s.setAgent_placesKept _ (by rfl)).trans (State.answer_placesKept _ _)
  · split
    · exact (s.setManagerPort_placesKept p).trans (State.answer_placesKept _ _)
    · exact s.answer_placesKept _

theorem execAttach_placesKept (h : execAttach s = .next t) : PlacesKept s t := by
  cases h
  split
  · split
    · exact s.freeClassifier_placesKept.trans (State.attach_placesKept _ _ _ _)
    · exact .refl s
  · exact .refl s

theorem execDetach_placesKept (h : execDetach s = .next t) : PlacesKept s t := by
  cases h
  exact s.manage_placesKept _ _ fun h _ u => ((u.reply_placesKept h .ok).trans
    (State.setAgent_placesKept _ _ (by rfl))).trans (State.settleMail_placesKept _ _ _)

theorem execReadVolume_placesKept (h : execReadVolume s = .next t) : PlacesKept s t := by
  cases h
  refine s.manage_placesKept _ _ fun h _ u => ?_
  unfold State.readVolume
  split
  · exact u.reply_placesKept _ _
  · split
    · exact u.reply_placesKept _ _
    · exact u.answer_placesKept _

theorem execReadLoan_placesKept (h : execReadLoan s = .next t) : PlacesKept s t := by
  cases h
  refine s.manage_placesKept _ _ fun h _ u => ?_
  unfold State.readLoan
  split
  · exact u.reply_placesKept _ _
  · split <;> exact u.answer_placesKept _

/-- A budget waits for the arbiter only when it has passed the tests of its range (R174). -/
theorem execSetParams_placesKept (h : execSetParams s = .next t) : PlacesKept s t := by
  cases h
  refine s.manage_placesKept _ _ fun h bs u => ?_
  split
  · unfold State.setParams
    split
    · exact u.reply_placesKept _ _
    · rename_i p _ accepted
      split
      · rename_i carried
        refine u.setWait_placesKept _ fun tag q asked => ?_
        cases asked
        have accepts : u.agent.params.accepts p = true := by simpa using accepted
        exact ((ParamBlock.inRange_iff p).1 ((Params.accepts_iff _ p).1 accepts).1).1 carried
      · exact u.applyParams_placesKept _ _
  · exact .refl u

theorem State.gotCounters_placesKept (h : Header) (zero : Bool) (asked : List CounterUnit) (got : Tbl (List Byte)) :
    PlacesKept s (s.gotCounters h zero asked got) := by
  unfold State.gotCounters
  split
  · exact (s.setWait_placesKept _).trans (State.answer_placesKept _ _)
  · exact s.setWait_placesKept _

theorem State.zeroCounters_placesKept (u : CounterUnit) : PlacesKept s (s.zeroCounters u) := by
  cases u with
  | port p => exact (s.setPort_unchanged p _).placesKept (by simp)
  | bay b =>
    exact s.modUnit_placesKept b (fun u => { u with mediaErrors := 0, timeouts := 0, spinUps := 0 }) rfl

theorem execCounterQuery_placesKept (u : CounterUnit) (h : execCounterQuery u s = .next t) : PlacesKept s t := by
  cases h
  split
  · split
    · split
      · exact (s.zeroCounters_placesKept u).trans (State.gotCounters_placesKept _ _ _ _ _)
      · exact s.gotCounters_placesKept _ _ _ _
    · exact .refl s
  all_goals exact .refl s

theorem execManagerNotice_placesKept (src : NoticeSource) (h : execManagerNotice src s = .next t) :
    PlacesKept s t := by
  cases h
  cases src with
  | loanManager =>
    dsimp only
    split
    · exact (s.takeNotice_placesKept _).trans (State.settleMail_placesKept _ _ _)
    · exact .refl s
  | nodeBlock =>
    dsimp only
    split
    · exact (s.takeNotice_placesKept _).trans (State.settleMail_placesKept _ _ _)
    · exact .refl s
  | driveUnit b =>
    dsimp only
    split
    · exact (s.takeNotice_placesKept _).trans (State.settleUnit_placesKept _ _ b)
    · exact .refl s
  | service b =>
    dsimp only
    split
    · exact (s.takeNotice_placesKept _).trans (State.settleSvc_placesKept _ _ b)
    · exact .refl s

theorem execResetPart_placesKept (h : execResetPart s = .next t) : PlacesKept s t := by
  cases h
  refine s.manage_placesKept _ _ fun h bs u => ?_
  split
  · exact u.reply_placesKept _ _
  · exact ⟨rfl, fun _ => rfl, id⟩

theorem execResetShareFinished_placesKept (x : ResetShare) (h : execResetShareFinished x s = .next t) :
    PlacesKept s t := by
  cases h
  cases x with
  | loanManager =>
    dsimp only
    split
    · exact (s.shareDone_placesKept _).trans (State.settleMail_placesKept _ _ _)
    · exact .refl s
  | requestUnit =>
    dsimp only
    split
    · exact (s.shareDone_placesKept _).trans (State.settleMail_placesKept _ _ _)
    · exact .refl s

/-! ### Management requests of the loan manager and of the node block -/

theorem execDefineVolume_placesKept (h : execDefineVolume s = .next t) : PlacesKept s t := by
  cases h
  refine s.manage_placesKept _ _ fun h bs u => ?_
  split
  · unfold State.define
    split
    · exact u.lmStatus_placesKept _ _
    · exact ((u.setVolume_placesKept _ _).trans ((State.noteDisks_unchanged _ _).placesKept (by simp))).trans
        (State.lmStatus_placesKept _ _ _)
  · exact .refl u

theorem execDeleteVolume_placesKept (h : execDeleteVolume s = .next t) : PlacesKept s t := by
  cases h
  refine s.manage_placesKept _ _ fun h bs u => ?_
  unfold State.deleteVolume
  split
  · exact u.lmStatus_placesKept _ _
  · split
    · exact u.lmStatus_placesKept _ _
    · split
      · exact u.lmStatus_placesKept _ _
      · exact ((u.eraseVolume_unchanged _).placesKept (by simp)).trans (State.lmStatus_placesKept _ _ _)

theorem execClearVolume_placesKept (h : execClearVolume s = .next t) : PlacesKept s t := by
  cases h
  refine s.manage_placesKept _ _ fun h bs u => ?_
  unfold State.clearVolume
  split
  · exact u.lmStatus_placesKept _ _
  · split
    · exact u.lmStatus_placesKept _ _
    · split
      · exact u.lmStatus_placesKept _ _
      · exact (u.toClearing_placesKept _).trans (State.lmStatus_placesKept _ _ _)

theorem execRecallLoan_placesKept (h : execRecallLoan s = .next t) : PlacesKept s t := by
  cases h
  refine s.manage_placesKept _ _ fun h bs u => ?_
  unfold State.recallLoan
  split
  · exact u.lmStatus_placesKept _ _
  · split
    · exact u.lmStatus_placesKept _ _
    · exact u.lmStatus_placesKept _ _
    · exact (((u.setLoan_unchanged _ _).placesKept (by simp)).trans (State.placeForNode_placesKept _ _ _)).trans
        (State.lmStatus_placesKept _ _ _)

theorem execReleaseBay_placesKept (h : execReleaseBay s = .next t) : PlacesKept s t := by
  cases h
  refine s.manage_placesKept _ _ fun h bs u => ?_
  unfold State.releaseBay
  split
  · exact u.lmStatus_placesKept _ _
  · split
    · exact u.lmStatus_placesKept _ _
    · split
      · exact u.lmStatus_placesKept _ _
      · exact (u.beginRelease_placesKept _).trans (State.lmStatus_placesKept _ _ _)

theorem State.nodeWritten_placesKept (n : Nat) (e : Node) (h : Header) (c : Code) :
    PlacesKept s ((s.setNode n e).nodeStatus h c) :=
  ((s.setNode_unchanged n e).placesKept (by simp)).trans (State.nodeStatus_placesKept _ h c)

theorem execAdmitNode_placesKept (h : execAdmitNode s = .next t) : PlacesKept s t := by
  cases h
  refine s.manage_placesKept _ _ fun h bs u => ?_
  unfold State.admitNode
  split
  · exact u.nodeStatus_placesKept _ _
  · split
    · exact u.nodeStatus_placesKept _ _
    · split
      · exact u.nodeStatus_placesKept _ _
      · exact u.nodeWritten_placesKept _ _ _ _

theorem execReadmitNode_placesKept (h : execReadmitNode s = .next t) : PlacesKept s t := by
  cases h
  refine s.manage_placesKept _ _ fun h bs u => ?_
  unfold State.readmitNode
  split
  · exact u.nodeStatus_placesKept _ _
  · split
    · exact u.nodeWritten_placesKept _ _ _ _
    · exact u.nodeWritten_placesKept _ _ _ _
    · exact u.nodeStatus_placesKept _ _
    · exact u.nodeStatus_placesKept _ _

theorem State.addEntry_placesKept (tag : BitVec 8) (w : EntryWork) : PlacesKept s (s.addEntry tag w) :=
  s.setAgent_placesKept _ (by rfl)

theorem execDrainNode_placesKept (h : execDrainNode s = .next t) : PlacesKept s t := by
  cases h
  refine s.manage_placesKept _ _ fun h bs u => ?_
  split
  · exact u.reply_placesKept _ _
  · unfold State.drainNode
    split
    · exact u.nodeStatus_placesKept _ _
    · split
      · exact u.nodeStatus_placesKept _ _
      · exact u.nodeStatus_placesKept _ _
      · exact u.addEntry_placesKept _ _
      · exact ((u.setNode_unchanged _ _).placesKept (by simp)).trans (State.setWait_placesKept _ _)

theorem execForgetNode_placesKept (h : execForgetNode s = .next t) : PlacesKept s t := by
  cases h
  refine s.manage_placesKept _ _ fun h bs u => ?_
  unfold State.forgetNode
  split
  · exact u.nodeStatus_placesKept _ _
  · split
    · exact u.nodeStatus_placesKept _ _
    · exact u.nodeStatus_placesKept _ _
    · exact u.setWait_placesKept _
    · exact u.setWait_placesKept _

theorem State.drainProceeds_placesKept (tag : BitVec 8) (a : Addr) (n : Nat) :
    PlacesKept s (s.drainProceeds tag a n) := by
  have goes (e : Node) (h : Header) : PlacesKept s
      (if e.outstanding = 0 then (s.setNode n { e with state := .drained }).nodeStatus h .ok
       else (s.setWait .free).addEntry tag (.drain a)) := by
    split
    · exact s.nodeWritten_placesKept _ _ _ _
    · exact (s.setWait_placesKept _).trans (State.addEntry_placesKept _ _ _)
  unfold State.drainProceeds
  dsimp only
  split
  · exact s.nodeStatus_placesKept _ _
  · split
    · exact goes _ _
    · exact goes _ _
    · exact s.nodeStatus_placesKept _ _
    · exact s.nodeStatus_placesKept _ _

theorem State.forgetProceeds_placesKept (tag : BitVec 8) (a : Addr) (n : Nat) :
    PlacesKept s (s.forgetProceeds tag a n) := by
  unfold State.forgetProceeds
  dsimp only
  split
  · exact s.nodeStatus_placesKept _ _
  · split
    · exact ((s.forgetLoanStep_placesKept _).trans ((State.eraseNode_unchanged _ _).placesKept (by simp))).trans
        (State.nodeStatus_placesKept _ _ _)
    · exact s.nodeStatus_placesKept _ _

theorem execOutstandingCountAnswer_placesKept (h : execOutstandingCountAnswer s = .next t) : PlacesKept s t := by
  cases h
  split
  · split
    · exact s.drainProceeds_placesKept _ _ _
    · exact .refl s
  · split
    · exact s.forgetProceeds_placesKept _ _ _
    · exact .refl s
  all_goals exact .refl s

theorem execReadNode_placesKept (h : execReadNode s = .next t) : PlacesKept s t := by
  cases h
  refine s.manage_placesKept _ _ fun h bs u => ?_
  unfold State.readNode
  split
  · exact u.nodeStatus_placesKept _ _
  · exact (u.setWait_placesKept _).trans (State.nodeTellAgent_placesKept _ _)

/-! ### Management requests of a bay -/

theorem execWakeDisk_placesKept (h : execWakeDisk s = .next t) : PlacesKept s t := by
  cases h
  refine s.manageBay_placesKept _ _ fun h b u => ?_
  unfold State.wakeDisk
  split
  · rename_i standby
    exact (State.wake_placesKept (by rw [standby]; decide)).trans (State.unitStatus_placesKept _ b _)
  · exact u.unitStatus_placesKept b _

theorem execSleepDisk_placesKept (h : execSleepDisk s = .next t) : PlacesKept s t := by
  cases h
  refine s.manageBay_placesKept _ _ fun h b u => ?_
  unfold State.sleepDisk
  split
  · rename_i sleeps
    have ready : (u.unit b).state = .ready := by
      simp only [DriveUnit.maySleep, Bool.and_eq_true, beq_iff_eq, and_assoc] at sleeps
      exact sleeps.1
    exact (State.spinDown_placesKept (by rw [ready]; decide)).trans (State.unitStatus_placesKept _ b _)
  · split <;> exact u.unitStatus_placesKept b _

theorem execAcceptDisk_placesKept (h : execAcceptDisk s = .next t) : PlacesKept s t := by
  cases h
  refine s.manageBay_placesKept _ _ fun h b u => ?_
  unfold State.acceptDisk
  split
  · rename_i fault
    have identifying : PlacesKept u (u.enterIdentifying b) :=
      State.enterIdentifying_placesKept (by rw [fault]; decide)
    exact (identifying.trans (State.tellLm_placesKept _ b _)).trans (State.unitStatus_placesKept _ b _)
  · exact u.unitStatus_placesKept b _

theorem execReadDisk_placesKept (h : execReadDisk s = .next t) : PlacesKept s t := by
  cases h
  exact s.manageBay_placesKept _ _ fun h b u => u.unitStatus_placesKept b _

theorem execAckService_placesKept (h : execAckService s = .next t) : PlacesKept s t := by
  cases h
  exact s.manageBay_placesKept _ _ fun h b u =>
    (u.setControls_placesKept b _).trans (State.svcStatus_placesKept _ b _)

/-! ### The spin-up arbiter (R109 to R113) -/

section Arbiter
variable {s} {t} {b} (law : SpinUpLaw s)
include law

theorem execSpinUpWanted_spinUpLaw (h : execSpinUpWanted b s = .next t) : SpinUpLaw t := by
  cases h
  split
  · rename_i oldest
    have popped := (s.popUnitToArb_placesKept b oldest rfl).spinUpLaw law
    dsimp only
    split
    · exact popped
    · rename_i new
      exact (popped.want (Bool.eq_false_iff.2 new)).arbGrant
  · exact law

theorem execWaitWithdrawn_spinUpLaw (h : execWaitWithdrawn b s = .next t) : SpinUpLaw t := by
  cases h
  split
  · rename_i oldest
    exact ((s.popUnitToArb_placesKept b oldest rfl).spinUpLaw law).withdraw
  · exact law

theorem execGrantDeclined_spinUpLaw (h : execGrantDeclined b s = .next t) : SpinUpLaw t := by
  cases h
  split
  · rename_i oldest
    exact (law.giveBack oldest rfl).arbGrant
  · exact law

theorem execSpinUpEnded_spinUpLaw (h : execSpinUpEnded b s = .next t) : SpinUpLaw t := by
  cases h
  split
  · rename_i oldest
    exact (law.giveBack oldest rfl).arbGrant
  · exact law

/-- A budget below the count is refused; any other lies in its range, and covers the places held (R113). -/
theorem execBudgetChange_spinUpLaw (h : execBudgetChange s = .next t) : SpinUpLaw t := by
  have ⟨_, _, _, _, _, budget⟩ := law
  cases h
  split
  · rename_i tag p asked
    split
    · exact ((s.setWait_placesKept _).trans (State.answer_placesKept _ _)).spinUpLaw law
    · rename_i covers
      exact ((State.setWait_placesKept _ _).trans (State.applyParams_placesKept _ _ _)).spinUpLaw
        (law.setBudget (budget tag p asked) (Nat.le_of_not_lt covers))
  all_goals exact law

end Arbiter

/-! ### Power-on (R179) -/

/-- No bay holds a place or waits, and none spins up. -/
theorem execPowerOn_spinUpLaw (present buttons : BitVec 24) (links : BitVec 4)
    (h : execPowerOn present buttons links s = .next t) : SpinUpLaw t := by
  cases h
  refine ⟨(by decide : 1 ≤ 4), (by decide : 4 ≤ 8), (by decide : 0 ≤ 4), List.nodup_nil, fun b => ?_,
    fun tag p asked => by cases asked⟩
  have unit : (State.powerOn present buttons links s.pending).unit b =
      DriveUnit.powerOn (present.getLsbD b.val) := getD_allBays b _ _
  have mail : (State.powerOn present buttons links s.pending).bmail b = {} := State.reset_bmail b
  have still : (DriveUnit.powerOn (present.getLsbD b.val)).state ≠ .spinningUp := by
    unfold DriveUnit.powerOn
    split <;> decide
  rw [State.placeTokens_eq, unit, mail, placeParts, if_neg still]
  rfl

/-! ### Every command, and a step -/

/-- Every command keeps the law: those of the arbiter by what they do to the places, and any other since it leaves
each place where it is. -/
theorem exec_spinUpLaw (i : Instr) (law : CommandLaw s) (places : SpinUpLaw s) (h : exec i s = .next t) :
    SpinUpLaw t := by
  have kept (k : PlacesKept s t) : SpinUpLaw t := k.spinUpLaw places
  cases i with
  | powerOn present buttons links => exact execPowerOn_spinUpLaw s t present buttons links h
  | linkDown p => exact kept ((execLinkDown_frame s t p h).placesKept (by simp))
  | linkUp p => exact kept ((execLinkUp_frame s t p h).placesKept (by simp))
  | ingressFrame p f => exact kept ((execIngressFrame_frame s t p f h).placesKept (by simp))
  | pauseRepeatExpiry p => exact kept ((execPauseRepeatExpiry_frame s t p h).placesKept (by simp))
  | receivedPause p time good => exact kept ((execReceivedPause_frame s t p time good h).placesKept (by simp))
  | receivedPauseEnd p => exact kept ((execReceivedPauseEnd_frame s t p h).placesKept (by simp))
  | transmissionEnd p => exact kept ((execTransmissionEnd_frame s t p h).placesKept (by simp))
  | thresholdsTaken p => exact kept ((execThresholdsTaken_frame s t p h).placesKept (by simp))
  | classifyFrame => exact kept (execClassifyFrame_placesKept s t h)
  | borrow => exact kept ((execBorrow_frame s t h).placesKept (by simp))
  | renew => exact kept ((execRenew_frame s t h).placesKept (by simp))
  | returnLoan => exact kept (execReturnLoan_placesKept s t h)
  | read => exact kept ((execRead_frame s t h).placesKept (by simp))
  | write => exact kept ((execWrite_frame s t h).placesKept (by simp))
  | check => exact kept ((execCheck_frame s t h).placesKept (by simp))
  | abort => exact kept (execAbort_placesKept s t h)
  | loanClaim => exact kept ((execLoanClaim_frame s t h).placesKept (by simp))
  | claimAnswer => exact kept (execClaimAnswer_placesKept s t h)
  | pieceAppend b => exact kept (execPieceAppend_placesKept s t b h)
  | pieceWithdrawal b => exact kept (execPieceWithdrawal_placesKept s t b h)
  | pieceStartedReport b => exact kept (execPieceStartedReport_placesKept s t b h)
  | pieceStagedReport b => exact kept (execPieceStagedReport_placesKept s t b h)
  | pieceDoneReport b => exact kept (execPieceDoneReport_placesKept s t b h)
  | pieceFailedReport b => exact kept (execPieceFailedReport_placesKept s t b h)
  | pieceWithdrawnReport b => exact kept (execPieceWithdrawnReport_placesKept s t b h)
  | withdrawalAnswer b => exact kept (execWithdrawalAnswer_placesKept s t b h)
  | egressRoom p => exact kept (execEgressRoom_placesKept s t p h)
  | deliveryTimerExpiry piece => exact kept (execDeliveryTimerExpiry_placesKept s t piece h)
  | loanQuiet => exact kept (execLoanQuiet_placesKept s t h)
  | waitTimerExpiry record => exact kept ((execWaitTimerExpiry_frame s t record h).placesKept (by simp))
  | termExpiry entry => exact kept (execTermExpiry_placesKept s t entry h)
  | graceExpiry entry => exact kept (execGraceExpiry_placesKept s t entry h)
  | healthReport b => exact kept (execHealthReport_placesKept s t b h)
  | extentDone b => exact kept (execExtentDone_placesKept s t b h)
  | extentFailed b => exact kept (execExtentFailed_placesKept s t b h)
  | pendingClearReport b => exact kept (execPendingClearReport_placesKept s t b h)
  | clearExtent b => exact kept (execClearExtent_placesKept s t b h)
  | gatherTimerExpiry b => exact kept (execGatherTimerExpiry_placesKept s t b h)
  | stagingEmptied b => exact kept (execStagingEmptied_placesKept s t b h)
  | identifyCompletion b number o => exact kept (execIdentifyCompletion_placesKept law number o h)
  | fetchCompletion b number o => exact kept (execFetchCompletion_placesKept law number o h)
  | storeCompletion b number o => exact kept (execStoreCompletion_placesKept law number o h)
  | probeCompletion b number o => exact kept (execProbeCompletion_placesKept law number o h)
  | zeroCompletion b number o => exact kept (execZeroCompletion_placesKept law number o h)
  | spinUpCompletion b number o => exact kept (execSpinUpCompletion_placesKept law number o h)
  | spinDownCompletion b number o => exact kept (execSpinDownCompletion_placesKept law number o h)
  | commandTimerExpiry b => exact kept (execCommandTimerExpiry_placesKept s t b h)
  | spinUpLimitExpiry b => exact kept (execSpinUpLimitExpiry_placesKept s t b h)
  | linkLost b => exact kept (execLinkLost_placesKept s t b h)
  | idleTimerExpiry b => exact kept (execIdleTimerExpiry_placesKept law h)
  | spinUpGrant b => exact kept (execSpinUpGrant_placesKept s t b h)
  | spinUpWanted b => exact execSpinUpWanted_spinUpLaw places h
  | waitWithdrawn b => exact execWaitWithdrawn_spinUpLaw places h
  | grantDeclined b => exact execGrantDeclined_spinUpLaw places h
  | spinUpEnded b => exact execSpinUpEnded_spinUpLaw places h
  | budgetChange => exact execBudgetChange_spinUpLaw places h
  | pauseAllowanceChange b => exact kept (execPauseAllowanceChange_placesKept s t b h)
  | keepSpinningChange b => exact kept (execKeepSpinningChange_placesKept s t b h)
  | buttonPress b => exact kept (execButtonPress_placesKept s t b h)
  | buttonRelease b => exact kept ((execButtonRelease_frame s t b h).1.placesKept (by simp))
  | holdTimerExpiry b => exact kept (execHoldTimerExpiry_placesKept s t b h)
  | serviceOverride b => exact kept (execServiceOverride_placesKept s t b h)
  | releaseTaken b => exact kept (execReleaseTaken_placesKept s t b h)
  | releaseEndReport b => exact kept (execReleaseEndReport_placesKept s t b h)
  | presenceLost b => exact kept (execPresenceLost_placesKept s t b h)
  | presenceGained b => exact kept (execPresenceGained_placesKept s t b h)
  | nodeQuiet => exact kept (execNodeQuiet_placesKept s t h)
  | outstandingCountAnswer => exact kept (execOutstandingCountAnswer_placesKept s t h)
  | managerNotice from_ => exact kept (execManagerNotice_placesKept s t from_ h)
  | resetShareFinished share => exact kept (execResetShareFinished_placesKept s t share h)
  | badRequest => exact kept (execBadRequest_placesKept s t h)
  | attach => exact kept (execAttach_placesKept s t h)
  | detach => exact kept (execDetach_placesKept s t h)
  | identify =>
    cases h
    exact kept (s.manage_placesKept _ _ fun h _ u => u.answer_placesKept _)
  | setParams => exact kept (execSetParams_placesKept s t h)
  | readParams =>
    cases h
    exact kept (s.manage_placesKept _ _ fun h _ u => u.answer_placesKept _)
  | readCounters =>
    cases h
    exact kept (s.manage_placesKept _ _ fun h _ u => u.setWait_placesKept _)
  | counterQuery u => exact kept (execCounterQuery_placesKept s t u h)
  | resetPart => exact kept (execResetPart_placesKept s t h)
  | loanManagerReset => exact kept (execLoanManagerReset_placesKept s t h)
  | requestUnitReset => exact kept (execRequestUnitReset_placesKept s t h)
  | defineVolume => exact kept (execDefineVolume_placesKept s t h)
  | deleteVolume => exact kept (execDeleteVolume_placesKept s t h)
  | clearVolume => exact kept (execClearVolume_placesKept s t h)
  | readVolume => exact kept (execReadVolume_placesKept s t h)
  | recallLoan => exact kept (execRecallLoan_placesKept s t h)
  | readLoan => exact kept (execReadLoan_placesKept s t h)
  | releaseBay => exact kept (execReleaseBay_placesKept s t h)
  | admitNode => exact kept (execAdmitNode_placesKept s t h)
  | readmitNode => exact kept (execReadmitNode_placesKept s t h)
  | drainNode => exact kept (execDrainNode_placesKept s t h)
  | forgetNode => exact kept (execForgetNode_placesKept s t h)
  | readNode => exact kept (execReadNode_placesKept s t h)
  | wakeDisk => exact kept (execWakeDisk_placesKept s t h)
  | sleepDisk => exact kept (execSleepDisk_placesKept s t h)
  | acceptDisk => exact kept (execAcceptDisk_placesKept s t h)
  | readDisk => exact kept (execReadDisk_placesKept s t h)
  | ackService => exact kept (execAckService_placesKept s t h)
  | portLinkChange p => exact kept (execPortLinkChange_placesKept s t p h)
  | timerLimitChange x => exact kept (execTimerLimitChange_placesKept s t x h)

theorem step_spinUpLaw (law : CommandLaw s) (places : SpinUpLaw s) (h : step s = .next t) : SpinUpLaw t := by
  unfold step at h
  split at h
  · cases h
    exact places
  · rename_i i rest _
    exact exec_spinUpLaw { s with pending := rest } t i law places h

/-- Settles O56: a place is a grant, then a spin-up or a declined grant, then the report that gives it back, and the
arbiter grants no more of them than its budget. -/
theorem spinUpLawKept : Obligations.SpinUpLawKept := by
  intro s t law places h
  have kept := step_spinUpLaw s t law places h
  exact ⟨kept, kept.spinning_le⟩

end Sys2Proof.Machine
end

section
/-! SUPPORT. The extent being worked and the end of a sweep (R119, R127), the ends of a ZERO (R124, R125, R128), and
O39. -/

namespace Sys2Proof.Machine

/-! ### The extent being worked, the first CURRENT one (R119) -/

section Worked
variable {bf af : List Extent} {x : Extent} (before : ∀ y ∈ bf, y.current = false) (current : x.current = true)
include before current

theorem Engine.worked_of_split {e : Engine} (list : e.list = bf ++ x :: af) : e.worked = some x := by
  have absent : bf.find? (·.current) = none := List.find?_eq_none.2 fun y hy => by simp [before y hy]
  rw [Engine.worked, list, List.find?_append, absent, Option.none_or, List.find?_cons_of_pos current]

theorem dropWorked_append : dropWorked (bf ++ x :: af) = bf ++ af := by
  induction bf with
  | nil => simp [dropWorked, current]
  | cons y bf ih =>
    obtain ⟨first, rest⟩ := List.forall_mem_cons.1 before
    simp [dropWorked, first, ih rest]

theorem advanceWorked_append (k : Nat) :
    advanceWorked k (bf ++ x :: af) = bf ++ { x with progress := x.progress + k } :: af := by
  induction bf with
  | nil => simp [advanceWorked, current]
  | cons y bf ih =>
    obtain ⟨first, rest⟩ := List.forall_mem_cons.1 before
    simp [advanceWorked, first, ih rest]

end Worked

/-! ### The end of a sweep (R127) -/

/-- With a CURRENT extent left the sweep goes on; else the NEXT extents begin another, or the engine is EMPTY. -/
theorem Engine.sweepEnd_engineAfter (e : Engine) (rest : List Extent) :
    EngineAfter e (Engine.sweepEnd { e with list := rest }) rest := by
  unfold Engine.sweepEnd
  split
  · rename_i goesOn
    obtain ⟨y, hy, current⟩ := List.any_eq_true.1 goesOn
    exact ⟨rfl, fun _ => ⟨rfl, rfl⟩, fun empty => absurd hy (empty ▸ List.not_mem_nil), fun _ next =>
      absurd current (by simp [next y hy])⟩
  · rename_i ends
    have noCurrent : ¬ ∃ y ∈ rest, y.current = true := fun h => ends (List.any_eq_true.2 h)
    split
    · rename_i isEmpty
      have empty : rest = [] := List.isEmpty_iff.1 isEmpty
      exact ⟨rfl, fun h => absurd h noCurrent, fun _ => ⟨rfl, empty⟩, fun nonempty => absurd empty nonempty⟩
    · rename_i nonempty
      exact ⟨rfl, fun h => absurd h noCurrent, fun empty => absurd (List.isEmpty_iff.2 empty) nonempty,
        fun _ _ => ⟨rfl, sortExtents_spec rest⟩⟩

/-! ### The ends of a ZERO (R124, R125, R128) -/

section Zero
variable {s : State} {b : Bay} {n start len : Nat} {x : Extent}
  (flying : (s.unit b).inFlight = some (n, .zero start len)) (worked : (s.unit b).engine.worked = some x)
include flying worked

theorem State.exec_zero_good : exec (.zeroCompletion b n .good) s = .next (s.zeroed b x len) := by
  simp only [exec, execZeroCompletion, s.flying_of_inFlight b flying, worked]

theorem State.exec_zero_media {k : Nat} (hk : k < len) :
    exec (.zeroCompletion b n (.media k)) s = .next (s.zeroMedia b x) := by
  simp only [exec, execZeroCompletion, s.flying_of_inFlight b flying, worked, hk, if_true]

/-- A chunk that is good under a release fails its extent (R128). -/
theorem State.exec_zero_closed (closed : (s.unit b).engine.closed = true) : exec (.zeroCompletion b n .good) s =
    .next (((s.endCommand b).extentLeaves b (.extentFailed x.vol x.seg)).ready b) := by
  simp only [State.exec_zero_good flying worked, State.zeroed, closed, if_true]

variable (opened : (s.unit b).engine.closed = false)
include opened

/-- The last chunk of an extent ends it (R124). -/
theorem State.exec_zero_last (last : x.length ≤ x.progress + len) : exec (.zeroCompletion b n .good) s =
    .next (((s.endCommand b).extentLeaves b (.extentDone x.vol x.seg)).ready b) := by
  simp only [State.exec_zero_good flying worked, State.zeroed, opened, Bool.false_eq_true, if_false, last, if_true]

/-- Any other chunk raises the progress of its extent (R124). -/
theorem State.exec_zero_more (more : x.progress + len < x.length) : exec (.zeroCompletion b n .good) s =
    .next (((s.endCommand b).modUnit b fun u =>
      { u with engine := { u.engine with list := advanceWorked len u.engine.list } }).ready b) := by
  simp only [State.exec_zero_good flying worked, State.zeroed, opened, Bool.false_eq_true, if_false,
    if_neg (Nat.not_le.2 more)]

end Zero

/-- A unit followed to the end of its command that is then READY (R89, R138). -/
theorem State.BayIs.readyAs {s t : State} {b : Bay} {i : Instr} {v : DriveUnit} {m : BayMail}
    (h : s.BayIs t bayParts b (DriveUnit.quiet v) (s.controls b) m) (next : exec i s = .next (t.ready b)) :
    s.ReadyAs i b v m := s.readyAs_of_ready b next h.only h.unit h.controls h.mail

/-- A ZERO whose extent leaves the list `bf ++ x :: af` with a report, whatever the unit has counted before. -/
theorem State.BayIs.extentLeaves_readyAs {s t : State} {b : Bay} {i : Instr} {u : DriveUnit} {r : UnitToLm}
    {bf af : List Extent} {x : Extent} (h : s.BayIs t bayParts b u (s.controls b) (s.bmail b))
    (list : u.engine.list = bf ++ x :: af) (before : ∀ y ∈ bf, y.current = false) (current : x.current = true)
    (next : exec i s = .next (((t.endCommand b).extentLeaves b r).ready b)) :
    s.ReadyAs i b { u with engine := Engine.sweepEnd { u.engine with list := bf ++ af } }
      { s.bmail b with unitToLm := (s.bmail b).unitToLm ++ [r] } := by
  have left := (h.modUnit DriveUnit.endCommand).extentLeaves r
  rw [← dropWorked_append before current, ← list]
  exact State.BayIs.readyAs left next

/-- Settles O39: a good chunk raises the progress of the extent being worked; where the extent leaves, done or
failed, the engine goes on as `Engine.sweepEnd` says. -/
theorem zeroCompletion : Obligations.ZeroCompletion := by
  rintro s b _ n start len bf af x rfl flying list before current
  have worked := Engine.worked_of_split before current list
  have here := s.bayIs bayParts b
  refine ⟨fun opened more => ?_, _, Engine.sweepEnd_engineAfter _ _, fun opened last => ?_, fun closed => ?_,
    fun k hk => ?_⟩
  · have raised := (here.modUnit DriveUnit.endCommand).modUnit fun u =>
      { u with engine := { u.engine with list := advanceWorked len u.engine.list } }
    rw [← advanceWorked_append before current, ← list]
    exact State.BayIs.readyAs raised (State.exec_zero_more flying worked opened more)
  · exact here.extentLeaves_readyAs list before current (State.exec_zero_last flying worked opened last)
  · exact here.extentLeaves_readyAs list before current (State.exec_zero_closed flying worked closed)
  · have counted := here.modUnit fun u => { u with mediaErrors := bump u.mediaErrors }
    rw [← bump_eq]
    exact counted.extentLeaves_readyAs list before current (State.exec_zero_media flying worked hk)

end Sys2Proof.Machine
end

section
/-! SUPPORT. The release at a drive unit (R128, R138, R140), and O46. -/

namespace Sys2Proof.Machine

/-! ### The clear step (R128) -/

/-- The chunk in flight keeps its extent, and every other extent fails. -/
theorem DriveUnit.clearStep_of_chunk {u : DriveUnit} {n start len : Nat} {bf af : List Extent} {x : Extent}
    (flying : u.inFlight = some (n, .zero start len)) (list : u.engine.list = bf ++ x :: af)
    (before : ∀ y ∈ bf, y.current = false) (current : x.current = true) :
    u.releasedExtents = bf ++ af ∧ u.closedEngine = { state := .sweeping, list := [x], closed := true } := by
  have chunk : u.chunkFlying = true := by rw [DriveUnit.chunkFlying, flying]
  simp only [DriveUnit.releasedExtents, DriveUnit.closedEngine, chunk, if_true,
    Engine.worked_of_split before current list, list, dropWorked_append before current, and_self]

/-- With no chunk in flight every extent fails. -/
theorem DriveUnit.clearStep_of_noChunk {u : DriveUnit}
    (other : ∀ n start len, u.inFlight ≠ some (n, .zero start len)) :
    u.releasedExtents = u.engine.list ∧ u.closedEngine = { state := .empty, list := [], closed := true } := by
  have noChunk : u.chunkFlying = false := by
    unfold DriveUnit.chunkFlying
    split
    · rename_i n start len flying
      exact absurd flying (other n start len)
    · rfl
  simp only [DriveUnit.releasedExtents, DriveUnit.closedEngine, noChunk, Bool.false_eq_true, if_false, and_self]

/-! ### The steps of every release (R138 steps 1 and 2) -/

/-- The unit after the steps that do not depend on its state. -/
def DriveUnit.releaseBegun (u : DriveUnit) : DriveUnit :=
  { u with releaseUnderWay := true, queue := [], idleTimer := none, engine := u.closedEngine }

/-- The channels `m` after the reports of these steps: the failed extents and the withdrawn pieces. -/
def DriveUnit.releaseReports (u : DriveUnit) (m : BayMail) : BayMail :=
  { m with
    unitToLm := m.unitToLm ++ u.releasedExtents.map fun x => UnitToLm.extentFailed x.vol x.seg,
    unitToRu := m.unitToRu ++ u.queue.map fun j => UnitToRu.withdrawn j.piece .bayReleased }

namespace State.BayIs
variable {s t : State} {l : List Part} {b : Bay} {u : DriveUnit} {c : Service} {m : BayMail}

theorem reportExtents_of_mem (h : s.BayIs t l b u c m) (hl : Part.bayMail ∈ l) (xs : List Extent) :
    s.BayIs (t.reportExtents b xs) l b u c
      { m with unitToLm := m.unitToLm ++ xs.map fun x => UnitToLm.extentFailed x.vol x.seg } := by
  unfold State.reportExtents
  induction xs generalizing t m with
  | nil => simpa using h
  | cons x xs ih => simpa using ih (h.tellLm_of_mem hl (.extentFailed x.vol x.seg))

theorem tellRus_of_mem {α : Type} (h : s.BayIs t l b u c m) (hl : Part.bayMail ∈ l) (f : α → UnitToRu)
    (xs : List α) : s.BayIs (xs.foldl (fun t x => t.tellRu b (f x)) t) l b u c { m with unitToRu := m.unitToRu ++ xs.map f } := by
  induction xs generalizing t m with
  | nil => simpa using h
  | cons x xs ih => simpa using ih (h.tellRu_of_mem hl (f x))

variable (hu : Part.units ∈ l) (hm : Part.bayMail ∈ l)
include hu hm

theorem closeEngine_of_mem (h : s.BayIs t l b u c m) :
    s.BayIs (t.closeEngine b) l b { u with engine := u.closedEngine } c
    { m with unitToLm := m.unitToLm ++ u.releasedExtents.map fun x => UnitToLm.extentFailed x.vol x.seg } := by
  unfold State.closeEngine
  rw [h.unit]
  exact (h.reportExtents_of_mem hm _).modUnit_of_mem hu _

theorem withdrawQueue_of_mem (h : s.BayIs t l b u c m) : s.BayIs (t.withdrawQueue b) l b { u with queue := [] } c
    { m with unitToRu := m.unitToRu ++ u.queue.map fun j => UnitToRu.withdrawn j.piece .bayReleased } := by
  unfold State.withdrawQueue
  rw [h.unit]
  exact (h.tellRus_of_mem hm _ _).modUnit_of_mem hu _

theorem releaseBegun_of_mem (h : s.BayIs t l b u c m) :
    s.BayIs (t.releaseBegun b) l b (DriveUnit.releaseBegun u) c (DriveUnit.releaseReports u m) :=
  (((h.modUnit_of_mem hu fun u => { u with releaseUnderWay := true }).closeEngine_of_mem hu hm).withdrawQueue_of_mem
    hu hm).modUnit_of_mem hu fun u => { u with idleTimer := none }

end State.BayIs

/-! ### What follows in each state (R138, R140) -/

/-- A CHECK piece in hand ends by the release (R138). -/
theorem State.BayIs.releaseHand {s t : State} {b : Bay} {u : DriveUnit} {c : Service} {m : BayMail}
    (h : s.BayIs t bayParts b u c m) : s.BayIs (t.releaseHand b) bayParts b { u with hand := none } c
    { m with unitToRu := m.unitToRu ++ DriveUnit.handReleased u } :=
  ⟨h.only.trans (t.releaseHand_onlyBay b), by rw [t.releaseHand_unit, h.unit],
    by rw [t.releaseHand_controls, h.controls], by rw [t.releaseHand_bmail, h.mail, h.unit],
    by rw [t.releaseHand_now, h.now]⟩

/-- The release spin-down (R140). -/
theorem State.BayIs.releaseSpinDown {s t : State} {b : Bay} {u : DriveUnit} {c : Service} {m : BayMail}
    (h : s.BayIs t bayParts b u c m) : s.BayIs (t.releaseSpinDown b) bayParts b
    { DriveUnit.issuing u .spinDown s.now with state := .spinningDown } (c.outputs .spinningDown) m := by
  have k := (h.issue .spinDown).enter .spinningDown
  rwa [DriveUnit.issue_eq_issuing _ (by simp)] at k

/-- A unit with nothing in flight gives up a wait at the arbiter and enters SERVICE (R138, R140). -/
theorem State.BayIs.restingService {s t : State} {b : Bay} {u : DriveUnit} {c : Service} {m : BayMail}
    (h : s.BayIs t bayParts b u c m) (rests : u.state = .standby ∨ u.state = .wakeWait ∨ u.state = .fault) :
    s.BayIs ((t.leaveSpinUp b).enterService b) bayParts b
      { DriveUnit.quiet u with
        state := .service, releaseUnderWay := false, hand := none, queue := [], idleTimer := none,
        engine := { u.engine with closed := false } } (c.outputs .service)
      { m with
        unitToArb := m.unitToArb ++ (if u.state = .wakeWait then [.withdrawn] else []),
        unitToLm := m.unitToLm ++ (if u.state = .fault then [] else [.health .service u.disk false]) ++
          [.releaseEnd] } := by
  have k := h.leaveSpinUp.enterService
  rcases rests with state | state | state <;> simpa [state, DriveState.healthy] using k

section Taken
variable {s : State} {b : Bay}

theorem State.exec_releaseTaken {rest : List LmToUnit} (hm : (s.bmail b).lmToUnit = .release :: rest) :
    exec (.releaseTaken b) s = .next ((s.popLmToUnit b rest).takeRelease b) := by
  simp only [exec, execReleaseTaken, hm]

theorem State.takeRelease_noDisk (state : (s.unit b).state = .absent ∨ (s.unit b).state = .service) :
    s.takeRelease b = s.tellLm b .releaseEnd := by
  rcases state with state | state <;> simp only [State.takeRelease, state]

theorem State.takeRelease_running (state : (s.unit b).state = .identifying ∨ (s.unit b).state = .spinningUp ∨
    (s.unit b).state = .active ∨ (s.unit b).state = .spinningDown) : s.takeRelease b = s.releaseBegun b := by
  rcases state with state | state | state | state <;> simp only [State.takeRelease, state, State.releaseBegun]

theorem State.takeRelease_ready (state : (s.unit b).state = .ready) :
    s.takeRelease b = ((s.releaseBegun b).releaseHand b).releaseSpinDown b := by
  simp only [State.takeRelease, state, State.releaseBegun]

/-- From a state with nothing in flight SERVICE is entered at once; WAKE_WAIT gives up its wait first. -/
theorem State.takeRelease_resting (state : (s.unit b).state = .standby ∨ (s.unit b).state = .wakeWait ∨
    (s.unit b).state = .fault) : s.takeRelease b = ((s.releaseBegun b).leaveSpinUp b).enterService b := by
  have begun := s.releaseBegun_state b
  rcases state with state | state | state <;>
    simp only [State.takeRelease, State.leaveSpinUp, begun, state] <;> rfl

end Taken

/-- Settles O46: the steps of every release come first, and the state of the unit says what follows them. -/
theorem releaseTaken : Obligations.ReleaseTaken := by
  rintro s b _ v m rest left e rfl hm
  have next := State.exec_releaseTaken hm
  have taken (l : List Part) (hl : Part.bayMail ∈ l) := (s.bayIs l b).setBmail_of_mem hl
    { s.bmail b with lmToUnit := rest }
  have unit : (s.popLmToUnit b rest).unit b = s.unit b := s.popLmToUnit_unit b rest
  refine ⟨fun noDisk => ?_, fun clearStep hv hm => ?_⟩
  · rw [State.takeRelease_noDisk (by rwa [unit])] at next
    have told := (taken [.bayMail] (by simp)).tellLm_of_mem (by simp) .releaseEnd
    exact ⟨_, next, told.only, told.mail⟩
  · have cleared : (s.unit b).releasedExtents = left ∧ (s.unit b).closedEngine = e := by
      rcases clearStep with ⟨bf, x, af, n, start, len, flying, list, rfl, before, current, rfl⟩ |
        ⟨other, rfl, rfl⟩
      · exact DriveUnit.clearStep_of_chunk flying list before current
      · exact DriveUnit.clearStep_of_noChunk other
    obtain ⟨rfl, rfl⟩ := cleared
    subst hv hm
    have begun := (taken bayParts (by simp)).releaseBegun_of_mem (by simp) (by simp)
    refine ⟨fun st running state => ?_, fun ready => ?_, fun rests => ?_⟩
    · have k := (taken [.units, .bayMail] (by simp)).releaseBegun_of_mem (by simp) (by simp)
      rw [State.takeRelease_running (by rwa [unit, state])] at next
      exact ⟨_, next, k.only, k.unit, k.mail⟩
    · rw [State.takeRelease_ready (by rwa [unit])] at next
      exact ⟨_, next, begun.releaseHand.releaseSpinDown.becomes rfl rfl⟩
    · rw [State.takeRelease_resting (by rwa [unit])] at next
      exact ⟨_, next, (begun.restingService rests).becomes rfl rfl⟩

end Sys2Proof.Machine
end

section
/-! SUPPORT. The button of a bay at its service controls (R134 to R136), and O44. -/

namespace Sys2Proof.Machine

/-! ### The table of lock and lamp (R134) -/

theorem lockFor_locked {st : DriveState} (absent : st ≠ .absent) (service : st ≠ .service) :
    lockFor st = .locked := by
  cases st with
  | absent => exact absurd rfl absent
  | service => exact absurd rfl service
  | _ => rfl

theorem lampFor_flag (f : Bool) {st : DriveState} (absent : st ≠ .absent) (service : st ≠ .service) :
    lampFor f st = if f then .blinking else .off := by
  cases st with
  | absent => exact absurd rfl absent
  | service => exact absurd rfl service
  | _ => rfl

/-! ### What the controls present (R135, R136) -/

section Presented
variable {s t : State} {l : List Part} {b : Bay} {u : DriveUnit} {c : Service} {m : BayMail}

theorem State.BayIs.svcNotice_of_mem (h : s.BayIs t l b u c m) (hl : Part.bayMail ∈ l) (n : Notice)
    (settled : settledChannel m.svcToAgent = true) :
    s.BayIs (t.svcTellAgent b (.notice n)) l b u c { m with svcToAgent := m.svcToAgent ++ [.notice n] } := by
  rw [← h.mail] at settled ⊢
  rw [t.svcNotice_eq b n settled]
  exact h.setBmail_of_mem hl _

/-- The override is notified, and one more forced release waits at the loan manager (R136). -/
theorem State.BayIs.override_of_mem (h : s.BayIs t l b u c m) (hl : Part.bayMail ∈ l)
    (settled : settledChannel m.svcToAgent = true) : s.BayIs (t.override b) l b u c
    { m with
      overrides := m.overrides + 1,
      svcToAgent := m.svcToAgent ++ [.notice (.serviceOverride b u.state (u.disk.map Disk.serial))] } := by
  have told := h.svcNotice_of_mem hl (.serviceOverride b u.state (u.disk.map Disk.serial)) settled
  unfold State.override
  dsimp only
  rw [h.unit, told.mail]
  exact told.setBmail_of_mem hl _

end Presented

/-! ### The commands -/

section Commands
variable {s : State} {b : Bay}

theorem State.exec_buttonPress (up : (s.controls b).buttonDown = false) : exec (.buttonPress b) s =
    .next ((s.setControls b (((s.controls b).press s.now).outputs (s.unit b).state)).svcTellAgent b
      (.notice (.servicePressed b (s.unit b).state))) := by
  simp only [exec, execButtonPress, up, Bool.false_eq_true, if_false]

theorem State.exec_buttonPress_held (down : (s.controls b).buttonDown = true) :
    exec (.buttonPress b) s = .next s := by
  simp only [exec, execButtonPress, down, if_true]

theorem State.exec_holdTimerExpiry_early (early : ∀ d, (s.controls b).holdTimer = some d → s.now < d) :
    exec (.holdTimerExpiry b) s = .next s := by
  simp only [exec, execHoldTimerExpiry, due_eq_false early, Bool.false_eq_true, if_false]

/-- The timer stops, and the override goes out unless no disk is there to release (R136). -/
theorem State.exec_holdTimerExpiry_late {d : Nat} (timer : (s.controls b).holdTimer = some d) (late : d ≤ s.now) :
    exec (.holdTimerExpiry b) s =
      .next (if (s.unit b).state = .absent ∨ (s.unit b).state = .service
        then s.setControls b { s.controls b with holdTimer := none }
        else (s.setControls b { s.controls b with holdTimer := none }).override b) := by
  simp only [exec, execHoldTimerExpiry, timer, due_some, late, decide_true, if_true]
  cases state : (s.unit b).state <;> rfl

end Commands

/-- Settles O44: each command of the button writes the controls once, and what it tells is one notice; the expiry
at or after the deadline splits on whether the bay has a disk to release. -/
theorem buttons : Obligations.Buttons := by
  rintro s b _ _ rfl rfl settled
  have written (l : List Part) (hl : Part.svc ∈ l) (c : Service) := (s.bayIs l b).setControls_of_mem hl c
  refine ⟨fun up => ?_, State.exec_buttonPress_held, ?_, State.exec_holdTimerExpiry_early, fun d timer late => ?_,
    fun f => ⟨rfl, rfl, rfl, rfl, fun _ absent service =>
      ⟨lockFor_locked absent service, lampFor_flag f absent service⟩⟩⟩
  · have k := (written [.svc, .bayMail] (by simp) (((s.controls b).press s.now).outputs (s.unit b).state)).svcNotice_of_mem
      (by simp) (.servicePressed b (s.unit b).state) settled
    exact ⟨_, State.exec_buttonPress up, k.only, k.controls, k.mail⟩
  · have k := written [.svc] (by simp) (s.controls b).letGo
    exact ⟨_, rfl, k.only, k.controls⟩
  · have stopped := written [.svc, .bayMail] (by simp) { s.controls b with holdTimer := none }
    have next := State.exec_holdTimerExpiry_late timer late
    by_cases noDisk : (s.unit b).state = .absent ∨ (s.unit b).state = .service
    · rw [if_pos noDisk] at next
      exact ⟨_, next, stopped.only, stopped.controls, fun _ => stopped.mail,
        fun absent service => (noDisk.elim absent service).elim⟩
    · rw [if_neg noDisk] at next
      have k := stopped.override_of_mem (by simp) settled
      exact ⟨_, next, k.only, k.controls, fun h => absurd h noDisk, fun _ _ => k.mail⟩

end Sys2Proof.Machine
end

section
/-! SUPPORT. The channels to the management agent (R149, R151, R168, R172, R174, R178; log entry 8): what is sent
either waits behind what stands there or is taken at once, up to O10. -/

namespace Sys2Proof.Machine

variable (s : State)

/-! ### Messages that wait in their channel -/

/-- A channel stays settled by a message behind others, or by one that waits for a command of its own. -/
theorem settledChannel_concat {l : List AgentMsg} {m : AgentMsg} (settled : settledChannel l = true)
    (waits : l ≠ [] ∨ AgentMsg.waits m = true) : settledChannel (l ++ [m]) = true := by
  cases l with
  | nil =>
    have own : AgentMsg.waits m = true := waits.resolve_left (· rfl)
    exact settledChannel_of_waits fun x hx => List.mem_singleton.1 hx ▸ own
  | cons a l => cases a <;> exact settled

theorem settle_waits {l : List AgentMsg} {m : AgentMsg} (settled : settledChannel l = true)
    (waits : l ≠ [] ∨ AgentMsg.waits m = true) : settle (l ++ [m]) s = (l ++ [m], s) :=
  settle_settled s _ (settledChannel_concat settled waits)

section Waits
variable {m : AgentMsg} {b : Bay}

theorem State.lmTellAgent_waits (settled : settledChannel s.mail.lmToAgent = true)
    (waits : s.mail.lmToAgent ≠ [] ∨ AgentMsg.waits m = true) :
    s.lmTellAgent m = { s with mail := { s.mail with lmToAgent := s.mail.lmToAgent ++ [m] } } := by
  simp only [State.lmTellAgent, settle_waits s settled waits]

theorem State.ruTellAgent_waits (settled : settledChannel s.mail.ruToAgent = true)
    (waits : s.mail.ruToAgent ≠ [] ∨ AgentMsg.waits m = true) :
    s.ruTellAgent m = { s with mail := { s.mail with ruToAgent := s.mail.ruToAgent ++ [m] } } := by
  simp only [State.ruTellAgent, settle_waits s settled waits]

theorem State.nodeTellAgent_waits (settled : settledChannel s.mail.nodeToAgent = true)
    (waits : s.mail.nodeToAgent ≠ [] ∨ AgentMsg.waits m = true) :
    s.nodeTellAgent m = { s with mail := { s.mail with nodeToAgent := s.mail.nodeToAgent ++ [m] } } := by
  simp only [State.nodeTellAgent, settle_waits s settled waits]

theorem State.unitTellAgent_waits (settled : settledChannel (s.bmail b).unitToAgent = true)
    (waits : (s.bmail b).unitToAgent ≠ [] ∨ AgentMsg.waits m = true) : s.unitTellAgent b m =
      s.setBmail b { s.bmail b with unitToAgent := (s.bmail b).unitToAgent ++ [m] } := by
  simp only [State.unitTellAgent, settle_waits s settled waits]

theorem State.svcTellAgent_waits (settled : settledChannel (s.bmail b).svcToAgent = true)
    (waits : (s.bmail b).svcToAgent ≠ [] ∨ AgentMsg.waits m = true) : s.svcTellAgent b m =
      s.setBmail b { s.bmail b with svcToAgent := (s.bmail b).svcToAgent ++ [m] } := by
  simp only [State.svcTellAgent, settle_waits s settled waits]

end Waits

/-! ### Messages taken at once -/

theorem State.takeMessage_bmail (m : AgentMsg) (b : Bay) : (s.takeMessage m).bmail b = s.bmail b := by
  have same : (s.takeMessage m).bayMail = s.bayMail := s.takeMessage_unchanged m .bayMail (by simp)
  rw [State.bmail, same, State.bmail]

section Taken
variable {m : AgentMsg} {b : Bay} (own : AgentMsg.waits m = false)
include own

/-- A status or a drain answer alone in its channel is taken, and the channel is empty again. -/
theorem settle_taken : settle [m] s = ([], s.takeMessage m) := by
  cases m with
  | status a => rfl
  | drainAnswer x c => rfl
  | notice n => cases own
  | resetFinished => cases own

theorem State.lmTellAgent_taken (empty : s.mail.lmToAgent = []) : s.lmTellAgent m = s.takeMessage m := by
  have same : (s.takeMessage m).mail = s.mail := s.takeMessage_unchanged m .mail (by simp)
  have still : { (s.takeMessage m).mail with lmToAgent := [] } = (s.takeMessage m).mail := by
    rw [same, ← empty]
  simp only [State.lmTellAgent, empty, List.nil_append, settle_taken s own, still]

theorem State.nodeTellAgent_taken (empty : s.mail.nodeToAgent = []) : s.nodeTellAgent m = s.takeMessage m := by
  have same : (s.takeMessage m).mail = s.mail := s.takeMessage_unchanged m .mail (by simp)
  have still : { (s.takeMessage m).mail with nodeToAgent := [] } = (s.takeMessage m).mail := by
    rw [same, ← empty]
  simp only [State.nodeTellAgent, empty, List.nil_append, settle_taken s own, still]

/-- The empty channel of the unit is written once more, so that only the farm ports and the agent are new. -/
theorem State.unitTellAgent_taken (empty : (s.bmail b).unitToAgent = []) :
    s.unitTellAgent b m = (s.takeMessage m).setBmail b (s.bmail b) := by
  have still : { s.bmail b with unitToAgent := [] } = s.bmail b := by rw [← empty]
  simp only [State.unitTellAgent, empty, List.nil_append, settle_taken s own, s.takeMessage_bmail, still]

theorem State.svcTellAgent_taken (empty : (s.bmail b).svcToAgent = []) :
    s.svcTellAgent b m = (s.takeMessage m).setBmail b (s.bmail b) := by
  have still : { s.bmail b with svcToAgent := [] } = s.bmail b := by rw [← empty]
  simp only [State.svcTellAgent, empty, List.nil_append, settle_taken s own, s.takeMessage_bmail, still]

end Taken

/-! ### Answers and the list of requests in progress -/

@[simp] theorem State.answer_agent (a : Answer) : (s.answer a).agent = s.agent :=
  s.answer_unchanged a .agent (by simp)

theorem State.answers_agent (l : List Answer) : (l.foldl State.answer s).agent = s.agent :=
  UnchangedBut.foldl State.answer State.answer_unchanged l s .agent (by simp)

theorem State.answer_of_slot {sl : Slot} (filled : s.agent.slot = some sl) (a : Answer) :
    s.answer a = s.place sl.port (OutFrame.build sl.addr a.hdr (.bytes a.body)) := by
  simp only [State.answer, filled]

theorem State.answer_of_no_slot (empty : s.agent.slot = none) (a : Answer) : s.answer a = s := by
  simp only [State.answer, empty]

/-- The agent with another list of requests in progress. -/
def State.withProgress (s : State) (l : List Entry) : State :=
  { s with agent := { s.agent with progress := l } }

/-- An answer goes by the slot alone. -/
theorem State.answer_withProgress (l : List Entry) (a : Answer) :
    (s.withProgress l).answer a = (s.answer a).withProgress l := by
  cases slot : s.agent.slot with
  | none => rw [s.answer_of_no_slot slot, State.answer_of_no_slot (s.withProgress l) slot]
  | some sl =>
    rw [s.answer_of_slot slot, State.answer_of_slot (s.withProgress l) slot]
    rfl

theorem State.answers_withProgress (l : List Entry) (as : List Answer) :
    as.foldl State.answer (s.withProgress l) = (as.foldl State.answer s).withProgress l :=
  List.foldl_hom (State.withProgress · l) fun t a => t.answer_withProgress l a

theorem Entry.drains_iff (e : Entry) (x : Addr) : e.drains x = true ↔ e.work = .drain x := by
  cases work : e.work <;> simp [Entry.drains, work]

theorem Entry.resetReady_iff (e : Entry) (l : List Entry) : e.resetReady l = true ↔
    ∃ w, e.work = .reset w true ∧ ∀ i ∈ w, ∀ d ∈ l, d.id ≠ i := by
  cases work : e.work with
  | drain x => simp [Entry.resetReady, work]
  | reset w done => cases done <;> simp [Entry.resetReady, work]

theorem answers_of_drains {l : List Entry} {x : Addr} (mine : ∀ e ∈ l, e.drains x = true) (c : Code) :
    l.map (fun e => e.answer c) = drainAnswers l x c :=
  List.map_congr_left fun e he => by simp only [Entry.answer, (Entry.drains_iff e x).1 (mine e he)]

theorem answers_of_resets {l all : List Entry} (ready : ∀ e ∈ l, e.resetReady all = true) :
    l.map (fun e => e.answer .ok) = resetAnswers l :=
  List.map_congr_left fun e he => by
    obtain ⟨w, work, -⟩ := (Entry.resetReady_iff e all).1 (ready e he)
    simp only [Entry.answer, work]
    rfl

/-- The reset entries that are ready are answered OK, and the others stay (R178). -/
theorem State.checkReset_eq {ready kept : List Entry} (splits : Entry.Splits s.agent.progress ready kept) :
    s.checkReset = ((resetAnswers ready).foldl State.answer s).withProgress kept := by
  obtain ⟨rfl, rfl⟩ := splits
  rw [← s.answers_withProgress, ← answers_of_resets fun e he => (List.mem_filter.1 he).2, List.foldl_map]
  rfl

/-- The drains of the node are answered with the code, and then the resets that are ready, OK; these entries
leave the list (R149, R151, R178). -/
theorem State.answerDrains_eq {x : Addr} {mine left ready kept : List Entry} (c : Code)
    (own : mine = s.agent.progress.filter fun e => e.drains x)
    (others : left = s.agent.progress.filter fun e => !e.drains x) (splits : Entry.Splits left ready kept) :
    s.answerDrains x c =
      ((drainAnswers mine x c ++ resetAnswers ready).foldl State.answer s).withProgress kept := by
  have drains : ∀ e ∈ mine, e.drains x = true := own ▸ fun e he => (List.mem_filter.1 he).2
  have drained : s.answerDrains x c =
      (((drainAnswers mine x c).foldl State.answer s).withProgress left).checkReset := by
    rw [← s.answers_withProgress, ← answers_of_drains drains, List.foldl_map, own, others]
    rfl
  rw [drained, State.checkReset_eq (State.withProgress _ left) splits, State.answers_withProgress,
    List.foldl_append]
  rfl

/-! ### O10 -/

/-- Settles O10: the channels are settled, so what waits is appended and what does not is taken alone; the drains of
a node and the resets they kept back are answered as one list. -/
theorem messagesToAgent : Obligations.MessagesToAgent := by
  rintro s m b a ⟨lm, ru, node, bay⟩
  obtain ⟨unit, svc⟩ := bay b
  have status : AgentMsg.waits (.status a) = false := rfl
  refine ⟨s.lmTellAgent_waits lm, s.ruTellAgent_waits ru, s.nodeTellAgent_waits node, s.unitTellAgent_waits unit,
    s.svcTellAgent_waits svc, s.lmTellAgent_taken status, s.nodeTellAgent_taken status, ?_,
    fun e l x => ⟨Entry.drains_iff e x, Entry.resetReady_iff e l⟩, fun empty => ?_, fun empty => ?_,
    fun h c => ⟨rfl, rfl, rfl, rfl, rfl⟩, fun w => rfl, fun sl filled => s.answer_of_slot filled a,
    fun empty => s.answer_of_no_slot empty a⟩
  · intro x c mine left ready kept own others splits
    have drained := s.answerDrains_eq c own others splits
    refine ⟨s.nodeTellAgent_taken rfl, s.answerDrains_unchanged x c, ?_, by rw [drained]; rfl⟩
    rw [drained, State.withProgress, State.answers_agent]
  · have k := s.unitTellAgent_onlyBay b (.status a)
    rw [s.unitTellAgent_taken status empty] at k ⊢
    exact ⟨k, State.setBmail_bmail_self _ b _, rfl, congrArg (fun x => { x with wait := AgentWait.free })
      (s.answer_agent a)⟩
  · have k := s.svcTellAgent_onlyBay b (.status a)
    rw [s.svcTellAgent_taken status empty] at k ⊢
    exact ⟨k, State.setBmail_bmail_self _ b _, rfl, congrArg (fun x => { x with wait := AgentWait.free })
      (s.answer_agent a)⟩

end Sys2Proof.Machine
end

section
/-! SUPPORT. The classifier (R146 to R149, R159 to R161, R169): the pause state as a frame leaves its buffer, the
frame served next, and what passing and discarding it change, up to O11 and O12. -/

namespace Sys2Proof.Machine

/-! ### The pause state re-examined (R161) -/

/-- At a frame boundary only the wire and the pause frames that wait for it can change. -/
theorem FarmPort.startTx_rest (p : FarmPort) :
    p.startTx = { p with wire := p.startTx.wire, pauseOut := p.startTx.pauseOut } := by
  unfold FarmPort.startTx
  split
  · split
    · rfl
    · split <;> rfl
  · rfl

/-- A pause frame goes onto an idle wire at once (R161). -/
theorem FarmPort.sendPause_idle (p : FarmPort) (t : BitVec 16) (up : p.up = true)
    (idle : p.wire = .idle) (nothing : p.pauseOut = []) :
    (p.sendPause t).wire = .pause t ∧ (p.sendPause t).pauseOut = [] := by
  simp [FarmPort.sendPause, FarmPort.startTx, up, idle, nothing]

/-- A pause frame waits for the next frame boundary (R161). -/
theorem FarmPort.sendPause_busy (p : FarmPort) (t : BitVec 16) (busy : p.wire ≠ .idle) :
    (p.sendPause t).wire = p.wire ∧ (p.sendPause t).pauseOut = p.pauseOut ++ [t] := by
  simp [FarmPort.sendPause, FarmPort.startTx, busy]

/-- The pause state, its timer, the wire and the pause frames that wait are all that an examination changes. -/
theorem FarmPort.examineAt_rest (p : FarmPort) (fill now : Nat) : ∃ b r w o,
    p.examineAt fill now = { p with pausing := b, repeatTimer := r, wire := w, pauseOut := o } := by
  unfold FarmPort.examineAt
  split
  · exact ⟨_, _, _, _, rfl⟩
  · split
    · exact ⟨_, _, _, _, FarmPort.startTx_rest _⟩
    · split
      · exact ⟨_, _, _, _, FarmPort.startTx_rest _⟩
      · exact ⟨_, _, _, _, rfl⟩

section Examine
variable {p : FarmPort} {fill : Nat} (now : Nat)

/-- A PAUSING port at or below OFF is OPEN, and says so as soon as it can. -/
theorem FarmPort.examineAt_opens (up : p.up = true) (pausing : p.pausing = true) (low : fill ≤ p.off * 1024) :
    (p.examineAt fill now).pausing = false ∧ (p.examineAt fill now).repeatTimer = none ∧
      (p.wire = .idle → p.pauseOut = [] →
        (p.examineAt fill now).wire = .pause 0 ∧ (p.examineAt fill now).pauseOut = []) ∧
      (p.wire ≠ .idle →
        (p.examineAt fill now).wire = p.wire ∧ (p.examineAt fill now).pauseOut = p.pauseOut ++ [0]) := by
  have sends : p.examineAt fill now = FarmPort.sendPause { p with pausing := false, repeatTimer := none } 0 := by
    simp [FarmPort.examineAt, up, pausing, low]
  rw [sends]
  refine ⟨?_, ?_, FarmPort.sendPause_idle { p with pausing := false, repeatTimer := none } 0 up,
    FarmPort.sendPause_busy { p with pausing := false, repeatTimer := none } 0⟩
  · rw [FarmPort.sendPause, FarmPort.startTx_rest]
  · rw [FarmPort.sendPause, FarmPort.startTx_rest]

/-- Between the thresholds, and while the link is DOWN, nothing changes. -/
theorem FarmPort.examineAt_stays (between : p.up = false ∨ (p.pausing = true ∧ p.off * 1024 < fill) ∨
    (p.pausing = false ∧ fill ≤ p.on * 1024)) : p.examineAt fill now = p := by
  rcases between with down | ⟨pausing, high⟩ | ⟨opened, low⟩
  · simp [FarmPort.examineAt, down]
  · simp [FarmPort.examineAt, pausing, Nat.not_le.2 high]
  · simp [FarmPort.examineAt, opened, Nat.not_lt.2 low]

end Examine

/-- The port as its oldest frame has left the buffer, before the pause state is re-examined. -/
def FarmPort.dequeued (p : FarmPort) (f : InFrame) (rest : List InFrame) : FarmPort :=
  { p with ingress := rest, claims := if f.isBlockRequest then p.claims + 1 else p.claims }

theorem FarmPort.takeOldest_eq (p : FarmPort) (f : InFrame) (rest : List InFrame) (now : Nat) :
    p.takeOldest f rest now =
      (FarmPort.dequeued p f rest).examineAt (rest.map InFrame.length).sum now := rfl

/-- The oldest frame leaves the buffer, and a block request claims an END place (R157, R160, R161). -/
theorem FarmPort.takeOldest_spec (p : FarmPort) (f : InFrame) (rest : List InFrame) (now : Nat) :
    FarmPort.FrameTaken p (p.takeOldest f rest now) rest ∧
      (p.takeOldest f rest now).claims = p.claims + (if f.isBlockRequest then 1 else 0) ∧
      (p.takeOldest f rest now).unknownSource = p.unknownSource := by
  have opens := FarmPort.examineAt_opens (p := FarmPort.dequeued p f rest)
    (fill := (rest.map InFrame.length).sum) now
  have stays := FarmPort.examineAt_stays (p := FarmPort.dequeued p f rest)
    (fill := (rest.map InFrame.length).sum) now
  obtain ⟨b, r, w, o, new⟩ :=
    FarmPort.examineAt_rest (FarmPort.dequeued p f rest) (rest.map InFrame.length).sum now
  rw [FarmPort.takeOldest_eq]
  refine ⟨⟨?_, ?_, ?_, ?_, ?_, ?_, ?_, ?_, ?_, opens, fun between => ?quiet⟩, ?claims, ?_⟩
  case quiet =>
    rw [stays between]
    exact ⟨rfl, rfl, rfl, rfl⟩
  case claims =>
    rw [new]
    unfold FarmPort.dequeued
    split <;> rfl
  all_goals
    rw [new]
    rfl

theorem FarmPort.unclaim_eq (p : FarmPort) (f : InFrame) :
    p.unclaim f = { p with claims := p.claims - (if f.isBlockRequest then 1 else 0) } := by
  unfold FarmPort.unclaim
  split <;> rfl

theorem InFrame.isBlockRequest_of_manage {f : InFrame} (kind : f.kind = some 0x30) : f.isBlockRequest = false := by
  simp [InFrame.isBlockRequest, kind]

/-! ### The frame served next (R159) -/

variable {s t : State} {p : Port} {f : InFrame} {rest : List InFrame}

theorem State.Serves.nextFrame (serves : s.Serves p f rest) : s.nextFrame = some (p, f, rest) := by
  obtain ⟨-, ingress, eligible, before, after, order, passed⟩ := serves
  have first : (portOrder s.cls.lastServed).find? (fun q => (s.port q).eligible) = some p := by
    rw [order, List.find?_eq_some_iff_append]
    exact ⟨eligible, before, after, rfl, fun q hq => by rw [passed q hq]; rfl⟩
  simp only [State.nextFrame, first, ingress]

theorem State.nextFrame_eq_none (idle : ∀ q, (s.port q).eligible = false) : s.nextFrame = none := by
  have nobody : (portOrder s.cls.lastServed).find? (fun q => (s.port q).eligible) = none :=
    List.find?_eq_none.2 fun q _ => by rw [idle q]; exact Bool.false_ne_true
  simp only [State.nextFrame, nobody]

/-- The free classifier has taken the oldest frame of a port, which is now the one last served (R159, R160). -/
def State.frameTaken (s : State) (p : Port) (f : InFrame) (rest : List InFrame) : State :=
  { s.setPort p ((s.port p).takeOldest f rest s.now) with cls := { lastServed := p, passed := none } }

theorem State.Serves.exec_eq (serves : s.Serves p f rest) : exec .classifyFrame s =
    .next (if f.kind ≠ some 0x30 ∧ s.beingForgotten f.src then s
      else if f.kind = some 0x30 then (s.frameTaken p f rest).manageFrame p f
      else (s.frameTaken p f rest).nodeFrame p f) := by
  have next := serves.nextFrame
  obtain ⟨free, -⟩ := serves
  simp only [exec, execClassifyFrame, free, next]
  rfl

theorem State.Serves.exec_forgotten (serves : s.Serves p f rest) (kind : f.kind ≠ some 0x30)
    (forgotten : s.beingForgotten f.src = true) : exec .classifyFrame s = .next s := by
  rw [serves.exec_eq, if_pos ⟨kind, forgotten⟩]

theorem State.Serves.exec_node (serves : s.Serves p f rest) (kind : f.kind ≠ some 0x30)
    (known : s.beingForgotten f.src = false) :
    exec .classifyFrame s = .next ((s.frameTaken p f rest).nodeFrame p f) := by
  rw [serves.exec_eq, if_neg (by simp [known]), if_neg kind]

theorem State.Serves.exec_manage (serves : s.Serves p f rest) (kind : f.kind = some 0x30) :
    exec .classifyFrame s = .next ((s.frameTaken p f rest).manageFrame p f) := by
  rw [serves.exec_eq, if_neg fun h => h.1 kind, if_pos kind]

/-! ### What becomes of a frame that has left its buffer -/

/-- The oldest frame of port `p` has left its buffer, with `rest` behind it; of the port `c` END places are claimed
and `n` frames of unknown sources counted, and the classifier has passed `w`. Only the parts of `l` are written. -/
structure State.FrameLeft (s : State) (p : Port) (rest : List InFrame) (l : List Part) (t : State) (c n : Nat)
    (w : Option Passed) : Prop where
  only : UnchangedBut l s t
  others : ∀ q, q ≠ p → t.port q = s.port q
  taken : FarmPort.FrameTaken (s.port p) (t.port p) rest
  claims : (t.port p).claims = c
  unknown : (t.port p).unknownSource = n
  cls : t.cls = { lastServed := p, passed := w }

namespace State.FrameLeft
variable {l m : List Part} {c n : Nat} {w : Option Passed}

/-- A block request holds its END place at first (R160). -/
theorem of_frameTaken (s : State) (p : Port) (f : InFrame) (rest : List InFrame) :
    s.FrameLeft p rest [.ports, .cls] (s.frameTaken p f rest)
      ((s.port p).claims + if f.isBlockRequest then 1 else 0) (s.port p).unknownSource none := by
  obtain ⟨taken, claims, unknown⟩ := FarmPort.takeOldest_spec (s.port p) f rest s.now
  have port : (s.frameTaken p f rest).port p = (s.port p).takeOldest f rest s.now := s.setPort_port_self p _
  rw [← port] at taken claims unknown
  exact {
    only := ((s.setPort_unchanged p _).mono (by simp)).trans ((State.setCls_unchanged _ _).mono (by simp))
    others := s.setPort_port_ne p _
    taken
    claims
    unknown
    cls := rfl }

theorem passTo (h : s.FrameLeft p rest l t c n w) (cls : Part.cls ∈ l) (d : PassedTo) :
    s.FrameLeft p rest l (t.passTo d p f) c n (some { dest := d, port := p, frame := f }) where
  only := h.only.trans ((State.setCls_unchanged _ _).mono (by simpa using cls))
  others := h.others
  taken := h.taken
  claims := h.claims
  unknown := h.unknown
  cls := by rw [State.passTo, h.cls]

/-- The claims and the count of unknown sources of the port are written. -/
theorem setCounts (h : s.FrameLeft p rest l t c n w) (ports : Part.ports ∈ l) (c' n' : Nat) :
    s.FrameLeft p rest l (t.setPort p { t.port p with claims := c', unknownSource := n' }) c' n' w where
  only := h.only.trans ((t.setPort_unchanged p _).mono (by simpa using ports))
  others q hq := (t.setPort_port_ne p _ q hq).trans (h.others q hq)
  taken := by
    rw [State.setPort_port_self]
    exact h.taken
  claims := by rw [State.setPort_port_self]
  unknown := by rw [State.setPort_port_self]
  cls := h.cls

/-- What is written besides the ports and the classifier. -/
theorem trans {u : State} (h : s.FrameLeft p rest l t c n w) (k : UnchangedBut m t u)
    (other : Part.ports ∉ m ∧ Part.cls ∉ m) : s.FrameLeft p rest (l ++ m) u c n w := by
  have ports : u.ports = t.ports := k .ports other.1
  have port (q : Port) : u.port q = t.port q := by rw [State.port, ports, State.port]
  exact {
    only := (h.only.mono (by simp)).trans (k.mono (by simp))
    others := fun q hq => (port q).trans (h.others q hq)
    taken := by rw [port]; exact h.taken
    claims := by rw [port]; exact h.claims
    unknown := by rw [port]; exact h.unknown
    cls := (k .cls other.2).trans h.cls }

/-- The END place of a block request that is not passed on is released (R160). -/
theorem unclaim (h : s.FrameLeft p rest l t ((s.port p).claims + if f.isBlockRequest then 1 else 0) n w)
    (ports : Part.ports ∈ l) :
    s.FrameLeft p rest l (t.setPort p ((t.port p).unclaim f)) (s.port p).claims n w := by
  obtain rfl := h.unknown
  rw [FarmPort.unclaim_eq, h.claims, Nat.add_sub_cancel]
  exact h.setCounts ports _ _

theorem countUnknown (h : s.FrameLeft p rest l t c n w) (ports : Part.ports ∈ l) :
    s.FrameLeft p rest l (t.setPort p (t.port p).countUnknown) c (bump n) w := by
  obtain rfl := h.claims
  obtain rfl := h.unknown
  exact h.setCounts ports _ _

theorem discardUnknown (h : s.FrameLeft p rest l t ((s.port p).claims + if f.isBlockRequest then 1 else 0) n w)
    (ports : Part.ports ∈ l) : s.FrameLeft p rest l (t.discardUnknown p f) (s.port p).claims (bump n) w := by
  obtain rfl := h.unknown
  rw [State.discardUnknown, FarmPort.unclaim_eq, h.claims, Nat.add_sub_cancel]
  exact h.setCounts ports _ _

end State.FrameLeft

/-! ### The branches of the node block and of the agent (R146, R147, R149, R169) -/

section Node
variable {n : Nat} {e : Node}

theorem State.nodeFrame_unknown
    (unknown : s.nodeByAddr f.src = none ∨ ∃ n e, s.nodeByAddr f.src = some (n, e) ∧ e.state = .halted) :
    s.nodeFrame p f = s.discardUnknown p f := by
  rcases unknown with absent | ⟨n, e, found, halted⟩
  · simp only [State.nodeFrame, absent]
  · simp only [State.nodeFrame, found, if_pos halted]

theorem State.nodeFrame_passed (found : s.nodeByAddr f.src = some (n, e)) (live : e.state ≠ .halted)
    (good : malformed f.payload = none) : s.nodeFrame p f =
      (s.setNode n { e with lastPort := some p }).passTo
        (if f.kind = some 0x01 ∨ f.kind = some 0x02 ∨ f.kind = some 0x03 then .loanManager n else .requestUnit n)
        p f := by
  simp only [State.nodeFrame, found, if_neg live, good, State.passNodeFrame]
  split <;> rfl

theorem State.nodeFrame_halts {c : HaltCause} (found : s.nodeByAddr f.src = some (n, e)) (live : e.state ≠ .halted)
    (bad : malformed f.payload = some c) : s.nodeFrame p f = s.haltNode p f n e c := by
  simp only [State.nodeFrame, found, if_neg live, bad]

/-- A notice of the node block waits in its channel, and so does what is sent behind it (log entry 8). -/
theorem State.nodeTold_eq (settled : settledChannel s.mail.nodeToAgent = true) (x : Notice) (m : AgentMsg)
    (more : Prop) [Decidable more] :
    (if more then (s.nodeTellAgent (.notice x)).nodeTellAgent m else s.nodeTellAgent (.notice x)) =
      { s with mail := { s.mail with
        nodeToAgent := s.mail.nodeToAgent ++ [.notice x] ++ if more then [m] else [] } } := by
  have told := s.nodeTellAgent_waits (m := .notice x) settled (.inr rfl)
  have still : settledChannel (s.mail.nodeToAgent ++ [.notice x]) = true := settledChannel_concat settled (.inr rfl)
  rw [told]
  split
  · exact State.nodeTellAgent_waits _ still (.inl (by simp))
  · rw [List.append_nil]

/-- The notice of a halt waits in the channel, and behind it the answer to the drains of a DRAINING node (R149). -/
theorem State.haltNode_eq (settled : settledChannel s.mail.nodeToAgent = true) (c : HaltCause) :
    s.haltNode p f n e c =
      { (s.setPort p ((s.port p).unclaim f)).setNode n { e with state := .halted } with
        mail := { s.mail with nodeToAgent := s.mail.nodeToAgent ++
          [AgentMsg.notice (.nodeHalted e.addr c p (f.kind.getD Config.absentKind) e.state)] ++
          (if e.state = .draining then [AgentMsg.drainAnswer e.addr .wrongState] else []) } } :=
  State.nodeTold_eq (s := (s.setPort p ((s.port p).unclaim f)).setNode n { e with state := .halted }) settled _ _ _

end Node

theorem State.manageFrame_passed (passes : s.agent.wait ≠ .free ∨
    ∃ h, Header.parse f.payload = some h ∧ s.managerSource h f.src = true) :
    s.manageFrame p f = s.passTo .agent p f := by
  by_cases busy : s.agent.wait ≠ .free
  · simp only [State.manageFrame, if_pos busy]
  · obtain ⟨h, parsed, source⟩ := passes.resolve_left busy
    simp only [State.manageFrame, if_neg busy, parsed, source, if_true]

theorem State.manageFrame_stranger {h : Header} (free : s.agent.wait = .free)
    (parsed : Header.parse f.payload = some h) (source : s.managerSource h f.src = false) :
    s.manageFrame p f = s.setPort p (s.port p).countUnknown := by
  simp [State.manageFrame, free, parsed, source]

theorem State.manageFrame_short (free : s.agent.wait = .free) (short : Header.parse f.payload = none) :
    s.manageFrame p f = s := by
  simp [State.manageFrame, free, short]

/-! ### O11 and O12 -/

/-- Settles O11: the frame leaves its buffer, and then its kind, and for a frame of a node its sender, say who is
passed it. -/
theorem classifyPasses : Obligations.ClassifyPasses := by
  intro s
  refine ⟨fun p f rest serves => ⟨fun n e kind known found live good => ?_, fun kind passes => ?_,
    serves.exec_forgotten⟩, fun busy => ?_, fun idle => ?_⟩
  · have written := (State.FrameLeft.of_frameTaken s p f rest).trans
      (State.setNode_unchanged _ n { e with lastPort := some p }) (by simp)
    have next := serves.exec_node kind known
    rw [State.nodeFrame_passed (s := s.frameTaken p f rest) found live good] at next
    have k := written.passTo (f := f) (by simp) (if f.kind = some 0x01 ∨ f.kind = some 0x02 ∨ f.kind = some 0x03
      then .loanManager n else .requestUnit n)
    exact ⟨_, next, k.only, k.others, k.taken, k.unknown, k.claims, k.cls, State.setNode_node_self _ n _,
      State.setNode_node_ne (s.frameTaken p f rest) n _⟩
  · have next := serves.exec_manage kind
    rw [State.manageFrame_passed (s := s.frameTaken p f rest) passes] at next
    have k := (State.FrameLeft.of_frameTaken s p f rest).passTo (f := f) (by simp) .agent
    refine ⟨_, next, k.only, k.others, k.taken, k.unknown, ?_, k.cls⟩
    simpa [InFrame.isBlockRequest_of_manage kind] using k.claims
  · cases passed : s.cls.passed with
    | none => exact absurd passed busy
    | some w => simp only [exec, execClassifyFrame, passed]
  · simp only [exec, execClassifyFrame, State.nextFrame_eq_none idle]
    cases s.cls.passed <;> rfl

/-- Settles O12: the frame leaves its buffer and is discarded, counted or not; a malformed one halts its node. -/
theorem classifyDiscards : Obligations.ClassifyDiscards := by
  intro s p f rest serves
  have left := State.FrameLeft.of_frameTaken s p f rest
  refine ⟨fun kind known unknown => ?_, fun h kind free parsed source => ?_, fun kind free short => ?_,
    fun n e c kind known law found live bad => ?_⟩
  · have next := serves.exec_node kind known
    rw [State.nodeFrame_unknown (s := s.frameTaken p f rest) unknown] at next
    have k := left.discardUnknown (by simp)
    exact ⟨_, next, k.only, k.others, k.taken, k.claims, k.unknown, k.cls⟩
  · have next := serves.exec_manage kind
    rw [State.manageFrame_stranger (s := s.frameTaken p f rest) free parsed source] at next
    have k := left.countUnknown (by simp)
    refine ⟨_, next, k.only, k.others, k.taken, ?_, k.unknown, k.cls⟩
    simpa [InFrame.isBlockRequest_of_manage kind] using k.claims
  · have next := serves.exec_manage kind
    rw [State.manageFrame_short (s := s.frameTaken p f rest) free short] at next
    refine ⟨_, next, left.only, left.others, left.taken, ?_, left.unknown, left.cls⟩
    simpa [InFrame.isBlockRequest_of_manage kind] using left.claims
  · have next := serves.exec_node kind known
    obtain ⟨-, -, settled, -⟩ := law
    rw [State.nodeFrame_halts (s := s.frameTaken p f rest) found live bad,
      State.haltNode_eq (s := s.frameTaken p f rest) settled] at next
    have written := (left.unclaim (by simp)).trans
      (State.setNode_unchanged _ n { e with state := .halted }) (by simp)
    have k (x : Mail) := written.trans (State.setMail_unchanged _ x) (by simp)
    exact ⟨_, next, (k _).only, (k _).others, (k _).taken, (k _).claims, (k _).unknown, (k _).cls,
      State.setNode_node_self _ n _, State.setNode_node_ne (s.frameTaken p f rest) n _, rfl⟩

end Sys2Proof.Machine
end

section
/-! SUPPORT. What every management request shares (R168, R169, R172, R182): the frame that waits for the agent, the
checks in their order and the header of the answer, up to O48. -/

namespace Sys2Proof.Machine

variable {s : State} {i : Instr} {code : Byte} {p : Port} {f : InFrame} {h : Header}

/-! ### The frame that waits for the agent -/

/-- A frame that waits with its header has been passed to the free agent, and is long enough to hold one. -/
theorem State.passed_of_waiting (waiting : s.manageWaiting = some (p, f, h)) :
    s.managePassed = some (p, f) ∧ Header.parse f.payload = some h := by
  cases passed : s.managePassed with
  | none => simp [State.manageWaiting, passed] at waiting
  | some x =>
    cases parsed : Header.parse x.2.payload with
    | none => simp [State.manageWaiting, passed, parsed] at waiting
    | some y =>
      simp only [State.manageWaiting, passed, parsed] at waiting
      cases waiting
      exact ⟨rfl, parsed⟩

theorem State.not_waiting_of_not_passed (nothing : s.managePassed = none) : s.manageWaiting = none := by
  simp only [State.manageWaiting, nothing]

/-! ### The commands that take a request -/

/-- Every request but ATTACH is taken by the checks they share. -/
theorem exec_of_requestCode (hi : requestCode i = some code) : i = .attach ∧ code = 0x01 ∨
    ∃ act, ∀ s, exec i s = .next (s.manage code act) := by
  unfold requestCode at hi
  split at hi
  all_goals cases hi
  case h_1 => exact .inl ⟨rfl, rfl⟩
  all_goals exact .inr ⟨_, fun _ => rfl⟩

/-- A request that no frame waits for is not carried out. -/
theorem State.exec_of_not_waiting (request : (requestCode i).isSome = true) (nothing : s.manageWaiting = none) :
    exec i s = .next s := by
  obtain ⟨code, hi⟩ := Option.isSome_iff_exists.1 request
  rcases exec_of_requestCode hi with ⟨rfl, -⟩ | ⟨act, next⟩
  · simp only [exec, execAttach, nothing]
  · simp only [next, State.manage, nothing]

theorem State.exec_badRequest_of_not_passed (nothing : s.managePassed = none) : exec .badRequest s = .next s := by
  simp only [exec, execBadRequest, nothing]

theorem State.exec_badRequest_short (passed : s.managePassed = some (p, f))
    (short : Header.parse f.payload = none) : exec .badRequest s = .next s.freeClassifier := by
  simp only [exec, execBadRequest, passed, short]

/-! ### The checks -/

section Checks
variable (waiting : s.manageWaiting = some (p, f, h))
include waiting

/-- What BAD_REQUEST does with a frame that holds a header (R169). -/
theorem State.exec_badRequest : exec .badRequest s = .next
    (if s.managerSource h f.src = false then s.freeClassifier.discardManage p
     else if isRequestCode h.subcode = true then s
     else (s.accepted p).answer
      (h.status (if h.manageHeaderGood f.payload = true then .badRequest else .badFormat))) := by
  obtain ⟨passed, parsed⟩ := State.passed_of_waiting waiting
  simp only [exec, execBadRequest, passed, parsed, Bool.not_eq_true', State.reply]
  rfl

theorem State.manage_of_waiting (names : h.subcode = code) (act : Header → List Byte → State → State) :
    s.manage code act = s.takeManage p f h act := by
  simp only [State.manage, waiting, if_pos names]

/-- What a request but ATTACH does, where it is not carried out (R168, R169). -/
theorem State.exec_request_refused (hi : requestCode i = some code) (other : code ≠ 0x01)
    (names : h.subcode = code) :
    (s.managerSource h f.src = false → exec i s = .next (s.freeClassifier.discardManage p)) ∧
    (s.managerSource h f.src = true → requestGood h f.payload = false →
      exec i s = .next ((s.accepted p).answer (h.status .badFormat))) := by
  obtain ⟨-, attach⟩ | ⟨act, next⟩ := exec_of_requestCode hi
  · exact absurd attach other
  · rw [next, State.manage_of_waiting waiting names]
    refine ⟨fun source => ?_, fun source bad => ?_⟩
    · simp only [State.takeManage, source, Bool.not_false, if_true]
    · simp only [State.takeManage, source, bad, Bool.not_true, Bool.false_eq_true, if_false]
      rfl

end Checks

/-- The frame of another source is counted on its port (R146, R167, R169). -/
theorem State.discardManage_eq (s : State) (p : Port) : s.freeClassifier.discardManage p =
    s.freeClassifier.setPort p { s.port p with
      unknownSource := min 4294967295 ((s.port p).unknownSource + 1) } := by
  rw [← bump_eq]
  rfl

theorem State.accepted_of_slot {sl : Slot} (filled : s.agent.slot = some sl) (p : Port) :
    s.accepted p = { s with
      cls := { s.cls with passed := none }
      agent := { s.agent with slot := some { sl with port := p } } } := by
  have same : s.freeClassifier.agent.slot = some sl := filled
  simp only [State.accepted, State.setManagerPort, same]
  rfl

theorem State.accepted_of_no_slot (empty : s.agent.slot = none) (p : Port) : s.accepted p = s.freeClassifier := by
  have same : s.freeClassifier.agent.slot = none := empty
  simp only [State.accepted, State.setManagerPort, same]

/-! ### O48 -/

/-- The header arguments that a request names are repeated, the ACT flag among them (R182). -/
theorem Header.answerTo_arguments (h : Header) :
    (usesVolume h.subcode = true → h.answerTo.volume = h.volume) ∧
    (usesHandle h.subcode = true → h.answerTo.handle = h.handle) ∧
    (usesOffset h.subcode = true → h.answerTo.offset = h.offset) ∧
    (usesValueA h.subcode = true → h.answerTo.valueA = h.valueA) ∧
    (usesAct h.subcode = true → h.answerTo.flags = h.flags &&& 4) ∧
    (usesAct h.subcode = false → h.answerTo.flags = 0) := by
  refine ⟨fun e => ?_, fun e => ?_, fun e => ?_, fun e => ?_, fun e => ?_, fun e => ?_⟩ <;>
    simp [Header.answerTo, e]

/-- Settles O48: the frame that waits is taken by its checks in their order, and the answer is built on the
request's own header. -/
theorem manageDiscipline : Obligations.ManageDiscipline := by
  refine ⟨fun s i request => ⟨fun nothing => ?_, fun nothing other => ?_⟩,
    fun s p f passed short => State.exec_badRequest_short passed short,
    fun s i code p f h waiting => ⟨fun command source => ?_,
      fun source => ⟨fun hi other names bad => ?_, ?_, ?_⟩⟩,
    fun s p sl filled => State.accepted_of_slot filled p, fun s p empty => State.accepted_of_no_slot empty p,
    fun h c bs => ?_⟩
  · obtain request | rfl := request
    · exact State.exec_of_not_waiting request (State.not_waiting_of_not_passed nothing)
    · exact State.exec_badRequest_of_not_passed nothing
  · exact State.exec_of_not_waiting (request.resolve_right other) nothing
  · rw [← State.discardManage_eq]
    obtain ⟨hi, other, names⟩ | rfl := command
    · exact (State.exec_request_refused waiting hi other names).1 source
    · rw [State.exec_badRequest waiting, if_pos source]
  · exact (State.exec_request_refused waiting hi other names).2 source bad
  · rintro rfl known
    simp [State.exec_badRequest waiting, source, known]
  · rintro rfl unknown
    constructor <;> intro format <;> simp [State.exec_badRequest waiting, source, unknown, format]
  · obtain ⟨volume, handle, offset, valueA, act, noAct⟩ := Header.answerTo_arguments h
    refine ⟨rfl, rfl, rfl, rfl, rfl, volume, handle, offset, valueA, act, noAct, ?_⟩
    simp [usesAct, usesVolume, usesHandle, usesOffset, usesValueA, or_assoc]

end Sys2Proof.Machine
end

section
/-! SUPPORT. The farm ports (R147, R155 to R167): what begins at a frame boundary, how the pause state follows the
fill, and how an arriving frame is written and judged, up to O5 to O9. -/

namespace Sys2Proof.Machine

/-! ### The frame boundary (R161, R163, R164) -/

section Boundary
variable (p : FarmPort)

@[simp] theorem FarmPort.startTx_up : p.startTx.up = p.up := by rw [FarmPort.startTx_rest]
@[simp] theorem FarmPort.startTx_ingress : p.startTx.ingress = p.ingress := by rw [FarmPort.startTx_rest]
@[simp] theorem FarmPort.startTx_pausing : p.startTx.pausing = p.pausing := by rw [FarmPort.startTx_rest]
@[simp] theorem FarmPort.startTx_repeatTimer : p.startTx.repeatTimer = p.repeatTimer := by
  rw [FarmPort.startTx_rest]
@[simp] theorem FarmPort.startTx_receivedPause : p.startTx.receivedPause = p.receivedPause := by
  rw [FarmPort.startTx_rest]
@[simp] theorem FarmPort.startTx_egress : p.startTx.egress = p.egress := by rw [FarmPort.startTx_rest]
@[simp] theorem FarmPort.startTx_claims : p.startTx.claims = p.claims := by rw [FarmPort.startTx_rest]
@[simp] theorem FarmPort.startTx_off : p.startTx.off = p.off := by rw [FarmPort.startTx_rest]

@[simp] theorem FarmPort.sendPause_pausing (t : BitVec 16) : (p.sendPause t).pausing = p.pausing := by
  simp [FarmPort.sendPause]
@[simp] theorem FarmPort.sendPause_repeatTimer (t : BitVec 16) :
    (p.sendPause t).repeatTimer = p.repeatTimer := by
  simp [FarmPort.sendPause]
@[simp] theorem FarmPort.sendPause_off (t : BitVec 16) : (p.sendPause t).off = p.off := by
  simp [FarmPort.sendPause]

variable {p}

/-- A waiting pause frame goes before the egress queue. -/
theorem FarmPort.startTx_pause (up : p.up = true) (idle : p.wire = .idle) {x : BitVec 16} {xs : List (BitVec 16)}
    (waiting : p.pauseOut = x :: xs) : p.startTx.wire = .pause x ∧ p.startTx.pauseOut = xs := by
  simp [FarmPort.startTx, up, idle, waiting]

/-- With no pause frame waiting, the oldest frame of the queue begins unless a received pause is in force. -/
theorem FarmPort.startTx_queue (up : p.up = true) (idle : p.wire = .idle) (nothing : p.pauseOut = []) :
    p.startTx.pauseOut = [] ∧ (p.startTx.wire = .frame ↔ p.egress ≠ [] ∧ p.receivedPause = none) ∧
      (p.startTx.wire = .frame ∨ p.startTx.wire = .idle) := by
  cases pause : p.receivedPause with
  | some d => simp [FarmPort.startTx, up, idle, nothing, pause]
  | none => cases egress : p.egress <;> simp [FarmPort.startTx, up, idle, nothing, pause, egress]

end Boundary

/-! ### The parts of the state that a port command writes -/

section Writers
variable (s : State) (p : Port) (x : FarmPort)

theorem State.setPort_otherPorts : OtherPortsUnchanged p s (s.setPort p x) :=
  fun q hq => ⟨s.setPort_port_ne p x q hq, rfl⟩

/-- A port is written and tells the request unit of it (R74, R165). -/
theorem State.setPort_portTell (m : PortToRu) :
    UnchangedBut [.ports, .portMail] s ((s.setPort p x).portTell p m) ∧
      OtherPortsUnchanged p s ((s.setPort p x).portTell p m) ∧ ((s.setPort p x).portTell p m).port p = x ∧
      ((s.setPort p x).portTell p m).pmail p = { s.pmail p with toRu := (s.pmail p).toRu ++ [m] } :=
  ⟨((s.setPort_unchanged p x).mono (by simp)).trans ((State.setPmail_unchanged _ p _).mono (by simp)),
    fun q hq => ⟨s.setPort_port_ne p x q hq, State.setPmail_pmail_ne _ p _ q hq⟩, s.setPort_port_self p x,
    State.setPmail_pmail_self _ p _⟩

end Writers

/-! ### Placing a frame (R165) -/

section Place
variable {p : FarmPort} {f : OutFrame}

theorem FarmPort.place_down_end (down : p.up = false) (isEnd : f.isEnd = true) :
    p.place f = { p with claims := p.claims - 1 } := by
  simp [FarmPort.place, FarmPort.releaseClaim, down, isEnd]

theorem FarmPort.place_down_other (down : p.up = false) (other : f.isEnd = false) : p.place f = p := by
  simp [FarmPort.place, down, other]

theorem FarmPort.place_fits (up : p.up = true) (fits : f.isEnd = true ∨ f.length ≤ p.roomFree) :
    p.place f = FarmPort.startTx { p with egress := p.egress ++ [f] } := by
  simp [FarmPort.place, up, fits]

theorem FarmPort.place_dropped (up : p.up = true) (other : f.isEnd = false) (full : p.roomFree < f.length) :
    p.place f = p := by
  simp [FarmPort.place, up, other, Nat.not_le.2 full]

/-- An idle transmitter that may send begins the frame placed. -/
theorem FarmPort.place_sends (up : p.up = true) (fits : f.isEnd = true ∨ f.length ≤ p.roomFree) :
    FarmPort.Sends p (p.place f) f := by
  rw [FarmPort.place_fits up fits]
  refine ⟨FarmPort.startTx_egress _, fun ⟨_, idle, nothing, noPause⟩ => ?_⟩
  obtain ⟨-, begins, -⟩ := FarmPort.startTx_queue (p := { p with egress := p.egress ++ [f] }) up idle nothing
  exact begins.2 ⟨by simp, noPause⟩

end Place

/-- Settles O5: by kind of frame, link state and room. -/
theorem placingLaw : Obligations.PlacingLaw := by
  intro s p f
  have port : (s.place p f).port p = (s.port p).place f := s.setPort_port_self p _
  rw [port]
  refine ⟨s.place_unchanged p f, s.setPort_otherPorts p _, FarmPort.place_down_end, FarmPort.place_down_other,
    fun up fits => ⟨FarmPort.place_sends up fits, ?_, ?_⟩, FarmPort.place_dropped,
    fun n e h he => ⟨fun q last => ?_, fun absent => ?_⟩⟩
  · rw [FarmPort.place_fits up fits, FarmPort.startTx_claims]
  · rw [FarmPort.place_fits up fits, FarmPort.startTx_ingress]
  · simp only [State.placeForNode, he, last]
  · simp only [State.placeForNode, he, absent]

/-! ### Link changes (R156) -/

/-- A port that comes up has nothing in its buffers and is OPEN, with its END places still claimed. -/
theorem FarmPort.goUp_fresh (p : FarmPort) :
    p.goUp.up = true ∧ p.goUp.ingress = [] ∧ p.goUp.egress = [] ∧ p.goUp.pausing = false ∧
      p.goUp.repeatTimer = none ∧ p.goUp.claims = p.claims := by
  simp [FarmPort.goUp]

section Link
variable {s : State} {p : Port}

theorem State.exec_linkDown_up (up : (s.port p).up = true) :
    exec (.linkDown p) s = .next ((s.setPort p (s.port p).goDown).portTell p .linkDown) := by
  simp [exec, execLinkDown, up]

theorem State.exec_linkDown_down (down : (s.port p).up = false) : exec (.linkDown p) s = .next s := by
  simp [exec, execLinkDown, down]

theorem State.exec_linkUp_down (down : (s.port p).up = false) :
    exec (.linkUp p) s = .next ((s.setPort p (s.port p).goUp).portTell p .linkUp) := by
  simp [exec, execLinkUp, down]

theorem State.exec_linkUp_up (up : (s.port p).up = true) : exec (.linkUp p) s = .next s := by
  simp [exec, execLinkUp, up]

end Link

/-- Settles O6: a change of the link empties the buffers and is told; a report of the present state is not. -/
theorem linkChange : Obligations.LinkChange := by
  refine fun s p => ⟨fun up => ⟨?_, State.exec_linkUp_up up⟩, fun down => ⟨?_, State.exec_linkDown_down down⟩⟩
  · obtain ⟨only, others, port, told⟩ := s.setPort_portTell p (s.port p).goDown .linkDown
    exact ⟨_, State.exec_linkDown_up up, only, others, port, told⟩
  · obtain ⟨only, others, port, told⟩ := s.setPort_portTell p (s.port p).goUp .linkUp
    refine ⟨_, State.exec_linkUp_down down, only, others, ?_⟩
    rw [port]
    obtain ⟨up, ingress, egress, opened, timer, claims⟩ := FarmPort.goUp_fresh (s.port p)
    exact ⟨up, ingress, egress, opened, timer, claims, told⟩

/-! ### The end of a transmission (R164, R165) -/

/-- The port as the oldest frame of its queue has been sent, before the next begins. -/
def FarmPort.sent (p : FarmPort) (f : OutFrame) (rest : List OutFrame) : FarmPort :=
  { p with wire := .idle, egress := rest, claims := if f.isEnd then p.claims - 1 else p.claims }

theorem FarmPort.endTx_frame {p : FarmPort} {f : OutFrame} {rest : List OutFrame} (wire : p.wire = .frame)
    (egress : p.egress = f :: rest) : p.endTx = ((FarmPort.sent p f rest).startTx, !f.isEnd) := by
  cases isEnd : f.isEnd <;> simp [FarmPort.endTx, FarmPort.sent, wire, egress, isEnd]

theorem FarmPort.endTx_pause {p : FarmPort} {x : BitVec 16} (wire : p.wire = .pause x) :
    p.endTx = (FarmPort.startTx { p with wire := .idle }, false) := by
  simp [FarmPort.endTx, wire]

section TransmissionEnd
variable {s : State} {p : Port}

theorem State.exec_transmissionEnd_end {f : OutFrame} {rest : List OutFrame} (wire : (s.port p).wire = .frame)
    (egress : (s.port p).egress = f :: rest) (isEnd : f.isEnd = true) :
    exec (.transmissionEnd p) s = .next (s.setPort p (FarmPort.sent (s.port p) f rest).startTx) := by
  simp [exec, execTransmissionEnd, FarmPort.endTx_frame wire egress, isEnd]

theorem State.exec_transmissionEnd_other {f : OutFrame} {rest : List OutFrame} (wire : (s.port p).wire = .frame)
    (egress : (s.port p).egress = f :: rest) (other : f.isEnd = false) :
    exec (.transmissionEnd p) s =
      .next ((s.setPort p (FarmPort.sent (s.port p) f rest).startTx).portTell p .room) := by
  simp [exec, execTransmissionEnd, FarmPort.endTx_frame wire egress, other]

theorem State.exec_transmissionEnd_pause {x : BitVec 16} (wire : (s.port p).wire = .pause x) :
    exec (.transmissionEnd p) s = .next (s.setPort p (FarmPort.startTx { s.port p with wire := .idle })) := by
  simp [exec, execTransmissionEnd, FarmPort.endTx_pause wire]

end TransmissionEnd

/-- Settles O9: what is on the wire, and its end for an END, for another frame and for a pause frame, each
with what begins next. -/
theorem transmissionEnd : Obligations.TransmissionEnd := by
  refine ⟨fun s p => ⟨fun f rest wire egress => ?_, fun x wire => ?_, fun idle => ?_⟩,
    fun s p up => ⟨fun f rest wire egress => ?_, fun x wire => ?_⟩⟩
  · simp [State.sending, FarmPort.sending, wire, egress, OutFrame.payload]
  · simp [State.sending, FarmPort.sending, wire]
  · simp [State.sending, FarmPort.sending, idle]
  · have pause {x xs} := FarmPort.startTx_pause (p := FarmPort.sent (s.port p) f rest) up rfl (x := x) (xs := xs)
    have queue (nothing : (s.port p).pauseOut = []) :=
      (FarmPort.startTx_queue (p := FarmPort.sent (s.port p) f rest) up rfl nothing).2
    cases isEnd : f.isEnd with
    | true =>
      refine ⟨_, State.exec_transmissionEnd_end wire egress isEnd, (s.setPort_unchanged p _).mono (by simp),
        s.setPort_otherPorts p _, ?_⟩
      rw [State.setPort_port_self]
      exact ⟨FarmPort.startTx_egress _, FarmPort.startTx_ingress _,
        fun _ => ⟨(FarmPort.startTx_claims _).trans (if_pos isEnd), rfl⟩, nofun, fun _ _ => pause, queue⟩
    | false =>
      obtain ⟨only, others, port, told⟩ :=
        s.setPort_portTell p (FarmPort.sent (s.port p) f rest).startTx .room
      refine ⟨_, State.exec_transmissionEnd_other wire egress isEnd, only, others, ?_⟩
      rw [port]
      exact ⟨FarmPort.startTx_egress _, FarmPort.startTx_ingress _, nofun,
        fun _ => ⟨(FarmPort.startTx_claims _).trans (if_neg (by simp [isEnd])), told⟩, fun _ _ => pause, queue⟩
  · refine ⟨_, State.exec_transmissionEnd_pause wire, s.setPort_unchanged p _, s.setPort_port_ne p _, ?_⟩
    rw [State.setPort_port_self]
    exact ⟨FarmPort.startTx_egress _, FarmPort.startTx_claims _, FarmPort.startTx_ingress _,
      fun _ _ => FarmPort.startTx_pause (p := { s.port p with wire := .idle }) up rfl,
      FarmPort.startTx_queue (p := { s.port p with wire := .idle }) up rfl⟩

/-! ### The pause state follows the fill (R161) -/

/-- The port as it becomes PAUSING, before its first pause frame is sent. -/
def FarmPort.pausedAt (p : FarmPort) (now : Nat) : FarmPort :=
  { p with pausing := true, repeatTimer := some (now + 20 * msec) }

@[simp] theorem FarmPort.pausedAt_pausing (p : FarmPort) (now : Nat) : (FarmPort.pausedAt p now).pausing = true := rfl
@[simp] theorem FarmPort.pausedAt_off (p : FarmPort) (now : Nat) : (FarmPort.pausedAt p now).off = p.off := rfl

section Examine
variable {p : FarmPort} {fill now : Nat}

/-- An OPEN port whose fill passes ON is PAUSING, with the repeat timer running. -/
theorem FarmPort.examineAt_pauses (up : p.up = true) (opened : p.pausing = false) (high : p.on * 1024 < fill) :
    p.examineAt fill now = (FarmPort.pausedAt p now).sendPause 65535 := by
  simp [FarmPort.examineAt, FarmPort.pausedAt, up, opened, high]

theorem FarmPort.examineAt_pausing_of_open (up : p.up = true) (opened : p.pausing = false) :
    (p.examineAt fill now).pausing = true ↔ p.on * 1024 < fill := by
  rcases Nat.lt_or_ge (p.on * 1024) fill with high | low
  · simp [FarmPort.examineAt_pauses up opened high, high]
  · simp [FarmPort.examineAt_stays now (.inr (.inr ⟨opened, low⟩)), opened, low]

theorem FarmPort.examineAt_open_of_pausing (up : p.up = true) (pausing : p.pausing = true) :
    (p.examineAt fill now).pausing = false ↔ fill ≤ p.off * 1024 := by
  rcases Nat.lt_or_ge (p.off * 1024) fill with high | low
  · simp [FarmPort.examineAt_stays now (.inr (.inl ⟨pausing, high⟩)), pausing, high]
  · simp [(FarmPort.examineAt_opens now up pausing low).1, low]

/-- A port that stays PAUSING keeps its repeat timer. -/
theorem FarmPort.examineAt_repeatTimer (pausing : p.pausing = true) (still : (p.examineAt fill now).pausing = true) :
    (p.examineAt fill now).repeatTimer = p.repeatTimer := by
  cases up : p.up with
  | false => rw [FarmPort.examineAt_stays now (.inl up)]
  | true =>
    have high : p.off * 1024 < fill := Nat.not_le.1 fun low => by
      simp [(FarmPort.examineAt_open_of_pausing up pausing).2 low] at still
    rw [FarmPort.examineAt_stays now (.inr (.inl ⟨pausing, high⟩))]

/-- As bytes are written the fill passes ON once, whether at the first byte or later. -/
theorem FarmPort.examineRise_pauses {n : Nat} (up : p.up = true) (opened : p.pausing = false) (order : p.off < p.on)
    (written : 0 < n) (high : p.on * 1024 < p.fill + n) :
    p.examineRise n now = (FarmPort.pausedAt p now).sendPause 65535 := by
  rw [FarmPort.examineRise, if_neg written.ne']
  rcases Nat.lt_or_ge (p.on * 1024) (p.fill + 1) with first | later
  · rw [FarmPort.examineAt_pauses up opened first]
    refine FarmPort.examineAt_stays now (.inr (.inl ⟨by simp, ?_⟩))
    calc ((FarmPort.pausedAt p now).sendPause 65535).off * 1024 = p.off * 1024 := by simp
      _ ≤ p.on * 1024 := Nat.mul_le_mul_right _ order.le
      _ < p.fill + 1 := first
      _ ≤ p.fill + n := Nat.add_le_add_left written _
  · rw [FarmPort.examineAt_stays now (.inr (.inr ⟨opened, later⟩)), FarmPort.examineAt_pauses up opened high]

theorem FarmPort.examineRise_stays {n : Nat} (opened : p.pausing = false) (low : p.fill + n ≤ p.on * 1024) :
    p.examineRise n now = p := by
  unfold FarmPort.examineRise
  split
  · rfl
  · rw [FarmPort.examineAt_stays now (.inr (.inr ⟨opened, by omega⟩)),
      FarmPort.examineAt_stays now (.inr (.inr ⟨opened, low⟩))]

end Examine

/-- Two states of a port differ at most in the pause state, its timer, the wire and the pause frames that wait. -/
def FarmPort.PauseOnly (p q : FarmPort) : Prop :=
  ∃ b r w o, q = { p with pausing := b, repeatTimer := r, wire := w, pauseOut := o }

section PauseOnly
variable {p q r : FarmPort}

theorem FarmPort.PauseOnly.refl (p : FarmPort) : FarmPort.PauseOnly p p := ⟨_, _, _, _, rfl⟩

theorem FarmPort.PauseOnly.trans (h : FarmPort.PauseOnly p q) (k : FarmPort.PauseOnly q r) :
    FarmPort.PauseOnly p r := by
  obtain ⟨_, _, _, _, rfl⟩ := h
  obtain ⟨_, _, _, _, rfl⟩ := k
  exact ⟨_, _, _, _, rfl⟩

theorem FarmPort.PauseOnly.claims_egress (h : FarmPort.PauseOnly p q) : q.claims = p.claims ∧ q.egress = p.egress := by
  obtain ⟨_, _, _, _, rfl⟩ := h
  exact ⟨rfl, rfl⟩

theorem FarmPort.PauseOnly.frames_counts (h : FarmPort.PauseOnly p q) :
    q.ingress = p.ingress ∧ q.admitted = p.admitted ∧ q.rewoundBad = p.rewoundBad ∧
      q.rewoundRoom = p.rewoundRoom := by
  obtain ⟨_, _, _, _, rfl⟩ := h
  exact ⟨rfl, rfl, rfl, rfl⟩

theorem FarmPort.PauseOnly.unknownSource (h : FarmPort.PauseOnly p q) : q.unknownSource = p.unknownSource := by
  obtain ⟨_, _, _, _, rfl⟩ := h
  rfl

theorem FarmPort.examineAt_pauseOnly (p : FarmPort) (fill now : Nat) :
    FarmPort.PauseOnly p (p.examineAt fill now) :=
  FarmPort.examineAt_rest p fill now

theorem FarmPort.examineRise_pauseOnly (p : FarmPort) (n now : Nat) :
    FarmPort.PauseOnly p (p.examineRise n now) := by
  unfold FarmPort.examineRise
  split
  · exact .refl p
  · exact (FarmPort.examineAt_pauseOnly p _ now).trans (FarmPort.examineAt_pauseOnly _ _ now)

end PauseOnly

/-! ### Received pauses, the repeat timer and new thresholds (R161 to R163) -/

section PauseEvents
variable {p : FarmPort} {now : Nat}

theorem FarmPort.takePause_zero (up : p.up = true) :
    p.takePause 0 now = FarmPort.startTx { p with receivedPause := none } := by
  simp [FarmPort.takePause, up]

theorem FarmPort.takePause_time (up : p.up = true) {n : BitVec 16} (time : n ≠ 0) :
    p.takePause n now = { p with receivedPause := some (now + 512 * n.toNat) } := by
  simp only [FarmPort.takePause, up, Bool.not_true, Bool.false_eq_true, if_false, if_neg time, pauseUnits]

theorem FarmPort.takePause_claims_egress (n : BitVec 16) :
    (p.takePause n now).claims = p.claims ∧ (p.takePause n now).egress = p.egress := by
  unfold FarmPort.takePause
  split
  · exact ⟨rfl, rfl⟩
  · split <;> simp

theorem FarmPort.endPause_due {d : Nat} (running : p.receivedPause = some d) (past : d ≤ now) :
    p.endPause now = FarmPort.startTx { p with receivedPause := none } := by
  simp [FarmPort.endPause, due, running, past]

theorem FarmPort.repeatPause_due {d : Nat} (pausing : p.pausing = true) (running : p.repeatTimer = some d)
    (past : d ≤ now) :
    p.repeatPause now = FarmPort.sendPause { p with repeatTimer := some (now + 20 * msec) } 65535 := by
  simp [FarmPort.repeatPause, due, pausing, running, past]

theorem State.exec_receivedPause (s : State) (p : Port) (n : BitVec 16) :
    exec (.receivedPause p n true) s = .next (s.setPort p ((s.port p).takePause n s.now)) := rfl

/-- With the received pause ended, an idle transmitter begins the oldest frame of the queue. -/
theorem FarmPort.startTx_unpaused (up : p.up = true) (idle : p.wire = .idle) (nothing : p.pauseOut = [])
    (egress : p.egress ≠ []) : (FarmPort.startTx { p with receivedPause := none }).wire = .frame := by
  obtain ⟨-, begins, -⟩ := FarmPort.startTx_queue (p := { p with receivedPause := none }) up idle nothing
  exact begins.2 ⟨egress, rfl⟩

end PauseEvents

section Thresholds
variable {s : State} {p : Port}

/-- The port with the thresholds it has taken, its pause state judged by them. -/
def FarmPort.withThresholds (p : FarmPort) (on off now : Nat) : FarmPort :=
  FarmPort.examine { p with on, off } now

theorem State.exec_thresholdsTaken {on off : Nat} {rest : List (Nat × Nat)}
    (waiting : (s.pmail p).thresholds = (on, off) :: rest) :
    exec (.thresholdsTaken p) s = .next ((s.setPmail p { s.pmail p with thresholds := rest }).setPort p
      (FarmPort.withThresholds (s.port p) on off s.now)) := by
  simp only [exec, execThresholdsTaken, waiting]
  rfl

theorem FarmPort.withThresholds_held (p : FarmPort) (on off now : Nat) :
    (FarmPort.withThresholds p on off now).on = on ∧ (FarmPort.withThresholds p on off now).off = off ∧
      (FarmPort.withThresholds p on off now).ingress = p.ingress ∧
      (FarmPort.withThresholds p on off now).egress = p.egress := by
  obtain ⟨b, r, w, o, new⟩ := FarmPort.examineAt_rest { p with on, off } p.fill now
  have held : FarmPort.withThresholds p on off now = _ := new
  rw [held]
  exact ⟨rfl, rfl, rfl, rfl⟩

end Thresholds

/-- Settles O8: each event by the change it makes to the one port. -/
theorem pauseEvents : Obligations.PauseEvents := by
  refine fun s p => ⟨fun n up time => ?_, fun up => ?_, fun n => rfl, fun d running past => ?_,
    fun d up pausing running past nothing => ?_, fun on off rest waiting order => ?_⟩
  · refine ⟨_, s.exec_receivedPause p _, s.setPort_unchanged p _, s.setPort_port_ne p _, ?_⟩
    rw [State.setPort_port_self, FarmPort.takePause_time up time]
  · refine ⟨_, s.exec_receivedPause p _, s.setPort_unchanged p _, s.setPort_port_ne p _, ?_⟩
    rw [State.setPort_port_self, FarmPort.takePause_zero up]
    exact ⟨FarmPort.startTx_receivedPause _, FarmPort.startTx_egress _, FarmPort.startTx_unpaused up⟩
  · refine ⟨_, rfl, s.setPort_unchanged p _, s.setPort_port_ne p _, ?_⟩
    rw [State.setPort_port_self, FarmPort.endPause_due running past]
    exact ⟨FarmPort.startTx_receivedPause _, FarmPort.startTx_egress _, FarmPort.startTx_unpaused⟩
  · refine ⟨_, rfl, s.setPort_unchanged p _, s.setPort_port_ne p _, ?_⟩
    rw [State.setPort_port_self, FarmPort.repeatPause_due pausing running past]
    refine ⟨(FarmPort.sendPause_pausing _ _).trans pausing, FarmPort.sendPause_repeatTimer _ _,
      fun idle => FarmPort.sendPause_idle _ _ up idle nothing, fun busy => ?_⟩
    obtain ⟨wire, waits⟩ :=
      FarmPort.sendPause_busy { s.port p with repeatTimer := some (s.now + 20 * msec) } 65535 busy
    exact ⟨wire, by rw [waits, nothing]; rfl⟩
  · obtain ⟨onHeld, offHeld, ingress, egress⟩ := FarmPort.withThresholds_held (s.port p) on off s.now
    refine ⟨_, State.exec_thresholdsTaken waiting,
      ((s.setPmail_unchanged p _).mono (by simp)).trans ((State.setPort_unchanged _ p _).mono (by simp)),
      fun q hq => ⟨State.setPort_port_ne _ p _ q hq, s.setPmail_pmail_ne p _ q hq⟩, s.setPmail_pmail_self p _, ?_⟩
    rw [State.setPort_port_self]
    exact ⟨onHeld, offHeld, ingress, egress, FarmPort.examineAt_pausing_of_open (p := { s.port p with on, off }),
      FarmPort.examineAt_open_of_pausing (p := { s.port p with on, off }),
      FarmPort.examineAt_repeatTimer (p := { s.port p with on, off })⟩

/-! ### An arriving frame (R157, R158) -/

section WriteResult
variable {room : Nat} {f : InFrame}

theorem writeResult_complete (short : f.payload.length ≤ 9000) (fits : f.length ≤ room) (good : f.good = true) :
    writeResult room f = .complete := by
  simp [writeResult, short, Nat.not_lt.2 fits, good]

theorem writeResult_badCheck (short : f.payload.length ≤ 9000) (fits : f.length ≤ room) (bad : f.good = false) :
    writeResult room f = .badCheck := by
  simp [writeResult, short, Nat.not_lt.2 fits, bad]

theorem writeResult_excessLength (long : 9000 < f.payload.length) (fits : 9014 < room) :
    writeResult room f = .excessLength := by
  simp [writeResult, Nat.not_le.2 long, Nat.not_lt.2 fits.le, fits.ne']

/-- A frame is written up to its 9,000th payload byte at most, and fails where the buffer is full before. -/
theorem writeResult_lackOfRoom (full : room < min 9014 f.length) : writeResult room f = .lackOfRoom := by
  obtain ⟨most, whole⟩ := Nat.lt_min.1 full
  simp [writeResult, most, whole]

end WriteResult

/-- The port as a frame begins to be written (R157). -/
def FarmPort.atFrameHead (p : FarmPort) : FarmPort := { p with frameHead := p.writePos }

section TakeAlt
variable {p : FarmPort} {f : InFrame} (now : Nat)

/-- The whole frame becomes the newest complete one, with the pause state as its last byte left it. -/
theorem FarmPort.takeAlt_complete (result : writeResult p.room f = .complete) :
    p.takeAlt f now =
      { (FarmPort.atFrameHead p).examineRise f.length now with
        ingress := p.ingress ++ [f], writePos := (p.writePos + f.length) % 131072, admitted := bump p.admitted } := by
  obtain ⟨b, r, w, o, new⟩ := FarmPort.examineRise_pauseOnly (FarmPort.atFrameHead p) f.length now
  rw [FarmPort.atFrameHead] at new ⊢
  simp only [FarmPort.takeAlt, result, bytesWritten, new]

theorem FarmPort.takeAlt_lackOfRoom (result : writeResult p.room f = .lackOfRoom) :
    FarmPort.PauseOnly { p with frameHead := p.writePos, rewoundRoom := bump p.rewoundRoom } (p.takeAlt f now) := by
  obtain ⟨b, r, w, o, new⟩ := FarmPort.examineRise_pauseOnly (FarmPort.atFrameHead p) p.room now
  rw [FarmPort.atFrameHead] at new
  simp only [FarmPort.takeAlt, result, bytesWritten, new]
  exact FarmPort.PauseOnly.trans ⟨b, r, w, o, rfl⟩ (FarmPort.examineAt_pauseOnly _ _ now)

theorem FarmPort.takeAlt_rewoundBad
    (result : writeResult p.room f = .excessLength ∨ writeResult p.room f = .badCheck) :
    FarmPort.PauseOnly { p with frameHead := p.writePos, rewoundBad := bump p.rewoundBad } (p.takeAlt f now) := by
  obtain ⟨b, r, w, o, new⟩ := FarmPort.examineRise_pauseOnly (FarmPort.atFrameHead p)
    (bytesWritten p.room f (writeResult p.room f)) now
  rcases result with result | result <;>
  · rw [result, FarmPort.atFrameHead] at new
    simp only [FarmPort.takeAlt, result, new]
    exact FarmPort.PauseOnly.trans ⟨b, r, w, o, rfl⟩ (FarmPort.examineAt_pauseOnly _ _ now)

theorem FarmPort.takeAlt_claims_egress (p : FarmPort) (f : InFrame) :
    (p.takeAlt f now).claims = p.claims ∧ (p.takeAlt f now).egress = p.egress := by
  cases result : writeResult p.room f with
  | complete =>
    rw [FarmPort.takeAlt_complete now result]
    exact (FarmPort.examineRise_pauseOnly (FarmPort.atFrameHead p) f.length now).claims_egress
  | lackOfRoom => exact (FarmPort.takeAlt_lackOfRoom now result).claims_egress
  | excessLength => exact (FarmPort.takeAlt_rewoundBad now (.inl result)).claims_egress
  | badCheck => exact (FarmPort.takeAlt_rewoundBad now (.inr result)).claims_egress

/-- A frame admitted: it is the newest complete one and is counted, and nothing else is (R157, R167). -/
theorem FarmPort.takeAlt_admits (result : writeResult p.room f = .complete) :
    (p.takeAlt f now).ingress = p.ingress ++ [f] ∧ (p.takeAlt f now).admitted = bump p.admitted ∧
      (p.takeAlt f now).rewoundBad = p.rewoundBad ∧ (p.takeAlt f now).rewoundRoom = p.rewoundRoom ∧
      (p.takeAlt f now).fill = p.fill + f.length := by
  obtain ⟨-, -, bad, room⟩ :=
    (FarmPort.examineRise_pauseOnly (FarmPort.atFrameHead p) f.length now).frames_counts
  rw [FarmPort.takeAlt_complete now result]
  exact ⟨rfl, rfl, bad, room, by simp [FarmPort.fill]⟩

/-- A frame admitted to an OPEN port makes it PAUSING where the fill passes ON (R161). -/
theorem FarmPort.takeAlt_pauses (result : writeResult p.room f = .complete) (up : p.up = true)
    (opened : p.pausing = false) (order : p.off < p.on) (high : p.on * 1024 < p.fill + f.length) :
    (p.takeAlt f now).pausing = true ∧ (p.takeAlt f now).repeatTimer = some (now + 20 * msec) ∧
      (p.wire = .idle → p.pauseOut = [] →
        (p.takeAlt f now).wire = .pause 65535 ∧ (p.takeAlt f now).pauseOut = []) ∧
      (p.wire ≠ .idle →
        (p.takeAlt f now).wire = p.wire ∧ (p.takeAlt f now).pauseOut = p.pauseOut ++ [65535]) := by
  have written : 0 < f.length := by simp [InFrame.length]
  have pauses := FarmPort.examineRise_pauses (p := FarmPort.atFrameHead p) (now := now) up opened order
    written high
  rw [FarmPort.takeAlt_complete now result, pauses]
  exact ⟨FarmPort.sendPause_pausing _ _, FarmPort.sendPause_repeatTimer _ _,
    FarmPort.sendPause_idle (FarmPort.pausedAt (FarmPort.atFrameHead p) now) 65535 up,
    FarmPort.sendPause_busy (FarmPort.pausedAt (FarmPort.atFrameHead p) now) 65535⟩

/-- A frame admitted to an OPEN port leaves it OPEN where the fill stays at or below ON (R161). -/
theorem FarmPort.takeAlt_stays_open (result : writeResult p.room f = .complete) (opened : p.pausing = false)
    (low : p.fill + f.length ≤ p.on * 1024) :
    (p.takeAlt f now).pausing = false ∧ (p.takeAlt f now).repeatTimer = p.repeatTimer ∧
      (p.takeAlt f now).wire = p.wire := by
  have stays := FarmPort.examineRise_stays (p := FarmPort.atFrameHead p) (now := now) opened low
  rw [FarmPort.takeAlt_complete now result, stays]
  exact ⟨opened, rfl, rfl⟩

end TakeAlt

section TakeFrame
variable {p : FarmPort} {f : InFrame} (now : Nat)

theorem FarmPort.takeOther_pauseOnly (p : FarmPort) :
    FarmPort.PauseOnly (FarmPort.atFrameHead p) (p.takeOther now) :=
  (FarmPort.examineRise_pauseOnly _ _ now).trans (FarmPort.examineAt_pauseOnly _ _ now)

theorem FarmPort.takeFrame_down (down : p.up = false) : p.takeFrame f now = p := by
  simp [FarmPort.takeFrame, down]

theorem FarmPort.takeFrame_alt (up : p.up = true) (type : f.type = .alt) : p.takeFrame f now = p.takeAlt f now := by
  simp [FarmPort.takeFrame, up, type]

theorem FarmPort.takeFrame_other (up : p.up = true) (type : f.type = .other) :
    p.takeFrame f now = p.takeOther now := by
  simp [FarmPort.takeFrame, up, type]

theorem FarmPort.takeFrame_pause {x : BitVec 16} (type : f.type = .pause x) :
    p.takeFrame f now = if f.good then p.takePause x now else p := by
  cases up : p.up <;> simp [FarmPort.takeFrame, FarmPort.takePause, up, type]

/-- Nothing that arrives touches the egress queue or its claims. -/
theorem FarmPort.takeFrame_claims_egress (p : FarmPort) (f : InFrame) :
    (p.takeFrame f now).claims = p.claims ∧ (p.takeFrame f now).egress = p.egress := by
  cases up : p.up with
  | false => simp [FarmPort.takeFrame_down now up]
  | true =>
    cases type : f.type with
    | alt =>
      rw [FarmPort.takeFrame_alt now up type]
      exact FarmPort.takeAlt_claims_egress now p f
    | other =>
      rw [FarmPort.takeFrame_other now up type]
      exact (FarmPort.takeOther_pauseOnly now p).claims_egress
    | pause x =>
      rw [FarmPort.takeFrame_pause now type]
      split
      · exact FarmPort.takePause_claims_egress x
      · exact ⟨rfl, rfl⟩

end TakeFrame

/-- Settles O7: by the type of the frame and, for type B7A6h, by the first failure met. -/
theorem ingressFrame : Obligations.IngressFrame := by
  intro s p f
  obtain ⟨claims, egress⟩ := FarmPort.takeFrame_claims_egress s.now (s.port p) f
  refine ⟨_, rfl, s.setPort_unchanged p _, s.setPort_port_ne p _, ?_⟩
  rw [State.setPort_port_self]
  refine ⟨claims, egress, FarmPort.takeFrame_down s.now, fun up type short fits good => ?_,
    fun up type short fits bad => ?_, fun up type long fits => ?_, fun up type full => ?_, fun up type => ?_,
    fun x type => ⟨fun good => ?_, fun bad => ?_⟩⟩
  · have result := writeResult_complete (room := (s.port p).room) short (Nat.le_sub_of_add_le' fits) good
    rw [FarmPort.takeFrame_alt s.now up type]
    obtain ⟨newest, admitted, rewoundBad, rewoundRoom, fill⟩ := FarmPort.takeAlt_admits s.now result
    exact ⟨newest, admitted, rewoundBad, rewoundRoom, fill, fun opened order =>
      ⟨FarmPort.takeAlt_pauses s.now result up opened order, FarmPort.takeAlt_stays_open s.now result opened⟩⟩
  · have result := writeResult_badCheck (room := (s.port p).room) short (Nat.le_sub_of_add_le' fits) bad
    rw [FarmPort.takeFrame_alt s.now up type]
    exact (FarmPort.takeAlt_rewoundBad s.now (.inr result)).frames_counts
  · have result := writeResult_excessLength (room := (s.port p).room) long (Nat.lt_sub_iff_add_lt'.2 fits)
    rw [FarmPort.takeFrame_alt s.now up type]
    exact (FarmPort.takeAlt_rewoundBad s.now (.inl result)).frames_counts
  · have room : (s.port p).room < min 9014 f.length := by
      have written : 0 < f.length := by simp [InFrame.length]
      unfold FarmPort.room
      omega
    rw [FarmPort.takeFrame_alt s.now up type]
    exact (FarmPort.takeAlt_lackOfRoom s.now (writeResult_lackOfRoom room)).frames_counts
  · have kept := FarmPort.takeOther_pauseOnly s.now (s.port p)
    obtain ⟨complete, admitted, rewoundBad, rewoundRoom⟩ := kept.frames_counts
    rw [FarmPort.takeFrame_other s.now up type]
    exact ⟨complete, admitted, rewoundBad, rewoundRoom, kept.unknownSource⟩
  · simp only [exec, execIngressFrame, execReceivedPause, FarmPort.takeFrame_pause s.now type, good, if_true]
  · rw [FarmPort.takeFrame_pause s.now type, bad]
    rfl

end Sys2Proof.Machine
end

section
/-! SUPPORT. Power-on (R179): what each reader finds in the part after POWER_ON and after reset, up to O4 and O60. -/

namespace Sys2Proof.Machine

/-! ### Tables written for a range of numbers -/

theorem getD_finRange {α : Type} {n : Nat} (f : Fin n → α) (k : Fin n) (d : α) :
    Tbl.getD ((List.finRange n).map fun c => (c.val, f c)) k.val d = f k := by
  have get : Tbl.get ((List.finRange n).map fun c => (c.val, f c)) k.val = some (f k) :=
    get_map_key Fin.val Fin.val_injective f (List.mem_finRange k)
  rw [Tbl.getD, get, Option.getD_some]

/-- A table over the numbers below `n` is one over the keys below `n`. -/
theorem map_range_eq_map_finRange {α : Type} (n : Nat) (f : Nat → α) :
    ((List.range n).map fun k => (k, f k)) = (List.finRange n).map fun c => (c.val, f c.val) := by
  rw [← List.map_coe_finRange_eq_range, List.map_map]
  rfl

theorem getD_range {α : Type} {n k : Nat} (f : Nat → α) (hk : k < n) (d : α) :
    Tbl.getD ((List.range n).map fun c => (c, f c)) k d = f k := by
  rw [map_range_eq_map_finRange]
  exact getD_finRange (fun c : Fin n => f c.val) ⟨k, hk⟩ d

/-! ### The part after POWER_ON -/

theorem DriveUnit.powerOn_present : DriveUnit.powerOn true = { DriveUnit.absent with
    state := .identifying, inFlight := some (0, .identify), issued := 1, commandTimer := some (secs 10) } := rfl

theorem DriveUnit.powerOn_absent : DriveUnit.powerOn false = DriveUnit.absent := rfl

/-- The lamp is off at power-on, with a disk or without one (R134, R179). -/
theorem Service.powerOn_lamp (present button : Bool) : (Service.powerOn present button).lamp = .off := by
  cases present <;> rfl

section Readers
variable (present buttons : BitVec 24) (links : BitVec 4) (pending : List Instr)

theorem State.powerOn_port (p : Port) : (State.powerOn present buttons links pending).port p =
    FarmPort.powerOn (links.getLsbD p.val) :=
  getD_finRange (fun p : Port => FarmPort.powerOn (links.getLsbD p.val)) p _

theorem State.powerOn_unit (b : Bay) : (State.powerOn present buttons links pending).unit b =
    DriveUnit.powerOn (present.getLsbD b.val) := getD_allBays b _ _

theorem State.powerOn_controls (b : Bay) : (State.powerOn present buttons links pending).controls b =
    Service.powerOn (present.getLsbD b.val) (buttons.getLsbD b.val) := getD_allBays b _ _

theorem State.powerOn_delivery (p : Port) : (State.powerOn present buttons links pending).delivery p = [] :=
  getD_range (fun _ => []) p.isLt _

theorem State.powerOn_pmail (p : Port) : (State.powerOn present buttons links pending).pmail p = {} :=
  getD_range (fun _ => ({} : PortMail)) p.isLt _

theorem State.powerOn_bmail (b : Bay) : (State.powerOn present buttons links pending).bmail b = {} :=
  State.reset_bmail b

theorem State.powerOn_lmBay (b : Bay) : (State.powerOn present buttons links pending).lmBay b = {} :=
  getD_range (fun _ => ({} : LmBay)) b.isLt _

end Readers

/-- Settles O4: the tables of POWER_ON are read at each port and bay, and the presence of a disk decides what its unit
and its lock are. -/
theorem powerOn : Obligations.PowerOn := by
  intro present buttons links s
  refine ⟨State.powerOn present buttons links s.pending, rfl, rfl, rfl, rfl, rfl, rfl, rfl, rfl, fun _ => rfl, rfl,
    rfl, rfl, rfl, rfl, rfl, rfl, rfl, rfl, rfl, rfl, rfl, rfl, rfl, fun p => ?_, fun b => ?_, fun b inside => ?_,
    fun b empty => ?_⟩
  · exact ⟨State.powerOn_port _ _ _ _ p, State.powerOn_delivery _ _ _ _ p, State.powerOn_pmail _ _ _ _ p⟩
  · rw [State.powerOn_controls]
    exact ⟨State.powerOn_bmail _ _ _ _ b, State.powerOn_lmBay _ _ _ _ b, rfl, rfl, rfl, rfl,
      Service.powerOn_lamp _ _⟩
  · rw [State.powerOn_unit, State.powerOn_controls, inside]
    exact ⟨DriveUnit.powerOn_present, rfl⟩
  · rw [State.powerOn_unit, State.powerOn_controls, empty]
    exact ⟨DriveUnit.powerOn_absent, rfl⟩

/-! ### The state after reset -/

/-- Reset is POWER_ON with no disk present, every button released and every link DOWN (R179; log entry 3). -/
theorem State.reset_eq_powerOn : State.reset = State.powerOn 0 0 0 [] := by
  have ports : allPorts.map (fun p => (p.val, FarmPort.powerOn false)) = State.reset.ports :=
    (map_range_eq_map_finRange 4 fun _ => FarmPort.powerOn false).symm
  have units : allBays.map (fun b => (b.val, DriveUnit.absent)) = State.reset.units :=
    (map_range_eq_map_finRange 24 fun _ => DriveUnit.absent).symm
  have svc : allBays.map (fun b => (b.val, Service.absent)) = State.reset.svc :=
    (map_range_eq_map_finRange 24 fun _ => Service.absent).symm
  have unpressed : Service.powerOn false false = Service.absent := rfl
  simp only [State.powerOn, BitVec.ofNat_eq_ofNat, BitVec.getLsbD_zero, DriveUnit.powerOn_absent, unpressed, ports,
    units, svc]
  rfl

theorem State.reset_unit (b : Bay) : State.reset.unit b = DriveUnit.absent :=
  getD_range (fun _ => DriveUnit.absent) b.isLt _

theorem State.reset_controls (b : Bay) : State.reset.controls b = Service.absent :=
  getD_range (fun _ => Service.absent) b.isLt _

theorem State.reset_commandLaw : CommandLaw State.reset := fun b => by
  rw [State.reset_unit]
  exact DriveUnit.lawful_resting rfl rfl rfl rfl (.inl rfl)

theorem State.reset_outputLaw : OutputLaw State.reset := fun b => by
  rw [State.reset_unit, State.reset_controls]
  exact ⟨rfl, rfl⟩

theorem State.reset_channelLaw : ChannelLaw State.reset := by
  refine ⟨rfl, rfl, rfl, fun b => ?_⟩
  rw [State.reset_bmail]
  exact ⟨rfl, rfl⟩

theorem State.reset_spinUpLaw : SpinUpLaw State.reset :=
  execPowerOn_spinUpLaw State.reset State.reset 0 0 0 (congrArg Host.Outcome.next State.reset_eq_powerOn.symm)

/-- No volume is defined. -/
theorem State.reset_diskMapLaw : DiskMapLaw State.reset := fun _ _ _ _ _ _ _ _ defined => nomatch defined

/-- Every table is empty. -/
theorem State.reset_capacityLaw : CapacityLaw State.reset :=
  ⟨rfl, rfl, rfl, rfl, fun _ => (by decide : 0 < 64), rfl, rfl, rfl⟩

/-- Settles O60. -/
theorem resetLawful : Obligations.ResetLawful :=
  ⟨State.reset_eq_powerOn, rfl, State.reset_commandLaw, State.reset_outputLaw, State.reset_channelLaw,
    State.reset_spinUpLaw, State.reset_diskMapLaw, State.reset_capacityLaw⟩

end Sys2Proof.Machine
end

section
/-! SUPPORT. The soft reset and the notices at the management agent (R172, R177, R178): RESET_PART, the reports that a
share is finished and the notice of a block, up to O51. -/

namespace Sys2Proof.Machine

variable {s : State} {p : Port} {f : InFrame} {h : Header} {r : Running} {n : Notice} {rest : List AgentMsg} {b : Bay}

/-! ### RESET_PART -/

/-- A reset is answered BUSY while one runs or with the list full (R172, R178). -/
theorem State.exec_resetPart_busy (ask : s.Asks 0x07 p f h)
    (busy : s.agent.running.isSome = true ∨ 64 ≤ s.agent.progress.length) :
    exec .resetPart s = .next ((s.accepted p).answer (h.status .busy)) := by
  have full : (s.accepted p).agent.running.isSome = true ∨ 64 ≤ (s.accepted p).agent.progress.length := by
    rwa [State.accepted_agent]
  simp only [exec, execResetPart, s.manage_of_asks _ ask, if_pos full, State.reply]

/-- Else it is listed, waiting for the drains that stand in the list, and sent to both blocks (R178). -/
theorem State.exec_resetPart_starts (ask : s.Asks 0x07 p f h) (idle : s.agent.running = none)
    (room : s.agent.progress.length < 64) :
    exec .resetPart s = .next { s.accepted p with
      agent := { (s.accepted p).agent with
        progress := s.agent.progress ++ [{
          id := s.agent.nextId, tag := h.tag, work := .reset (drainIds s.agent.progress) false }],
        nextId := s.agent.nextId + 1, running := some { lmDone := false, ruDone := false } },
      mail := { s.mail with resetLm := true, resetRu := true } } := by
  have free : ¬ ((s.accepted p).agent.running.isSome = true ∨ 64 ≤ (s.accepted p).agent.progress.length) := by
    simp [State.accepted_agent, idle, room]
  simp only [exec, execResetPart, s.manage_of_asks _ ask, if_neg free]
  simp only [State.startReset, State.addEntry, State.accepted_agent, State.accepted_mail]

/-! ### The shares of a reset -/

/-- The state with another agent. -/
def State.withAgent (s : State) (x : Agent) : State := { s with agent := x }

/-- An answer goes by the slot alone, whatever else the agent holds. -/
theorem State.answer_withAgent (s : State) {x : Agent} (slot : x.slot = s.agent.slot) (a : Answer) :
    (s.withAgent x).answer a = (s.answer a).withAgent x := by
  cases filled : s.agent.slot with
  | none => rw [s.answer_of_no_slot filled, State.answer_of_no_slot (s.withAgent x) (slot.trans filled)]
  | some sl =>
    rw [s.answer_of_slot filled, State.answer_of_slot (s.withAgent x) (slot.trans filled)]
    rfl

theorem State.answers_withAgent (l : List Answer) (s : State) {x : Agent} (slot : x.slot = s.agent.slot) :
    l.foldl State.answer (s.withAgent x) = (l.foldl State.answer s).withAgent x := by
  induction l generalizing s with
  | nil => rfl
  | cons a l ih =>
    rw [List.foldl_cons, s.answer_withAgent slot, ih (s.answer a) (by rwa [State.answer_agent]), List.foldl_cons]

/-- With one share still out, the reset runs on (R178). -/
theorem State.sharesTaken_of_out (out : (r.lmDone && r.ruDone) = false) :
    s.sharesTaken r = { s with agent := { s.agent with running := some r } } := by
  simp only [State.sharesTaken, out, Bool.false_eq_true, if_false]

/-- With both shares reported no reset runs, and the resets that wait for no drain still held are answered and leave
the list (R178). -/
theorem State.sharesTaken_of_both (both : (r.lmDone && r.ruDone) = true) {ready kept : List Entry}
    (splits : Entry.Splits (s.agent.progress.map Entry.sharesReported) ready kept) :
    s.sharesTaken r = ((resetAnswers ready).foldl State.answer s).withAgent
      { s.agent with running := none, progress := kept } := by
  let ended : Agent :=
    { s.agent with running := none, progress := s.agent.progress.map Entry.sharesReported }
  calc
    s.sharesTaken r = (s.withAgent ended).checkReset := by
      simp only [State.sharesTaken, both, if_true]
      rfl
    _ = ((resetAnswers ready).foldl State.answer (s.withAgent ended)).withProgress kept :=
      State.checkReset_eq _ splits
    _ = _ := by
      rw [State.answers_withAgent _ s (x := ended) rfl]
      rfl

theorem State.shareDone_loanManager (running : s.agent.running = some r) :
    s.shareDone .loanManager = s.sharesTaken { r with lmDone := true } := by
  simp only [State.shareDone, running]

theorem State.shareDone_requestUnit (running : s.agent.running = some r) :
    s.shareDone .requestUnit = s.sharesTaken { r with ruDone := true } := by
  simp only [State.shareDone, running]

/-! ### RESET_SHARE_FINISHED -/

section Taken
variable (settled : settledChannel rest = true)
include settled

theorem State.exec_loanManagerShare (head : s.mail.lmToAgent = .resetFinished :: rest) :
    exec (.resetShareFinished .loanManager) s = .next
      { s.shareDone .loanManager with mail := { s.mail with lmToAgent := rest } } := by
  have mail : (s.shareDone .loanManager).mail = s.mail := s.shareDone_unchanged _ .mail (by simp)
  simp only [exec, execResetShareFinished, head, settle_settled _ _ settled, mail]

theorem State.exec_requestUnitShare (head : s.mail.ruToAgent = .resetFinished :: rest) :
    exec (.resetShareFinished .requestUnit) s = .next
      { s.shareDone .requestUnit with mail := { s.mail with ruToAgent := rest } } := by
  have mail : (s.shareDone .requestUnit).mail = s.mail := s.shareDone_unchanged _ .mail (by simp)
  simp only [exec, execResetShareFinished, head, settle_settled _ _ settled, mail]

/-- The report of the share that was out ends the reset (R178). -/
theorem State.exec_lastShare (running : s.agent.running = some r) (c : ResetShare)
    (last : (c = .loanManager ∧ s.mail.lmToAgent = .resetFinished :: rest ∧ r.ruDone = true) ∨
      (c = .requestUnit ∧ s.mail.ruToAgent = .resetFinished :: rest ∧ r.lmDone = true)) :
    ∃ q : Running, (q.lmDone && q.ruDone) = true ∧ exec (.resetShareFinished c) s = .next { s.sharesTaken q with
      mail := if c = .loanManager then { s.mail with lmToAgent := rest }
        else { s.mail with ruToAgent := rest } } := by
  obtain ⟨rfl, head, other⟩ | ⟨rfl, head, other⟩ := last
  · have next := State.exec_loanManagerShare settled head
    rw [State.shareDone_loanManager running] at next
    exact ⟨{ r with lmDone := true }, other, next⟩
  · have next := State.exec_requestUnitShare settled head
    rw [State.shareDone_requestUnit running] at next
    exact ⟨{ r with ruDone := true }, by simp [other], next⟩

end Taken

/-! ### MANAGER_NOTICE -/

theorem State.takeNotice_of_no_slot (empty : s.agent.slot = none) : s.takeNotice n = s := by
  simp only [State.takeNotice, empty]

theorem State.takeNotice_of_slot {sl : Slot} (filled : s.agent.slot = some sl) :
    s.takeNotice n = { s.place sl.port (n.frame sl.addr sl.seq) with
      agent := { s.agent with slot := some { sl with seq := sl.seq + 1 } } } := by
  simp only [State.takeNotice, filled]

theorem State.takeNotice_mail (s : State) (n : Notice) : (s.takeNotice n).mail = s.mail :=
  s.takeNotice_unchanged n .mail (by simp)

theorem State.takeNotice_bmail (s : State) (n : Notice) (b : Bay) : (s.takeNotice n).bmail b = s.bmail b :=
  s.takeMessage_bmail (.notice n) b

theorem State.takeNotice_otherBays (s : State) (n : Notice) (b : Bay) : OtherBaysUnchanged b s (s.takeNotice n) :=
  .of_parts (s.takeNotice_unchanged n) (by simp) (by simp) (by simp) (by simp)

section Notices
variable (settled : settledChannel rest = true)
include settled

theorem State.exec_loanManagerNotice (head : s.mail.lmToAgent = .notice n :: rest) :
    exec (.managerNotice .loanManager) s = .next
      { s.takeNotice n with mail := { s.mail with lmToAgent := rest } } := by
  simp only [exec, execManagerNotice, head, settle_settled _ _ settled, s.takeNotice_mail]

theorem State.exec_nodeBlockNotice (head : s.mail.nodeToAgent = .notice n :: rest) :
    exec (.managerNotice .nodeBlock) s = .next
      { s.takeNotice n with mail := { s.mail with nodeToAgent := rest } } := by
  simp only [exec, execManagerNotice, head, settle_settled _ _ settled, s.takeNotice_mail]

theorem State.exec_driveUnitNotice (head : (s.bmail b).unitToAgent = .notice n :: rest) :
    exec (.managerNotice (.driveUnit b)) s = .next
      ((s.takeNotice n).setBmail b { s.bmail b with unitToAgent := rest }) := by
  simp only [exec, execManagerNotice, head, settle_settled _ _ settled, s.takeNotice_bmail]

theorem State.exec_serviceNotice (head : (s.bmail b).svcToAgent = .notice n :: rest) :
    exec (.managerNotice (.service b)) s = .next
      ((s.takeNotice n).setBmail b { s.bmail b with svcToAgent := rest }) := by
  simp only [exec, execManagerNotice, head, settle_settled _ _ settled, s.takeNotice_bmail]

/-- From any of the four sources the agent takes the notice, and it leaves its channel: that of a block in `m`, or
that of a bay in `k`. -/
theorem State.exec_managerNotice {src : NoticeSource} {m : Mail} {k : BayMail}
    (source : (src = .loanManager ∧ s.mail.lmToAgent = .notice n :: rest ∧ k = s.bmail b ∧
        m = { s.mail with lmToAgent := rest }) ∨
      (src = .nodeBlock ∧ s.mail.nodeToAgent = .notice n :: rest ∧ k = s.bmail b ∧
        m = { s.mail with nodeToAgent := rest }) ∨
      (src = .driveUnit b ∧ (s.bmail b).unitToAgent = .notice n :: rest ∧ m = s.mail ∧
        k = { s.bmail b with unitToAgent := rest }) ∨
      (src = .service b ∧ (s.bmail b).svcToAgent = .notice n :: rest ∧ m = s.mail ∧
        k = { s.bmail b with svcToAgent := rest })) :
    ∃ t, exec (.managerNotice src) s = .next t ∧ OtherBaysUnchanged b s t ∧ t.mail = m ∧ t.bmail b = k ∧
      t.ports = (s.takeNotice n).ports ∧ t.agent = (s.takeNotice n).agent := by
  have others := s.takeNotice_otherBays n b
  have bay (x : BayMail) := others.trans (State.setBmail_otherBays (s.takeNotice n) b x)
  obtain ⟨rfl, head, rfl, rfl⟩ | ⟨rfl, head, rfl, rfl⟩ | ⟨rfl, head, rfl, rfl⟩ | ⟨rfl, head, rfl, rfl⟩ := source
  · exact ⟨_, State.exec_loanManagerNotice settled head, others, rfl, s.takeNotice_bmail n b, rfl, rfl⟩
  · exact ⟨_, State.exec_nodeBlockNotice settled head, others, rfl, s.takeNotice_bmail n b, rfl, rfl⟩
  · exact ⟨_, State.exec_driveUnitNotice settled head, bay _, s.takeNotice_mail n,
      State.setBmail_bmail_self _ b _, rfl, rfl⟩
  · exact ⟨_, State.exec_serviceNotice settled head, bay _, s.takeNotice_mail n,
      State.setBmail_bmail_self _ b _, rfl, rfl⟩

end Notices

/-! ### O51 -/

/-- Settles O51: what the agent takes of a settled channel is its head alone, a share by `State.sharesTaken` and a
notice by `State.takeNotice`. -/
theorem softResetAndNotices : Obligations.SoftResetAndNotices := by
  refine ⟨?_, fun s r rest running settled => ⟨fun head out => ?_, fun head out => ?_, fun c last => ?_⟩,
    fun s n => ⟨fun empty => State.takeNotice_of_no_slot empty, fun sl filled => State.takeNotice_of_slot filled,
      fun rest head settled => State.exec_loanManagerShare settled head⟩, ?_⟩
  · rintro s p f h a ask rfl
    exact ⟨State.exec_resetPart_busy ask, State.exec_resetPart_starts ask⟩
  · rw [State.exec_loanManagerShare settled head, State.shareDone_loanManager running,
      State.sharesTaken_of_out (by simp [out])]
  · rw [State.exec_requestUnitShare settled head, State.shareDone_requestUnit running,
      State.sharesTaken_of_out (by simp [out])]
  · obtain ⟨q, both, next⟩ := State.exec_lastShare settled running c last
    refine ⟨_, next, execResetShareFinished_frame s _ c next, rfl, fun marked ready kept splits reported => ?_⟩
    have same : marked = s.agent.progress.map Entry.sharesReported := reported.trans <|
      List.map_congr_left fun ⟨_, _, work⟩ _ => by cases work <;> rfl
    rw [State.sharesTaken_of_both both (same ▸ splits)]
    exact ⟨rfl, rfl⟩
  · intro s n rest src b m k settled source
    obtain ⟨t, next, others, mail, bay, ports, agent⟩ := State.exec_managerNotice settled source
    refine ⟨t, next, execManagerNotice_frame s t src next, others, mail, bay, fun empty => ?_, fun sl filled => ?_⟩
    · rw [ports, agent, State.takeNotice_of_no_slot empty]
      exact ⟨rfl, rfl⟩
    · rw [ports, agent, State.takeNotice_of_slot filled]
      exact ⟨rfl, rfl⟩

end Sys2Proof.Machine
end

section
/-! SUPPORT. The common header (R180): a number and the bytes that spell it, a field of a header in a frame, and the
round trip of O59. -/

namespace Sys2Proof

open Machine

/-! ### A number and the bytes that spell it -/

theorem ofBe_append_singleton (bs : List Byte) (b : Byte) : ofBe (bs ++ [b]) = ofBe bs * 256 + b.toNat := by
  simp [ofBe]

theorem ofBe_be (n v : Nat) : ofBe (be n v) = v % 256 ^ n := by
  induction n generalizing v with
  | zero => simp [be, ofBe, Nat.mod_one]
  | succ n ih =>
    rw [be, ofBe_append_singleton, ih, BitVec.toNat_ofNat, pow_succ' 256 n, Nat.mod_mul]
    omega

theorem be_ofBe (bs : List Byte) : be bs.length (ofBe bs) = bs := by
  induction bs using List.reverseRecOn with
  | nil => rfl
  | append_singleton bs b ih =>
    have quot : (ofBe bs * 256 + b.toNat) / 256 = ofBe bs := by omega
    have last : BitVec.ofNat 8 (ofBe bs * 256 + b.toNat) = b := by
      apply BitVec.eq_of_toNat_eq
      rw [BitVec.toNat_ofNat]
      omega
    rw [List.length_append, List.length_singleton, be, ofBe_append_singleton, quot, last, ih]

theorem ofBe_lt (bs : List Byte) : ofBe bs < 256 ^ bs.length := by
  rw [← be_ofBe bs, ofBe_be, be_length]
  exact Nat.mod_lt _ (by positivity)

/-! ### A field of a frame -/

/-- A field read where it was written. -/
theorem ofNat_beAt_be {w n : Nat} (width : w = 8 * n) (x : BitVec w) (rest : List Byte) :
    BitVec.ofNat w (beAt (be n x.toNat ++ rest) 0 n) = x := by
  have bytes : (256 : Nat) ^ n = 2 ^ w := by rw [width, pow_mul]; norm_num
  rw [beAt, List.drop_zero, List.take_left' (be_length n _), ofBe_be, bytes, Nat.mod_eq_of_lt x.isLt,
    BitVec.ofNat_toNat, BitVec.setWidth_eq]

/-- A field behind another one. -/
theorem beAt_be_append {n off : Nat} (behind : n ≤ off) (m v : Nat) (rest : List Byte) :
    beAt (be n v ++ rest) off m = beAt rest (off - n) m := by
  rw [beAt, beAt, List.drop_append, be_length, List.drop_eq_nil_of_le (by rwa [be_length]), List.nil_append]

/-- A field that was read, written again behind the bytes that stand before it. -/
theorem take_append_be_beAt {w n off : Nat} {bs : List Byte} (width : w = 8 * n) (room : off + n ≤ bs.length) :
    bs.take off ++ be n (BitVec.ofNat w (beAt bs off n)).toNat = bs.take (off + n) := by
  have size : ((bs.drop off).take n).length = n := by
    rw [List.length_take, List.length_drop]
    omega
  have small : beAt bs off n < 2 ^ w := by
    have bound := ofBe_lt ((bs.drop off).take n)
    rwa [size, show (256 : Nat) = 2 ^ 8 from rfl, ← pow_mul, ← width] at bound
  have spelt : be n (beAt bs off n) = (bs.drop off).take n := by
    simpa only [size, beAt] using be_ofBe ((bs.drop off).take n)
  rw [BitVec.toNat_ofNat, Nat.mod_eq_of_lt small, spelt, List.take_add]

/-! ### The header -/

theorem Header.encode_length (h : Header) : h.encode.length = 48 := by
  simp [Header.encode, be_length]

theorem Header.parse_eq_none_iff (bs : List Byte) : Header.parse bs = none ↔ bs.length < 48 := by
  simp [Header.parse]

/-- Each field is read behind those before it. -/
theorem Header.parse_encode (h : Header) (rest : List Byte) : Header.parse (h.encode ++ rest) = some h := by
  have long : ¬ (h.encode ++ rest).length < 48 := by
    rw [List.length_append, h.encode_length]
    omega
  rw [Header.parse, if_neg long]
  simp [Header.encode, beAt_be_append, ofNat_beAt_be]

/-- The fields are written one behind another, each of which completes a longer prefix of the frame. -/
theorem Header.encode_of_parse {bs : List Byte} {h : Header} (read : Header.parse bs = some h) :
    h.encode = bs.take 48 := by
  have long : 48 ≤ bs.length := by
    by_contra short
    simp [(Header.parse_eq_none_iff bs).2 (by omega)] at read
  rw [Header.parse, if_neg (by omega), Option.some.injEq] at read
  subst read
  rw [Header.encode, ← List.nil_append (be 1 _), ← List.take_zero (l := bs)]
  repeat rw [take_append_be_beAt rfl (by omega)]

/-- Settles O59: a header that is written is read field by field, and a header that was read is written prefix by
prefix. -/
theorem headerRoundTrip : Obligations.HeaderRoundTrip :=
  ⟨fun h rest => ⟨Header.encode_length h, Header.parse_encode h rest⟩, fun _ _ read => Header.encode_of_parse read,
    Header.parse_eq_none_iff⟩

end Sys2Proof
end

section
/-! SUPPORT. The machine's step on its two kinds of queue: the front command of O1, and the passing of time of O2
(log entry 1). -/

namespace Sys2Proof.Machine

variable {s : State} {c : Instr} {rest : List Instr} {d : Nat}

/-! ### The two forms of a step -/

theorem step_of_pending_nil (h : s.pending = []) : step s = .next s.tick := by
  rw [step, h]

theorem step_of_pending_cons (h : s.pending = c :: rest) : step s = exec c { s with pending := rest } := by
  rw [step, h]

/-! ### The passing of time -/

/-- The moments that bound a tick: 1 ms on, and the latest moment of each running timer. -/
def State.tickBounds (s : State) : List Nat := (s.now + msec) :: s.latest

/-- The lowest of those moments is the one a tick passes to, unless it is past. -/
theorem State.tick_now_eq_max (s : State) : ∃ m, s.tickBounds.min? = some m ∧ s.tick.now = max s.now m :=
  ⟨_, List.min?_cons', rfl⟩

theorem State.tick_unchanged (s : State) : UnchangedBut [.now] s s.tick := by
  intro a other
  cases a with
  | now => exact absurd (List.mem_singleton_self _) other
  | _ => rfl

theorem State.now_le_tick (s : State) : s.now ≤ s.tick.now := Nat.le_max_left _ _

/-- The lowest bound is at most every other, so a tick passes none that is still ahead. -/
theorem State.tick_now_le (bound : d ∈ s.tickBounds) (ahead : s.now ≤ d) : s.tick.now ≤ d := by
  obtain ⟨m, least, now⟩ := s.tick_now_eq_max
  rw [now]
  exact max_le ahead ((List.le_min?_iff least).1 le_rfl d bound)

/-- The lowest bound is itself one of them, so where all are ahead the clock moves. -/
theorem State.now_lt_tick (ahead : ∀ d ∈ s.tickBounds, s.now < d) : s.now < s.tick.now := by
  obtain ⟨m, least, now⟩ := s.tick_now_eq_max
  rw [now]
  exact lt_max_of_lt_right (ahead m (List.min?_mem least))

theorem State.now_lt_of_mem_tickBounds (timers : ∀ d ∈ s.latest, s.now < d) : ∀ d ∈ s.tickBounds, s.now < d :=
  List.forall_mem_cons.2 ⟨Nat.lt_add_of_pos_right (by decide), timers⟩

/-- Settles O1: the queue's first command is the one that is executed. -/
theorem stepTakesFront : Obligations.StepTakesFront :=
  fun _ _ _ => step_of_pending_cons rfl

/-- Settles O2: the clock passes to the lowest of the bounds of a tick, which is none of them too far and, where
every timer's latest moment is ahead, a later moment. -/
theorem idleStep : Obligations.IdleStep :=
  fun s empty => ⟨s.tick, step_of_pending_nil empty, s.tick_unchanged, s.now_le_tick,
    State.tick_now_le List.mem_cons_self (Nat.le_add_right _ _),
    fun _ timer ahead => State.tick_now_le (List.mem_cons_of_mem _ timer) ahead,
    fun timers => State.now_lt_tick (State.now_lt_of_mem_tickBounds timers)⟩

end Sys2Proof.Machine
end
